-- ==== Sys2Proof/Word.lean ====
section
/-! DEFINITION. The word types of the device: R1 (bit 0 is the least significant bit) and the widths of R6. -/

namespace Sys2Proof

/-- One byte of a wire format, a byte block or a string. -/
abbrev Byte := BitVec 8

/-- A byte block (DOMAIN), a string (STRING) or a frame, first byte first. -/
abbrev Bytes := List Byte

/-- ST64: the Sundial count of 1/256 ns, modulo 2^64 (R6, R8). -/
abbrev ST64 := BitVec 64

/-- ST32: the low 32 bits of an ST64 (R6). -/
abbrev ST32 := BitVec 32

/-- ANG32: a fraction of a turn, modulo 2^32 (R6, R8). -/
abbrev Ang := BitVec 32

end Sys2Proof
end

