-- ==== Sys2Proof/Syntax.lean ====
section
/-! DEFINITION. The commands of the block: one constructor per row of the spec's table of operations and events, with the
operands a sender or the outside world supplies. -/

namespace Sys2Proof

/-- The data types of R6, coded by R489. -/
inductive DType where
  | bool | u8 | u16 | u32 | u64 | i8 | i16 | i32 | i64 | pu32 | ang32 | st64 | time80 | string | domain
deriving DecidableEq, Repr

/-- A dictionary value: a number of a fixed type, or the bytes of a STRING or DOMAIN. -/
inductive DVal where
  | num (n : Int)
  | bytes (b : Bytes)
deriving DecidableEq, Repr

/-- Who sends a request: an XDP session (sessions 1 to 16 are 0 to 15 here), or a core through queue Q0 or through
the dictionary window (R490, R496, R521). -/
inductive Requester where
  | session (n : Fin 16)
  | queue (core : Fin 4)
  | window (core : Fin 4)
deriving DecidableEq, Repr

/-- The HALT causes, in bit order of entry 0x1100:06 (R39). -/
inductive HaltCause where
  | stale | array | clock | thermal | readback | following | overrun | safeFrame | safetyInput | shearsAll
  | envelope | command
deriving DecidableEq, Repr

/-- A shadow register of the PWM units (R289, R321). -/
inductive PwmReg where
  | period (f : Fin 12)                            -- PERIOD_SH of a Furrow
  | compare (p : Fin 24) (isB : Bool)              -- CMPA_SH or CMPB_SH of a local pair
  | remote (l : Fin 8) (p : Fin 24) (isB : Bool)   -- CMPA_SH or CMPB_SH of a remote pair
deriving DecidableEq, Repr

/-- A node's answer on its gate lane (R308, R312). -/
inductive NodeAnswer where
  | frame (data : Bytes)                           -- a management frame: its nine data characters (R312)
  | echoReply (roundTrip : Nat)                    -- RT in ST64 counts (R317)
deriving DecidableEq, Repr

/-- Where a SHARE_REPORT comes from: array position, member index, and its instant in master time (R557, R562). -/
structure ShareHead where
  src : Fin 8
  member : Fin 4
  instant : BitVec 64
deriving DecidableEq, Repr

/-- One member's part of a SHARE_SET: its index, and the slots to insert (R329, R557). -/
structure SharePart where
  member : Fin 4
  insert : BitVec 64
deriving DecidableEq, Repr

/-- A master's dataset and UTC offset as its Announce carries them (R421). -/
structure MasterInfo where
  priority1 : Nat
  clockClass : Nat
  accuracy : Nat
  variance : Nat
  priority2 : Nat
  identity : Nat
  stepsRemoved : Nat
  utcOffset : Int
deriving DecidableEq, Repr

/-- A peer-delay message: a request, or a response with the peer's turnaround in nanoseconds (R420). -/
inductive PdelayMsg where
  | request
  | response (turnaround : Int)
deriving DecidableEq, Repr

/-- A source of the Sundial (R416): a PTP port, or PPS_IN. -/
inductive TimeSource where
  | ptp (p : Fin 2)
  | pps
deriving DecidableEq, Repr

/-- What the reception of an Ethernet frame tells: port, addresses, VID of its tag (none untagged), size in bytes, PRP
trailer (sequence number and LAN identifier), and the Sundial time of its start at the pin (R463 to R468). -/
structure EthHeader where
  port : Fin 2
  src : Nat
  dst : Nat
  vid : Option Nat
  size : Nat
  trailer : Option (Nat × Nat)
  stamp : BitVec 64
deriving DecidableEq, Repr

/-- One ASDU: smpCnt, smpSynch, and each member's value and quality (R470). -/
structure SvAsdu where
  smpCnt : Nat
  smpSynch : Nat
  members : List (Int × Nat)
deriving DecidableEq, Repr

/-- A Sampled Values frame (R470). -/
structure SvFrame where
  appid : Nat
  svId : Bytes
  confRev : Nat
  secured : Bool
  asdus : List SvAsdu
deriving DecidableEq, Repr

/-- A GOOSE frame (R475, R478). -/
structure GooseFrame where
  appid : Nat
  gocbRef : Bytes
  confRev : Nat
  sim : Bool
  stNum : Nat
  sqNum : Nat
  tal : Nat          -- timeAllowedToLive in ms
  data : Bytes       -- member data as received
deriving DecidableEq, Repr

/-- Why a frame is discarded on reception (R460, R462, R464). -/
inductive DiscardReason where
  | unsupported            -- fragment, IPv6, DHCP, another port or kind
  | pause
  | poolFull (pool : Fin 3)  -- hard, firm, soft
  | screened               -- a frame its size or VID discards
deriving DecidableEq, Repr

/-- The head of a Runner message (R557). -/
structure RunnerHead where
  type : Nat
  src : Nat
  dst : Nat
  seq : Nat
  hops : Nat
deriving DecidableEq, Repr

/-- A transaction of the interconnect (R525): a window access of a core, an entry the device posts to a ring, or a
request a core put in Q0. -/
inductive Transaction where
  | window (core : Fin 4) (index sub : Nat)
  | post (q : Fin 32)
  | request (core : Fin 4) (index sub : Nat)
deriving DecidableEq, Repr

/-- What Rootstock finds in flash at boot (R642, R646, R654): the owner keys of each bank's key block, CERT_DENY, the
network record (address, mask, gateway) where there is one, the images of each bank, and whether the images held in SRAM
still have the measurements of the last verified boot (R600). -/
structure BootFlash where
  keysA : Bytes
  keysB : Bytes
  deny : Bytes
  network : Option (Nat × Nat × Nat)
  bankA : List Bytes
  bankB : List Bytes
  heldGood : Bool
deriving DecidableEq, Repr

/-- What a certificate chain says once its bytes are parsed (R638, R645): its certificates, the SHA-256 of the root's public
key, whether the root signs itself, whether every further certificate verifies under its predecessor's key, whether every
issuer asserts cA, each certificate's SHA-256 and validity (TAI nanoseconds), the INTEGER of the leaf's role extension, and
the leaf's public key. -/
structure ChainFacts where
  count : Nat
  rootHash : Bytes
  selfSigned : Bool
  chained : Bool
  issuersCa : Bool
  hashes : List Bytes
  validity : List (Int × Int)
  role : Option Int
  leafKey : Bytes
deriving DecidableEq, Repr

/-- A HELLO packet (R499, R501); facts are those of the whole chain its last part completes. -/
structure HelloMsg where
  addr : Nat
  port : Nat
  psn : Nat
  reqId : Nat
  nonce : Bytes
  total : Nat
  offset : Nat
  part : Bytes
  facts : ChainFacts
deriving DecidableEq, Repr

/-- The head of a packet of a session (R499), and whether its MAC is right (R500). -/
structure XdpHead where
  session : Fin 16
  psn : Nat
  reqId : Nat
  macOk : Bool
deriving DecidableEq, Repr

/-- The payload of READ (R503). -/
structure ReadReq where
  index : Nat
  sub : Nat
  offset : Nat
  maxLen : Nat
  snapId : Nat
deriving DecidableEq, Repr

/-- The payload of WRITE (R503). -/
structure WriteReq where
  index : Nat
  sub : Nat
  type : Nat
  offset : Nat
  total : Nat
  data : Bytes
deriving DecidableEq, Repr

/-- The payload of SUBSCRIBE (R506). -/
structure SubscribeReq where
  index : Nat
  sub : Nat
  kind : Nat
  interval : Nat
  codeLo : Nat
  codeHi : Nat
deriving DecidableEq, Repr

/-- The commands of the block, in the order of the table. -/
inductive Instr where
  | goWatch (req : Requester)
  | energize (req : Requester)
  | connect (req : Requester)
  | cancelConnect (req : Requester)
  | stop (req : Requester)
  | toDormant (req : Requester)
  | halt (req : Requester)
  | clearHalt (req : Requester)
  | bootComplete (flash : BootFlash)
  | wakeEdge
  | syncCheckPass
  | connectTimerExpiry
  | energizeRampComplete
  | stopRampComplete
  | enterRide
  | recoveryTransition
  | recoveryRampComplete
  | leaveEnvelope
  | haltCauseTaken (cause : HaltCause)
  | sieveOutput (ch : Fin 48) (bits : List (Option Bool)) (last : Option Bool)
  | supvFaultStart (ch : Fin 48) (stuck missing : Bool) (bits : List (List Bool))
  | supvFaultEnd (ch : Fin 48)
  | settleDone (ch : Fin 48)
  | qpTrip (ch : Fin 48) (high : Bool) (bits : List Bool) (seen : BitVec 64)
  | qpRelease (ch : Fin 48) (high : Bool) (bits : List Bool)
  | sieveSyncPin (rising : Bool)
  | syncAtWrite (req : Requester) (value : BitVec 64)
  | syncTakeEffect
  | sarScanRound (codes : List Nat)
  | sarHandoverSlot (incoming outgoing : List Nat)
  | sarCalibrationDone
  | cmpTrip (n : Fin 16) (level : Int) (seen : BitVec 64)
  | cmpRelease (n : Fin 16) (level : Int)
  | enginePeriod (e : Fin 16) (mism : List (Nat × Bool))
  | outputPhase (e : Fin 16)
  | trellisReady
  | beatOriginWrite (req : Requester) (value : Int)
  | loopOpen (req : Requester) (e : Fin 16) (l : Fin 8)
  | loopClose (req : Requester) (e : Fin 16) (l : Fin 8)
  | paramWrite (req : Requester) (e : Fin 16) (b : Fin 240) (sub : Nat) (v : DVal)
  | shadowWrite (req : Requester) (i k : Nat) (v : DVal)
  | dictWrite (req : Requester) (i k byte : Nat) (v : DVal)
  | breakerPulseEnd (k : Fin 8)
  | estimateStart
  | estimateComplete (e : Fin 16)
  | sounderModeWrite (req : Requester) (value : Int)
  | sounderModeApply
  | sounderResultStale
  | furrowReload (f : Fin 12) (atPeriod : Bool)
  | furrowEvent (f : Fin 12) (ev : Fin 4)
  | commit (req : Requester) (f : Fin 12) (mask : Nat)
  | pwmShadowWrite (req : Requester) (r : PwmReg) (value : Int)
  | pairTurnOn (p : Fin 24) (low : Bool) (atT : BitVec 64)
  | calSlot (p : Fin 24) (edgeFree : Bool)
  | fltActive (n : Fin 8) (seen : BitVec 64)
  | fltInactive (n : Fin 8)
  | faultClear (req : Requester) (p : Fin 24) (value : Int)
  | glDripTimer
  | edgeCmdDeparture (l : Fin 8) (cut : Bool)
  | statusCycle (l : Fin 8) (upLock : Bool)
  | statusFrame (l : Fin 8) (data : Bytes) (arrival : BitVec 64)
  | nodeMgmtResponse (l : Fin 8) (n : Fin 24) (r : NodeAnswer)
  | bringUp (req : Requester) (l : Fin 8)
  | resync (req : Requester) (l : Fin 8)
  | chainComplete (l : Fin 8) (refused late : Bool)
  | shareReportRx (shareId : Fin 16) (head : ShareHead) (vcaps : List Nat) (health : List Bool)
  | shareSetRx (shareId : Fin 16) (t : BitVec 64) (part : SharePart)
  | shareSetDeadline (a : Fin 6)
  | shareMasterLost (a : Fin 6)
  | bypassClose (req : Requester) (l : Fin 8) (n : Fin 24)
  | bypassOpen (req : Requester) (l : Fin 8) (n : Fin 24)
  | shearsBypassDelay (n : Fin 216)
  | blankWindowEnd (n : Fin 216) (low : Bool)
  | legRelease (req : Requester) (n : Fin 216) (pairEntry : Bool)
  | groupClear (req : Requester) (g : Fin 16)
  | clearAll (req : Requester)
  | testCmp (req : Requester) (n : Fin 16)
  | cmpTestDone (trip release : Option Nat)
  | testNode (req : Requester) (value : BitVec 32)
  | nodeTestTimeout
  | siStateChange (n : Fin 8) (isOpen : Bool)
  | siTestPulse (k : Fin 8)
  | siTestWindowEnd (k : Fin 8) (sawLow highNow : BitVec 8)
  | soTestPulse (k : Fin 8)
  | soPulseCheck (k : Fin 8) (atEnd ok : Bool)
  | soReadbackFail (k : Fin 8)
  | penReadbackFail
  | soFaultClear (req : Requester) (k : Fin 8)
  | penClear (req : Requester) (padLow : Bool)
  | faultClearTestDone (k : Fin 8) (pass : Bool)
  | clockMonitorFault
  | coldFrameClocheWdt
  | safeFrameTx (c : Fin 4)
  | safeFrameRx (h : EthHeader) (pdu : Bytes)
  | safeWatchdogExpiry (c : Fin 8)
  | clocheFault (kind : Fin 6)
  | clocheCoreWdt
  | clocheUpdateStart (req : Requester)
  | clocheUpdateAbort (req : Requester)
  | clocheUpdateSwitch
  | clocheRunningReached
  | clocheUpdateFallback
  | clocheUpdateAbandon
  | clocheConfigWrite (req : Requester) (i k : Nat) (v : DVal)
  | ptpSyncRx (p : Fin 2) (domain : Nat) (stamp : BitVec 64) (origin : Int)
  | ptpAnnounceRx (p : Fin 2) (domain : Nat) (m : MasterInfo)
  | ptpPdelayRx (p : Fin 2) (msg : PdelayMsg) (stamp : BitVec 64)
  | ptpMasterTx (p : Fin 2)
  | ppsInEdge (stamp : BitVec 64)
  | timeSourceLost (src : TimeSource)
  | timeSet (req : Requester) (value : Int)
  | timeSourceWrite (req : Requester) (value : Int)
  | ref10mLoss
  | ref10mReturn
  | timedOutputArm (req : Requester) (o : Fin 5)
  | timedOutputEdge (o : Fin 5)
  | timeCapture (n : Fin 4) (rising : Bool) (stamp : BitVec 64)
  | clockUpdateRequest (req : Requester)
  | clockUpdateStrobe
  | alignerLockLoss
  | alignerRelock
  | harvestArm (req : Requester) (u : Fin 4)
  | harvestTriggerCmd (req : Requester) (u : Fin 4)
  | harvestAbort (req : Requester) (u : Fin 4)
  | armAtWrite (req : Requester) (u : Fin 4) (value : BitVec 64)
  | armAtInstant (u : Fin 4)
  | harvestFrame (u : Fin 4)
  | streamCopy (u : Fin 4)
  | netLinkChange (p : Fin 2) (speed : Nat) (full : Bool)
  | svFrameRx (h : EthHeader) (f : SvFrame)
  | svStreamLost (n : Fin 16)
  | gooseFrameRx (h : EthHeader) (f : GooseFrame)
  | gooseTalExpiry (n : Fin 32)
  | gooseEvaluation
  | gooseRepeat (p : Fin 16)
  | fwWordWrite (req : Requester) (p : Fin 16) (data : Bytes)
  | prpSupervisionTx
  | prpSupervisionRx (h : EthHeader)
  | lanSilent (p : Fin 2)
  | prpEntryForget (mac seq : Nat)
  | prpNodeForget (mac : Nat)
  | arpRequest (h : EthHeader) (ip senderIp : Nat)
  | icmpEcho (h : EthHeader) (dstIp srcIp : Nat) (data : Bytes)
  | ethFrameDiscard (h : EthHeader) (why : DiscardReason)
  | xdpHello (h : HelloMsg)
  | xdpProve (h : XdpHead) (signature : Bytes)
  | xdpProveTimeout (n : Fin 16)
  | xdpRead (h : XdpHead) (r : ReadReq)
  | xdpWrite (h : XdpHead) (w : WriteReq)
  | xdpSubscribe (h : XdpHead) (r : SubscribeReq)
  | xdpUnsubscribe (h : XdpHead) (number : Nat)
  | xdpKeepalive (h : XdpHead)
  | xdpClose (h : XdpHead)
  | xdpMalformed
  | xdpSessionTimeout (n : Fin 16)
  | xdpSnapshotExpiry (n : Option (Fin 16)) (id : Nat)
  | xdpStagedWriteTimeout (n : Option (Fin 16))
  | xdpNotify (n : Fin 16) (number : Nat)
  | dictServiceTake
  | ringPost (req : Requester) (q : Fin 32) (slots : List Bytes)
  | ringRelease (req : Requester) (q : Fin 32) (value : Int)
  | ringEntriesWrite (req : Requester) (q : Fin 32) (isClass : Bool) (value : Int)
  | wdtKick (req : Requester)
  | coreWdtHalf (pair : Fin 2)
  | coreWdtExpiry (pair : Fin 2)
  | coreResetCmd (req : Requester) (pair : Fin 2)
  | coreCrash (pair : Fin 2)
  | coreRestartDone (pair : Fin 2)
  | drainBreach (q : Fin 32)
  | transactionTimeout (t : Transaction) (attempt : Fin 4)
  | relock (req : Requester) (l : Fin 16)
  | fullRetrain (req : Requester) (l : Fin 16)
  | fullRetrainDone (l : Fin 16) (ok : Bool)
  | laneLockLoss (l : Fin 16)
  | laneLockAcquired (l : Fin 16) (offset : BitVec 32)
  | loopbackWrite (req : Requester) (l : Fin 16) (value : Int)
  | inject (req : Requester) (l : Fin 16) (value : Int)
  | berWindowEnd (l : Fin 16) (bits errs : Nat)
  | arrayForm (req : Requester)
  | arrayDissolve (req : Requester)
  | arrayResetCmd (req : Requester)
  | arrayLeave (req : Requester)
  | arrayAdmitCmd (req : Requester) (p : Fin 8)
  | joinTimeout
  | runnerPortDown (port : Fin 3)
  | runnerPortUp (port : Fin 3) (neighbour : Fin 8) (formed : Bool)
  | runnerPartition (duration : Nat)
  | runnerTimeLoss
  | runnerEchoTx (port : Fin 3)
  | runnerTimeRx (port : Fin 3) (t arrival : BitVec 64) (steer : BitVec 32)
  | runnerEchoRx (port : Fin 3) (echoed : BitVec 64) (turnaround : Nat)
  | runnerEchoReplyRx (port : Fin 3) (echoed arrival : BitVec 64) (turnaround : Nat)
  | topologyRx (src : Fin 8) (mem reach state links epoch : Nat)
  | samplesRx (src : Fin 8) (t : BitVec 64) (first : Fin 64) (words : List (BitVec 32))
  | harvestArmMsg (t : BitVec 64)
  | harvestFireMsg (t : BitVec 64)
  | sieveSyncMsg (t : BitVec 64)
  | beatOriginMsg (origin : BitVec 64)
  | graftProposeRx (beat : BitVec 64) (set : Bytes)
  | graftVoteRx (p : Fin 8) (beat : BitVec 64) (code : Nat)
  | graftDecideRx (beat : BitVec 64) (commit : Bool) (code : Nat)
  | arrayHaltRx (origin : Fin 8)
  | arrayClearRx (origin : Fin 8)
  | arrayResetRx
  | joinRx (p : Fin 8) (identity revision : Nat) (again : Bool)
  | bedDataRx (offset total : Nat) (data : Bytes)
  | admitRx (p : Fin 8) (beat : BitVec 64)
  | userMsgRx (port : Fin 3) (src : Fin 8) (data : Bytes)
  | powerMeasurement (power : Option (Nat × List Nat)) (sensors : List (Option Int))
  | rotationDecision
  | thermalCauseSet
  | userTaskRequest
  | userTaskRelease
  | budgetWrite (req : Requester) (k : Nat) (value : Int)
  | powerOnReset (resetnLow : Bool)
  | vddaBrownout
  | resetnPulse
  | resetnLong
  | jtagColdReset
  | warmReset (req : Requester)
  | warmGraceEnd
  | resetRelease (src : Fin 16)
  | dibberMeasureEnd (raw : Fin 31)
  | domainResetLane (req : Requester) (target : BitVec 8)
  | domainResetEngine (req : Requester) (target : BitVec 8)
  | domainResetSieve (req : Requester) (target : BitVec 8)
  | domainResetFurrow (req : Requester) (target : BitVec 8)
  | domainResetPair (req : Requester) (target : BitVec 8)
  | graftCopy (req : Requester)
  | graftLoad (req : Requester)
  | graftSwap (req : Requester)
  | graftSwapBack (req : Requester)
  | graftCancel (req : Requester)
  | swapChecksDone
  | swapCheckDeadline (check : Fin 9)
  | swapBeat
  | graftDecideTx
  | graftNoDecision
  | stageClear (req : Requester)
  | stageVerify (req : Requester)
  | stageDataWrite (req : Requester) (data : Bytes)
  | graftChunk (firmware : Bool)
  | stageVerifyDone
  | fwStartStandby (req : Requester)
  | fwHandoverCmd (req : Requester)
  | fwFreezeBeat
  | fwSwitchBeat
  | fwCommit (req : Requester)
  | fwBack (req : Requester)
  | fwStopStandby (req : Requester)
  | slotProgram (req : Requester) (k : Fin 4) (hash : Bytes)
  | slotProgramDone (readback : Bytes)
  | keyRevoke (req : Requester)
  | ownerLock (req : Requester)
  | rollbackAdvance (req : Requester)
  | debugUnlock (req : Requester)
  | debugRelock (req : Requester)
  | jtagUnlock (token : Bytes)
  | recoveryStart (req : Requester)
  | ownerKeysWrite (req : Requester) (data : Bytes)
  | attestRequest (req : Requester) (nonce : Bytes)
  | attestReportDone
  | ledgerTick
  | ageingMeasurement (margins : List Nat)
  | measureLate
  | manchesterErr (ch : Fin 48)
  | patternCheckerSync (l : Fin 16) (again : Bool) (bits errs : Nat)
  | codeError (l : Fin 16)
  | laneFrameRx (port : Fin 3) (okA okB : Bool) (test : Option (Nat × Nat)) (heads : List RunnerHead)
  | runnerTimeTx
  | shareReportTx (a : Fin 6) (member : Fin 4)
  | ptpPdelayReqTx (p : Fin 2)
  | lrefclkLoss
  | lrefclkReturn
  | clockMonitorReturn
  | uncorrectableSoftError
  | windowLoad (core : Fin 4) (address bits : Nat)
deriving DecidableEq, Repr

end Sys2Proof
end

