-- ==== Sys2Proof/Decode.lean ====
section
/-! DEFINITION. The words of the table: no row of the spec's table of operations and events has bits, so no word spells a
command. -/

namespace Sys2Proof

/-- The command a table word spells: none, since no row gives bits. -/
def decodeTableWord (_nbits _w : Nat) : Option Instr := none

end Sys2Proof
end

