-- ==== Sys2Proof/Machine/State.lean ====
section
/-! DEFINITION. The state of the device as plain data: the mode controller, the dictionary's values in both beds, the
hidden registers of every unit, the hardware rings, what the device has sent, and the queue of waiting commands. -/

namespace Sys2Proof.Machine

/-! ## Names -/

/-- The access codes of R5. -/
inductive Access where
  | ro | rw | wo | w1c | rwo | cst
deriving DecidableEq, Repr

/-- The six modes (R16). -/
inductive Mode where
  | dormant | watch | energize | form | ride | halt
deriving DecidableEq, Repr

/-- The sub-states (R18). -/
inductive SubState where
  | none | connectPending | stopping | recovering
deriving DecidableEq, Repr

/-- The guard start-up test (R26). -/
inductive GuardTest where
  | pendingOpen | pendingClose | satisfied
deriving DecidableEq, Repr

/-- The roles of an XDP session (R501). -/
inductive Role where
  | viewer | operator | engineer | safety | security
deriving DecidableEq, Repr

/-! ## Stores

A dictionary store lists (key, value) pairs, keys strictly rising, key = index * 256 + sub-index, and no entry equal to
the dictionary's default. -/

abbrev Store := List (Nat × DVal)

/-! ## The mode controller -/

/-- The mode controller (R16 to R36) and the permission it waits for (R20, R378). -/
structure Ctl where
  mode : Mode
  sub : SubState
  prevMode : Mode
  entryTime : ST64
  causes : List HaltCause         -- active causes, bit order, no repeats (R39)
  pendingCauses : List HaltCause  -- active at some cycle and not yet taken (R35)
  firstCause : Option HaltCause
  guard : GuardTest
  permission : Bool               -- the Cloche's permission (R20, R378)
  fastClocks : Bool               -- R577
  pllRunning : Bool               -- R578
  bootComplete : Bool             -- R24, R28
  bootStopped : Bool              -- a boot Rootstock stopped (R646)
  recoveryBoot : Bool             -- R24
  connectDeadline : Option ST64   -- the connect timer (R21)
  stopStart : Option ST64         -- TA of the stop ramp (R207)
  stopRamp : Nat                  -- STOP_RAMP in ms as read at the acceptance of the STOP (R43)
  haltLaneDeadline : Option ST64  -- 1 ms after entry to HALT (R19, R307)
deriving DecidableEq, Repr

/-! ## Rings -/

/-- One entry of a hardware ring: what it carries as named numbers, and when it was posted (R519 to R523). -/
structure RingEntry where
  kind : Nat
  fields : List Int
  data : Bytes
  posted : ST64
deriving DecidableEq, Repr

/-- A hardware ring (R517 to R519, R527). Its first consumed entries stay until they are released. -/
structure Ring where
  entries : List RingEntry         -- oldest first
  head : Nat                       -- slot of the oldest entry
  held : List RingEntry            -- entries a WAIT producer holds, oldest first (R518)
  reserved : Nat                   -- slots reserved in Q1 (R518)
  lastLost : Option ST64           -- latest QUEUE_LOST of this ring
  lastStall : Option ST64          -- latest QUEUE_STALL of this ring
deriving DecidableEq, Repr

def Ring.empty : Ring := ⟨[], 0, [], 0, none, none⟩

/-! ## Requests and what leaves the device -/

/-- One subscription of a session (R506). -/
structure Subscription where
  index : Nat
  sub : Nat
  kind : Nat
  interval : Nat
  codeLo : Nat
  codeHi : Nat
  last : DVal                      -- KIND 1: the value last tested
  lastSeq : BitVec 32              -- KIND 3: EVENT_SEQ of the latest event looked at
deriving DecidableEq, Repr

/-- A snapshot a session holds (R505). -/
structure Snapshot where
  id : Nat
  index : Nat
  sub : Nat
  value : Bytes
  latestRead : ST64
deriving DecidableEq, Repr

/-- A staged segmented write (R505). -/
structure StagedWrite where
  index : Nat
  sub : Nat
  total : Nat
  got : Bytes
  latest : ST64
deriving DecidableEq, Repr

/-- A RESPONSE the device keeps for retransmissions (R504). -/
structure KeptResponse where
  reqId : Nat
  payload : Bytes
deriving DecidableEq, Repr

/-- A request taken and not answered yet (R390, R504). -/
structure WaitingRequest where
  reqId : Nat
  index : Nat
  sub : Nat
  type : Nat
  total : Nat
  offset : Nat
deriving DecidableEq, Repr

inductive SessionState where
  | free | opening | open
deriving DecidableEq, Repr

/-- An XDP session (R499 to R506, R511). -/
structure Session where
  state : SessionState
  role : Role
  clientNonce : Bytes
  chain : Bytes                    -- certificate bytes received so far
  chainTotal : Nat
  chainSlot : Nat                  -- owner-key slot of the chain's root (R639, R645)
  leafKey : Bytes                  -- public key of the chain's leaf
  deviceNonce : Bytes              -- empty before CHALLENGE
  key : Bytes                      -- the session key (R501)
  timeout : Nat                    -- SESSION_TIMEOUT in force at its opening (R511)
  addr : Nat                       -- client IPv4 address
  port : Nat                       -- client UDP port
  psnIn : Nat                      -- highest PSN accepted
  psnOut : Nat                     -- PSN of the next packet the device sends
  outstanding : Nat
  waiting : List WaitingRequest    -- requests taken and not answered yet (R390, R504)
  kept : List KeptResponse         -- latest first, at most 16
  subs : List (Nat × Subscription) -- by subscription number
  notifySeq : BitVec 32
  snaps : List Snapshot            -- oldest first, at most 2
  nextSnap : Nat
  staged : Option StagedWrite
  openedAt : ST64
  latestPacket : ST64
deriving DecidableEq, Repr

def Session.closed : Session :=
  { state := .free, role := .viewer, clientNonce := [], chain := [], chainTotal := 0, chainSlot := 0, leafKey := [],
    deviceNonce := [], key := [], timeout := 0, addr := 0, port := 0, psnIn := 0, psnOut := 1, outstanding := 0,
    waiting := [], kept := [], subs := [], notifySeq := 0#32, snaps := [], nextSnap := 1, staged := none, openedAt := 0#64, latestPacket := 0#64 }

/-- What the device has sent to the outside, newest first: packets, frames, messages and pin-level orders that no other
field of the state holds. -/
inductive Sent where
  | response (req : Requester) (index sub : Nat) (abort : Nat)   -- the answer to one request (R32, R503)
  | xdp (session : Nat) (datagram : Bytes)                        -- an XDP packet: header, payload, MAC (R499)
  | load (core : Nat) (value : BitVec 64)                         -- what a window load returns to its core (R496)
  -- an Ethernet frame: port (0 ETHA, 1 ETHB), EtherType, tag (0xFFFF untagged), PRP sequence number of its trailer if it
  -- has one, a message type, and what it carries (R460, R465, R467)
  | frame (port etherType tag : Nat) (prp : Option Nat) (type : Nat) (fields : List Int) (data : Bytes)
  -- a Runner message: the position it goes to (0xFF every member, 0xFE a share group's master), its type, and what it
  -- carries (R557)
  | runner (port : Nat) (type : Nat) (fields : List Int)
  | gateLink (lane : Nat) (type : Nat) (fields : List Int)        -- a special character and data characters (R308)
  | irq (core : Nat) (source : Nat)                              -- a core interrupt (R514)
  | pin (name : String) (level : Nat)                            -- an edge ordered on a pin (R19)
deriving DecidableEq, Repr

/-! ## The Sieve (sensing) -/

/-- Status codes of a sample (R47). -/
inductive ChStatus where
  | off | settling | valid | supvFault | substituted | unsync | lost
deriving DecidableEq, Repr

/-- The filters of one bitstream channel (R53 to R65) and its quick-path windows (R61). -/
structure SieveChannel where
  integ : List (BitVec 40)   -- integrators, first stage first
  comb : List (BitVec 40)    -- the combs' previous inputs
  firHist : List Int         -- sinc outputs, newest first, at most 64
  lastBit : Bool
  status : ChStatus          -- of the channel's own path: OFF, SETTLING, VALID or SUPV_FAULT
  settleLeft : Nat           -- outputs still to settle (R65)
  faultFlags : Nat           -- FLAGS bits the supervision fault in force has set (R51)
  sample : Int               -- latest main-path sample, Q1.31
  stamp : ST64
  fromSv : Bool              -- the delivered sample is the SV sample (R70)
  good : Bool                -- the delivered sample was VALID or SUBSTITUTED when it was delivered (R47)
  edge : ST64                -- the MCLK rising edge of the channel's next modulator bit (R49)
  sincPhase : Nat            -- bits in the sinc output in progress (R62)
  firPhase : Nat             -- sinc outputs in the FIR decimation phase in progress (R62)
  phaseAt : Option ST64      -- a synchronisation: the edge that becomes phase 0 (R62)
  qpHigh : Bool              -- the windows by the quick-path values alone (R61)
  qpLow : Bool
deriving DecidableEq, Repr

def SieveChannel.idle : SieveChannel :=
  { integ := [], comb := [], firHist := [], lastBit := false, status := .off, settleLeft := 0, faultFlags := 0, sample := 0,
    stamp := 0#64, fromSv := false, good := false, edge := 0#64, sincPhase := 0, firPhase := 0, phaseAt := none,
    qpHigh := false, qpLow := false }

/-- A comparator threshold on its way to a new value; levels are in 1/256000 DAC code (R74). -/
structure CmpMove where
  since : ST64               -- the swap beat
  origin : Int               -- the level at the swap beat
  last : Int                 -- the level it was last evaluated at
deriving DecidableEq, Repr

/-- The Sieve and the auxiliary converters (R46 to R81). -/
structure Sieve where
  channels : Vector SieveChannel 48
  syncs : List (ST64 × Nat)        -- synchronisations waiting: S and source (R63), in order of S
  lastSyncAt : Option ST64         -- S of the latest synchronisation that took effect (R64)
  sarStep : Fin 6                  -- row of the role table (R72)
  sarReady : Bool                  -- the calibrating converter is calibrated (R73)
  cmpOwn : Vector Bool 16          -- comparator outputs by their inputs, a self-test's stimulus left out (R74)
  cmpMove : Vector (Option CmpMove) 16  -- a threshold on its way (R74)
deriving DecidableEq, Repr

def Sieve.reset : Sieve :=
  ⟨Vector.replicate 48 SieveChannel.idle, [], none, 0, false, Vector.replicate 16 false, Vector.replicate 16 none⟩

/-! ## The Trellis -/

/-- Loop states (R166). -/
inductive LoopState where
  | unused | closed | openL | tracking | faulted
deriving DecidableEq, Repr

/-- A loop command (R172). -/
inductive LoopCmd where
  | openC | closeC
deriving DecidableEq, Repr

/-- A loop slot (R165 to R193). Its counters and flags are dictionary entries. -/
structure LoopSlot where
  state : LoopState
  faultReason : Nat                -- 0 none, 1 overrun, 2 stale, 3 following error
  cmds : List LoopCmd              -- accepted for the next cycle 0, oldest first (R171)
  toFault : Option Nat             -- entry to FAULTED at the next cycle 0, with its reason
  ferrOpen : Bool                  -- FERR action OPEN at the next cycle 0
  won : Option Bool                -- the Hedge's decision for the next cycle 0 (R168)
  preload : Bool                   -- the next CLOSED period preloads its PI blocks (R177)
  mark : Nat                       -- what a swap brings at the loop's next period: 0 none, 1 OPEN, 2 RETUNE (R188),
                                   -- 3 the slot becomes used, 4 it becomes unused (R168)
deriving DecidableEq, Repr

def LoopSlot.unused : LoopSlot := ⟨.unused, 0, [], none, false, none, false, 0⟩

/-- One latched source of an engine (R89, R90). -/
structure Latch where
  value : BitVec 32
  stamp : ST64
  pub : Nat                        -- publication count of an ENGINE source
  latched : Bool                   -- a value has ever been latched
  fresh : Bool                     -- new in the period in progress
  ok : Bool                        -- the status at the latch allows it to be new (R90)
deriving DecidableEq, Repr

/-- What a period in progress hands over at its output phase (R99, R159 to R161). -/
inductive HandOver where
  | duty (inst : Nat) (remote : Bool) (lane pair : Nat) (duty : Int)
  | count (inst : Nat) (arm : Nat) (n : Nat)
  | tap (inst : Nat) (dest base div : Nat) (words : List (BitVec 32))
deriving DecidableEq, Repr

/-- A Trellis engine (R82 to R116). Sparse memories list (address, word) pairs with rising addresses and no zero word. -/
structure Engine where
  signal : List (Nat × BitVec 32)     -- signal memory (R87)
  words : List (Nat × Int)            -- block state, key = instance * 8 + word (R87, R112)
  computed : List Nat                 -- instances that have computed since their state was cleared (R132)
  runs : List (Nat × Nat)             -- computations per instance (R90, newness of local inputs)
  seen : List (Nat × Nat)             -- key = instance * 8 + input: the writer's count at the latest computation
  outputs : List (Nat × BitVec 32)    -- key = instance * 8 + output: as last computed (R112)
  latches : List (Nat × Latch)        -- by signal reference without FRESH
  published : List (Nat × BitVec 32)  -- the published copy (R99, R100)
  pubCount : Nat
  inPeriod : Bool                     -- a period waits for its output phase
  withheld : Bool                     -- the period in progress was withheld (R104)
  stalePeriod : Bool                  -- the period in progress set STALE
  start : ST64                        -- cycle 0 of the period in progress or the latest one
  started : Bool                      -- a period has run since the latest reset
  regionOut : List (Nat × BitVec 32)  -- the output region copied for publication
  hand : List HandOver
  tapPhase : List (Nat × Nat)         -- periods since a TAP's latest telemetry entry
  staleRun : Nat                      -- consecutive periods with STALE (R91)
  staleActed : Bool
  slots : Vector LoopSlot 8
  ready : Bool                        -- Trellis ready has been reached since the fast clocks started
  bed : Option Store                  -- a period in progress started under a bed that a swap has replaced since (R106)
  instOut : List (Nat × BitVec 32)    -- the instances' outputs as the period in progress computed them
  instPub : List (Nat × BitVec 32)    -- the instances' outputs at the latest publication (R203, R226, R253)
  holdOff : Option ST64               -- after a domain reset no period starts before this instant (R608)
deriving DecidableEq, Repr

def Engine.idle : Engine :=
  { signal := [], words := [], computed := [], runs := [], seen := [], outputs := [], latches := [], published := [],
    pubCount := 0, inPeriod := false, withheld := false, stalePeriod := false, start := 0#64, started := false,
    regionOut := [], hand := [], tapPhase := [], staleRun := 0, staleActed := false,
    slots := Vector.replicate 8 LoopSlot.unused, ready := false, bed := none, instOut := [], instPub := [], holdOff := none }

/-! ## Grid forming, ride-through, sounder -/

/-- A run of publications: the start of its first period (R201, R225). -/
abbrev Run := Option ST64

/-- Grid-forming supervision (R194 to R221). -/
structure GridForming where
  lowRun : Run
  deadbus : Nat                    -- DEADBUS_STATE: 0 live, 1 low, 2 dead, 3 unknown (R201)
  syncPeriods : Nat                -- consecutive good periods of the SYNC's engine since CONNECT (R209)
  syncFrom : Option ST64           -- acceptance of the CONNECT
  islRun : Run
  driftMet : Bool
  driftSpent : Bool                -- has contributed to a declaration (R213)
  driftAt : Option ST64
  zMet : Bool
  zSpent : Bool
  zAt : Option ST64
  lastZ : Option Nat               -- |Z|^2 of the latest completed Thevenin estimate, in 2^-48 pu^2
  pulse : List (Nat × ST64)        -- safety outputs in a breaker pulse, with its end (R210)
  syncPass : Bool                  -- the sync check passed at the latest output phase (R209)
  rampDone : Bool                  -- the ramp completed at the latest output phase (R203)
  syncIn : List (BitVec 32)        -- the SYNC's inputs as latched in its latest period (R209)
deriving DecidableEq, Repr

def GridForming.reset : GridForming :=
  ⟨none, 3, 0, none, none, false, false, none, false, false, none, none, [], false, false, []⟩

/-- Ride-through (R222 to R244). -/
structure RideState where
  vRun : Run
  iRun : Run
  recRun : Run
  entry : Option (Nat × Int × ST64)   -- a presented RIDE entry: cause, word, T_E (R227)
  recovery : Bool                     -- the recovery condition is presented (R233)
  exit : Option Nat                   -- the envelope event is presented, with its reason (R232)
  episode : Option ST64               -- T_E of the episode in force (R224)
  lastWord : Int                      -- RIDE_V_REF word of the latest evaluated publication
  rampStart : Option ST64             -- T_R (R234)
deriving DecidableEq, Repr

def RideState.reset : RideState := ⟨none, none, none, none, false, none, none, 0, none⟩

/-- The impedance sounder (R245 to R273). -/
structure Sounder where
  active : Bool                       -- an estimate is in progress
  register : Nat                      -- the chip shift register (R246)
  chipPeriod : Nat                    -- periods into the present chip
  chips : Nat                         -- chips done in the present estimate
  modePending : Option Nat            -- written and not yet applied (R255)
  modeKept : Bool                     -- the pending mode was kept across a warm reset (R270)
  latestCompletion : Option ST64
  freshSince : Bool                   -- an estimate completed since reset or since MODE_IN_FORCE left OFF (R251)
  appliedSince : Bool                 -- an entry was applied since the mode became BOUNDED or FULL (R259)
  dwellFrom : ST64                    -- the latest instant of R261
  targets : List (Nat × Int)          -- applied values by target number
  pauseSeen : Bool                    -- a pause reason arose during the estimate; it acts at the next cycle 0 (R254, R265)
  sampled : Nat                       -- output phases sampled in the present estimate, the lead-in included (R245, R247)
  samples : List (Bool × Int × Int)   -- those after the lead-in: the chip, V and I (R245, R248)
deriving DecidableEq, Repr

def Sounder.reset : Sounder := ⟨false, 0, 0, 0, none, false, none, false, false, 0#64, [], false, 0, []⟩

/-! ## Local PWM -/

/-- A Furrow (R274 to R293). -/
structure Furrow where
  running : Bool
  zeroAt : ST64                          -- the latest instant the counter entered 0, or its start (R276)
  requests : List (BitVec 25 × ST64)     -- COMMIT masks ([24] period, [23:0] pairs) with their completion instants (R285)
  duties : List (Nat × Int × ST64)       -- local pair, MOD2L duty, completion instant (R287)
  remoteDuties : List (Nat × Int × ST64) -- remote pair l * 24 + p, MOD2L duty, completion instant (R321)
  occurrences : List Nat                 -- since the start: ZERO, PERIOD, EVA, EVB (R293)
  periodSh : Option Nat                  -- PERIOD_SH as written; PERIOD of the active bed before (R301)
  newSettings : Bool                     -- a swap's settings wait for the next reload (R296)
  turn : Option Nat                      -- level in counts at which the present carrier turned down before PERIOD (R289)
deriving DecidableEq, Repr

def Furrow.stopped : Furrow := ⟨false, 0#64, [], [], [], [0, 0, 0, 0], none, false, none⟩

/-- The logic of one switch of a pair: its latest decided turn-on (R280, R281, R347). -/
structure SwitchLogic where
  onAt : Option ST64     -- T_on of the latest turn-on
  offAt : Option ST64    -- the latest turn-off
  dropped : Bool         -- the present pulse was removed by the minimum pulse rule (R281)
  held : Bool            -- held off by the interlock as the second of an overlap (R282)
  last : Option (ST64 × ST64)   -- turn-on and turn-off of the pulse before, while the latest turn-on is still to come
deriving DecidableEq, Repr

def SwitchLogic.off : SwitchLogic := ⟨none, none, false, false, none⟩

/-- A local pair (R278 to R294). -/
structure LocalPair where
  h : SwitchLogic
  l : SwitchLogic
  patternOn : Bool              -- a transfer of its compares has been made since the Furrow clock started (R686)
  fault : Bool                  -- a fault action is held (R290, R291)
  action : Nat                  -- the FAULT_ACTION taken
  sources : List Nat            -- mapped sources active now: 0 to 7 FLT inputs, 0x10 to 0x1F groups (R290)
  waitReload : Bool             -- released, and resumes at the next reload (R291, R358)
  faultAt : ST64                -- instant of the latest fault action
  xcondAt : Option ST64         -- zero of the carrier of the latest PWM_XCOND (R282)
  clampAt : Option ST64         -- zero of the carrier of the latest CLAMP count (R289)
  calOldest : Nat               -- the live line whose calibration is oldest: 0 H, 1 L (R283)
deriving DecidableEq, Repr

def LocalPair.idle : LocalPair :=
  { h := .off, l := .off, patternOn := false, fault := false, action := 0, sources := [], waitReload := false,
    faultAt := 0#64, xcondAt := none, clampAt := none, calOldest := 0 }

/-! ## Gate link and Rake -/

/-- An edge command waiting in a lane's queue, or outstanding at a node (R311, R319). -/
structure EdgeCmd where
  channel : Nat
  level : Bool
  time : ST32
  resend : Option Nat                    -- a command cut short keeps its sequence number (R309)
  fromRake : Bool
deriving DecidableEq, Repr

/-- A chain procedure in progress (R324). -/
structure ChainRun where
  kind : Nat                             -- 1 BRING_UP, 2 RESYNC, 3 the resynchronisation of a FULL retrain (R540)
  step : Nat                             -- 1 DISCOVER, 2 IDENT, 3 ECHO and SET_DELAY, 5 CONFIG is sent and status is awaited
  left : List Nat                        -- the nodes whose answer the step awaits
deriving DecidableEq, Repr

/-- A gate lane (R305 to R324). -/
structure GateLane where
  queue : List EdgeCmd                   -- oldest first
  inhibit : Bool                         -- the lane carries INHIBIT
  fullRate : Bool                        -- 2.5 Gb/s, else 625 Mb/s (R307)
  upLock : Bool                          -- upstream lock
  lockMissed : Nat                       -- consecutive cycles without upstream lock (R314)
  cycles : Nat                           -- status cycles since the lane started (R312)
  cycs : List ST64                       -- departures of the latest CYCs, newest first, at most 8 (R313)
  block : Nat                            -- commands sent in the open block; 0: none is open (R311)
  chain : Option ChainRun                -- a chain procedure runs (R324)
  lastLeadEvent : Option ST64            -- latest GL_LEAD_REFUSED (R319)
  noData : Bool                          -- a loopback suspends the frames to the nodes (R545)
deriving DecidableEq, Repr

def GateLane.idle : GateLane := ⟨[], true, false, false, 0, 0, [], 0, none, none, false⟩

/-- A gate node as the device knows it (R306, R312 to R318). -/
structure GateNode where
  present : Bool                         -- discovered and answering
  turnaround : Nat
  setup : Nat
  depth : Nat
  sent : List ST32                       -- execution times of the commands sent since CONFIG, latest first
  sentOld : Nat                          -- commands whose time left the list, counted
  missedRun : Nat                        -- consecutive cycles without a valid frame
  goodRun : Nat
  frames : List Nat                      -- cycles not yet judged in which a valid frame arrived, by number (R313)
  judged : Nat                           -- the first cycle not yet judged (R314)
  linkFault : Bool
  desat : Nat                            -- DESAT bits of the latest frame
  uv : Nat
  bypassed : Bool
  vcapAge : Nat                          -- status cycles since VCAP arrived
  ackMismatch : Nat                      -- consecutive cycles with a mismatch (R315)
  ackCycle : Nat                         -- the latest cycle with a mismatch
  underTest : Bool                       -- self-test until TEST_DONE (R363)
deriving DecidableEq, Repr

def GateNode.absent : GateNode :=
  ⟨false, 0, 0, 4, [], 0, 0, 0, [], 0, false, 0, 0, false, 4, 0, 0, false⟩

/-- A remote pair (R321, R322, R325). -/
structure RemotePair where
  h : SwitchLogic                        -- stages 1 to 3 in carrier time (R322)
  l : SwitchLogic
  liveB : Nat                            -- CMPB as last transferred (R321)
  hCmds : List (Bool × ST64)             -- commands sent: LEVEL and TIME, newest first, back to the latest turn-on passed
  lCmds : List (Bool × ST64)
  hStop : Bool                           -- a STOP named H; either one holds both switches (R316, R350)
  lStop : Bool                           -- a STOP named L
  patternOn : Bool                       -- a transfer of its compares has been made since the Furrow clock started
  inserted : Bool                        -- the Rake's record: inserted (R325)
  record : Bool                          -- the Rake's record holds a commanded state since pulsing began (R327)
  previous : Bool × Bool                 -- inserted and record before the latest run (R327)
  shadowWrites : List (Bool × Nat × ST64)   -- firmware writes that wait for a reload: CMPB, value, completion (R321)
  xcondAt : Option ST64
deriving DecidableEq, Repr

def RemotePair.idle : RemotePair :=
  ⟨.off, .off, 0, [], [], false, false, false, false, false, (false, false), [], none⟩

/-- A SHARE_REPORT as its master keeps it (R329, R557, R562). -/
structure ShareReport where
  member : Nat                           -- member index
  src : Nat                              -- array position
  arrived : ST64
  stamp : ST64                           -- instant of the report, in local time
  codes : List Nat
  health : List Bool
deriving DecidableEq, Repr

/-- A Rake arm (R325 to R330). -/
structure RakeArm where
  count : Option Nat                     -- a count handed over by its NLC
  runAt : ST64                           -- T of the run in force
  setArrived : Bool                      -- the shared set for this run has arrived (R330)
  reports : List ShareReport             -- of each member the latest, and the latest that arrived before it
  missed : Nat                           -- consecutive Rake periods without the master (R566)
deriving DecidableEq, Repr

def RakeArm.idle : RakeArm := ⟨none, 0#64, false, [], 0⟩

/-! ## Shears -/

/-- A protected leg (R343, R350 to R356, R371). -/
structure Leg where
  hStopped : Bool
  lStopped : Bool
  hBlocked : Bool
  lBlocked : Bool
  legBlock : Bool                        -- R355
  blockedAt : ST64                       -- instant of the latest block of a complement (R350)
  bypassSent : Bool
  bypassDue : Option ST64                -- a BYPASS close is scheduled (R328, R350)
  reported : List (Nat × Nat)            -- (kind, index) of sources that reported since the last release (R358)
  hPending : Option ST64                 -- a DESAT report on H is held pending, seen at this frame's arrival (R348)
  lPending : Option ST64
deriving DecidableEq, Repr

def Leg.clear : Leg := ⟨false, false, false, false, false, 0#64, false, none, [], none, none⟩

/-- A Shears group (R344, R351, R354). -/
structure ShearsGroup where
  tripped : Bool
  sources : List (Nat × Nat)             -- (kind, index) of the sources that tripped it (R359)
  decisions : List ST64                  -- AFFECTED reactions counted (R354), latest first
deriving DecidableEq, Repr

def ShearsGroup.clear : ShearsGroup := ⟨false, [], []⟩

/-- A self-test in progress (R362, R363). -/
inductive SelfTest where
  | comparator (n : Nat)
  | node (lane node cmp : Nat)
deriving DecidableEq, Repr

/-- The Shears (R343 to R374). -/
structure Shears where
  legs : Vector Leg 216
  groups : Vector ShearsGroup 16
  allActive : Bool
  recordSeq : BitVec 32
  test : Option (SelfTest × ST64)
deriving DecidableEq, Repr

def Shears.clear : Shears :=
  ⟨Vector.replicate 216 Leg.clear, Vector.replicate 16 ShearsGroup.clear, false, 0#32, none⟩

/-! ## Cloche -/

/-- A safety input (R383 to R385). -/
structure SafetyIn where
  judged : Bool                    -- its filtered state is known: STATE is not 3
  isOpen : Bool                    -- the filtered state
  testFailed : Bool                -- in demand until it passes a test
  inWindow : Bool                  -- a test window is open and the input is judged by it (R384)
  deferred : Bool                  -- it opened inside the window (R385)
deriving DecidableEq, Repr

def SafetyIn.reset : SafetyIn := ⟨false, false, false, false, false⟩

/-- A safety output (R387 to R390). -/
structure SafetyOut where
  breaker : Bool                   -- a breaker command of R210 is in force
  pulse : Bool                     -- in a test off-pulse
  wait : Bool                      -- a test waits for the end of a BREAKER command pulse (R388)
  sobStuck : Option Bool           -- SOB where a failure has shown it apart from the driven level
  fault : Bool                     -- forced off
  clearTest : Option (Requester × Bool)  -- a FAULT_CLEAR test runs; true: an off-pulse test (R390)
deriving DecidableEq, Repr

def SafetyOut.reset : SafetyOut := ⟨false, false, false, none, false, none⟩

/-- A receive connection (R393, R394). -/
structure SafeRx where
  held : Vector (Option (Nat × Bytes)) 2   -- copies held for their partners, by LAN: SEQ and PDU
  lastSeq : Option Nat             -- SEQ of the last matched pair
  fault : Bool                     -- the watchdog has expired since the last matched pair
  mismatch : Option ST64           -- when a pair last differed since the last matched pair
  demand : Bool                    -- the last matched pair carried a masked 0
  good : Bool
deriving DecidableEq, Repr

def SafeRx.reset : SafeRx := ⟨Vector.replicate 2 none, none, false, none, false, false⟩

inductive ClocheState where
  | boot | running | updatePause | fault
deriving DecidableEq, Repr

/-- The Cloche (R375 to R408). -/
structure Cloche where
  state : ClocheState
  ins : Vector SafetyIn 8
  outs : Vector SafetyOut 8
  penFault : Bool
  penStuck : Option Bool           -- the pad where a failure has shown it apart from PEN
  clockFault : Bool                -- the clock monitor's or the Cold frame watchdog's demand (bit 11)
  overrunDemand : Bool             -- bit 12
  fault : Bool                     -- bit 13
  rx : Vector SafeRx 8
  mismatchTimes : List (Nat × ST64)   -- coded-check mismatches per engine in the last second (R395)
  updateAt : Option ST64           -- UPDATE_CMD accepted, waiting for a switch moment
  pauseAt : Option ST64            -- start of the pause
  bank : Bool                      -- running code bank
deriving DecidableEq, Repr

def Cloche.reset : Cloche :=
  ⟨.boot, Vector.replicate 8 .reset, Vector.replicate 8 .reset, false, none, false, false, false,
    Vector.replicate 8 .reset, [], none, none, false⟩

/-! ## Sundial, PTP, clocks -/

/-- A master's dataset as its Announce carries it, compared in the field order of IEEE 1588 (R421). -/
structure MasterData where
  priority1 : Nat
  clockClass : Nat
  accuracy : Nat
  variance : Nat
  priority2 : Nat
  identity : Nat
  stepsRemoved : Nat
deriving DecidableEq, Repr

/-- One PTP port (R420, R421). -/
structure PtpPort where
  master : Option MasterData       -- the best master heard on the port
  offset : Int                     -- latest measured offset, Sundial minus source, ST64 counts
  meanDelay : Nat                  -- peer delay in ns
  reqAt : Option ST64              -- departure of the latest peer-delay request
deriving DecidableEq, Repr

def PtpPort.idle : PtpPort := ⟨none, 0, 0, none⟩

/-- A timed output (R422 to R425). -/
structure TimedOut where
  mode : Nat                       -- the program in force: MODE, START, PERIOD, WIDTH as taken by ARM
  start : ST64
  period : Nat
  width : Nat
  configured : Bool                -- an ARM has been accepted since the reset: the pin is driven (R19)
  armed : Bool
  active : Bool                    -- a pulse is in progress
  fallAt : ST64                    -- the exact falling instant of the pulse in progress
  riseAt : ST64                    -- the exact next rising instant
deriving DecidableEq, Repr

def TimedOut.idle : TimedOut := ⟨0, 0#64, 0, 0, false, false, false, 0#64, 0#64⟩

/-- A time capture input (R426, R427). -/
structure TimeCapture where
  lastEdge : Option ST64           -- the previous captured edge
  history : List (ST64 × BitVec 32 × Nat)   -- newest first, at most 16: time, sequence, edge
deriving DecidableEq, Repr

/-- A copy the update strobe applies (R429). -/
structure ClockCopy where
  coreDiv : Nat
  cadence : List Nat
  cko : List Nat
deriving DecidableEq, Repr

/-- Time and clocks (R409 to R439). -/
structure TimeUnit where
  everLocked : Bool                -- LOCKED since the latest cold reset (R417)
  lockedAt : Option ST64           -- the latest entry to LOCKED (R432)
  inLimit : Nat                    -- consecutive measurements within LOCK_LIMIT
  outLimit : Nat                   -- consecutive measurements beyond 4 * LOCK_LIMIT
  steerLog : List (ST64 × Int)     -- STEER over the last 100 s since the cold reset, newest first (R417)
  ref10m : Bool                    -- REF10M_IN present
  lref : Bool                      -- LREFCLK present
  ppsLost : Bool                   -- PPS_IN is lost as a source (R417)
  aligner : Bool                   -- the Aligner holds lock
  ports : Vector PtpPort 2
  outs : Vector TimedOut 5         -- TEV0 to TEV3, PPS_OUT
  caps : Vector TimeCapture 4
  update : Option ClockCopy        -- a pending update (R429)
  updateBy : Option Requester
  ptpSeq : Nat                     -- sequence of the master's messages
  coldFraction : Int               -- the Cold frame's fractional accumulator (R410)
  laps : Int                       -- wraps of ST64 since BEAT_ORIGIN took its value (R84)
  wraps : Int                      -- wraps of ST64 since the cold reset: the MCLK edge count continues (R49)
deriving DecidableEq, Repr

def TimeUnit.reset : TimeUnit :=
  ⟨false, none, 0, 0, [(0#64, 0)], true, true, false, true, Vector.replicate 2 .idle, Vector.replicate 5 .idle,
    Vector.replicate 4 ⟨none, []⟩, none, none, 0, 0, 0, 0⟩

/-! ## The dictionary window -/

/-- A core's copy of entry 0x0000 (R498, R509). -/
structure WinStatus where
  status : Nat                     -- WIN_STATUS
  addr : Nat                       -- WIN_ADDR
  refused : Nat                    -- WIN_REFUSED
deriving DecidableEq, Repr

def WinStatus.clear : WinStatus := ⟨0, 0, 0⟩

/-! ## Harvest -/

/-- The states of a Harvest unit (R447). -/
inductive HarvestState where
  | idle | filling | ready | triggered | done
deriving DecidableEq, Repr

/-- A Harvest unit (R440 to R459). -/
structure HarvestUnit where
  state : HarvestState
  settings : Store                       -- of entries 0x9000 + u and 0x9010 + u, taken at ARM (R453)
  interval : Nat                         -- FRAME_INTERVAL in ST64 counts, fixed at ARM
  frames : List (ST64 × Bytes)           -- capture memory: frame time and bytes, newest first
  acc : List Int                         -- sums of the frame in progress
  accN : Nat                             -- clock instants in it
  trigAt : Option ST64
  trigSource : Nat
  trigFrame : Option Nat                 -- index since ARM of the trigger frame
  belowLevel : Bool                      -- has been below the level less hysteresis since the last rising edge (R448)
  aboveLevel : Bool
  sided : Bool                           -- a sample since ARM has set the side of the level
  recFlags : Nat                         -- FLAGS of the header (R452)
  seq : BitVec 32                        -- RECORD_SEQ of the latest record
  ignored : Nat                          -- triggers ignored since ARM
  streamNext : Nat                       -- STREAM 1: byte offset in the record; STREAM 2: index of the next frame
  armAt : Option ST64                    -- a common arm instant received or written (R450)
deriving DecidableEq, Repr

def HarvestUnit.idle : HarvestUnit :=
  { state := .idle, settings := [], interval := 0, frames := [], acc := [], accN := 0, trigAt := none, trigSource := 0,
    trigFrame := none, belowLevel := false, aboveLevel := false, sided := false, recFlags := 0, seq := 0#32,
    ignored := 0, streamNext := 0, armAt := none }

/-! ## Station network -/

/-- A source in the PRP node table (R468, R469). -/
structure NetNode where
  mac : Nat
  window : List (Nat × ST64)       -- sequence numbers accepted and when, newest first, at most 64
  heard : ST64
  supA : Bool                      -- its supervision frames were heard on ETHA
  supB : Bool
deriving DecidableEq, Repr

/-- A Sampled Values subscription (R470 to R474). -/
structure SvStream where
  lastCnt : Option Nat             -- smpCnt last accepted
  confAt : Option ST64             -- latest NET_SV of a confRev error
deriving DecidableEq, Repr

/-- A GOOSE publication (R475 to R477). -/
structure GoosePub where
  started : Bool
  values : List Int                -- the values last sent
  interval : Nat                   -- ms to the next repetition
deriving DecidableEq, Repr

/-- A GOOSE subscription (R478, R479). -/
structure GooseSub where
  last : Option (Nat × Nat)        -- stNum and sqNum last accepted
  expiry : ST64
deriving DecidableEq, Repr

/-- The station network (R460 to R485). -/
structure NetUnit where
  nodes : List NetNode             -- at most 512
  seqOut : Nat                     -- PRP sequence number of the latest frame sent
  lastRx : Vector (Option ST64) 2  -- latest frame on each port
  svs : Vector SvStream 16
  pubs : Vector GoosePub 16
  subs : Vector GooseSub 32
deriving DecidableEq, Repr

def NetUnit.reset : NetUnit :=
  ⟨[], 0, Vector.replicate 2 none, Vector.replicate 16 ⟨none, none⟩, Vector.replicate 16 ⟨false, [], 0⟩,
    Vector.replicate 32 ⟨none, 0#64⟩⟩

/-! ## Reset -/

/-- Resets in progress and their record (R598 to R613). -/
structure ResetUnit where
  grace : List Nat                 -- log bits of the warm requests whose grace runs (R602)
  asserted : List Nat              -- log bits of the sources of cold or warm reach asserted now
  reach : Nat                      -- the reach in force: 0 not in reset, 1 cold, 2 warm
  sources : Nat                    -- SOURCES of the reset in progress
  atTime : ST64                    -- its assertion
  resetnLow : Bool                 -- RESET_N is low past its acceptance (R599)
  ambiguous : Bool                 -- held in reset by DIBBER_AMBIGUOUS (R607)
  measured : Bool                  -- the Dibber has been measured since the cold reset
  booting : Bool                   -- released, boot not complete
  domainRuns : Option (Nat × Nat)  -- a domain reset runs: kind and target (R608)
deriving DecidableEq, Repr

/-- After the release of a power-on reset (R604). -/
def ResetUnit.start : ResetUnit := ⟨[], [], 0, 1, 0#64, false, false, false, true, none⟩

/-! ## Serial lanes -/

/-- What the electrical layer of a serial lane holds beside its entry (R534 to R550). -/
structure SerialLane where
  retrain : Option Nat             -- a retrain runs: 1 RELOCK, 2 FULL (R539)
  down : Bool                      -- a FULL retrain ended DOWN (R540)
  synced : Bool                    -- the pattern checker is synchronised (R542)
  injectLeft : Nat                 -- bits still to be inverted (R544)
  winBits : Nat                    -- bits checked and errors counted in the present EST_WINDOW (R544)
  winErrs : Nat
  linkBefore : Nat                 -- LINK of an Ethernet port that the lane's own action took down (R539, R545)
deriving DecidableEq, Repr

def SerialLane.idle : SerialLane := ⟨none, false, false, 0, 0, 0, 0⟩

/-! ## Graft -/

/-- A swap request (R622, R623). -/
structure SwapRequest where
  beat : ST64
  kind : Nat                       -- 1 swap, 2 swap-back, 3 array
  byArray : Bool                   -- a proposal of position 0 (R628)
deriving DecidableEq, Repr

/-- An image as the device holds it for a pair (R630, R631). -/
structure PairImage where
  version : Nat
  entry : Nat
  slot : Nat                       -- KEY_SLOT, and the ROLLBACK value
  rollback : Nat
  measure : Bytes                  -- SHA-256 of the payload
  payload : Bytes
  hold : Bool                      -- HOLD_DORMANT of the header's FLAGS (R24)
deriving DecidableEq, Repr

/-- Graft: swaps, staging and the firmware handover (R614 to R635). -/
structure GraftUnit where
  swap : Option SwapRequest        -- CHECKING or PENDING
  remaps : Bool                    -- a PENDING swap remaps a pair (R624)
  hold : List (Nat × Nat)          -- loops whose CLOSE is refused until the beat: engine, slot (R628)
  members : Nat                    -- MEMBERS at the proposal (R629)
  votes : List (Nat × Nat)         -- votes received: position and code
  voted : Option Nat               -- this member's vote
  decided : Option Bool            -- the decision received or taken
  proposedSet : Bytes              -- ARRAY_SET of the proposal this member holds (R628)
  stage : Bytes                    -- staging memory (R618)
  verified : Option Nat            -- CLASS of the verified image (R621)
  back : Bool                      -- the handover in progress is a BACK (R631)
  selfBack : Bool                  -- the device started that BACK itself
  freezeAt : Option ST64           -- B1
  freezeDone : Bool                -- the freeze beat has been taken
  switchedAt : Option ST64         -- the latest uncommitted switch
  images : Vector (Option PairImage) 2
  handoverSeq : Nat                -- HANDOVER_SEQ (R630)
  handover : Bytes                 -- the device's 64 bytes of the handover area
  shadowImage : Option (Nat × Nat) -- KEY_SLOT and ROLLBACK of the image the shadow bed came from
  activeImage : Option (Nat × Nat) -- of the image the active bed came from
  before : Option (ST64 × Store)   -- the latest swap's beat, and the bed it replaced (R480)
  activeSigned : Bool              -- the active bed came unchanged from a verified image (R615, R616)
  revoked : Bool                   -- the key of the image a requested swap relies on has been revoked (R639)
deriving DecidableEq, Repr

def GraftUnit.idle : GraftUnit :=
  { swap := none, remaps := false, hold := [], members := 0, votes := [], voted := none, decided := none, proposedSet := [], stage := [],
    verified := none, back := false, selfBack := false, freezeAt := none, freezeDone := false, switchedAt := none,
    images := Vector.replicate 2 none, handoverSeq := 0, handover := List.replicate 64 0#8,
    shadowImage := none, activeImage := none, before := none, activeSigned := false, revoked := false }

/-! ## Runner arrays -/

/-- The Runner's array beside entries 0x1700 to 0x1717 (R551 to R573). -/
structure RunnerUnit where
  seqOut : Nat                     -- SEQ of the latest message sent (R557)
  seen : List (Nat × Nat)          -- SRC and SEQ of messages taken or forwarded, newest first, at most 64 (R553)
  portUp : Vector Bool 3           -- the east, west and chord links (R565)
  joinAt : Option ST64             -- JOIN_TIMEOUT of a formation or a join (R555, R568)
  joining : Bool                   -- this device has sent JOIN
  waiting : List (Nat × Nat × Nat) -- joins that wait: position, IDENTITY, REVISION (R568)
  offsetFixed : Bool               -- ARRAY_OFFSET is fixed (R558)
  aligned : Nat                    -- consecutive TIME messages within 64 counts (R558)
  masterSteer : Int                -- STEER of position 0 in the latest TIME message, ppb (R557)
  formed : Vector Bool 3           -- the far end of a port belongs to a formed array (R568)
  admits : List (Nat × ST64 × Nat) -- admissions decided: position, admission beat in local time, members named then (R568)
  origins : List Nat               -- positions that set the ARRAY cause (R564)
  masterLost : Bool                -- this member's own ARRAY cause for a lost share-group master (R566)
  bed : Bytes                      -- BED_DATA received (R568)
  bedTotal : Nat
  beds : List (Store × Nat × Nat)  -- bed images received and checked, with KEY_SLOT and ROLLBACK: active, shadow (R568)
  reform : Bool                    -- FORM runs at the next entry to WATCH (R564)
deriving DecidableEq, Repr

def RunnerUnit.alone : RunnerUnit :=
  ⟨0, [], Vector.replicate 3 false, none, false, [], false, 0, 0, Vector.replicate 3 false, [], [], false, [], 0, [], false⟩

/-! ## Cores -/

/-- The application cores as the device sees them, beside entry 0x1A00 (R512 to R516, R527). -/
structure CoresUnit where
  restarting : List Nat                        -- pairs in a core-reach reset
  kicks : Vector ST64 2                        -- start of each pair's watchdog period (R515)
  access : Vector (Option (Nat × ST64)) 2      -- each pair's latest ring access: ring and instant (R527)
deriving DecidableEq, Repr

def CoresUnit.reset : CoresUnit := ⟨[], Vector.replicate 2 0#64, Vector.replicate 2 none⟩

/-! ## Power -/

/-- Rotation beside entries 0x1300 to 0x1319 (R585, R590). -/
structure PowerUnit where
  requested : List Nat             -- user tasks requested, rising
  asked : List (Nat × ST64)        -- user tasks requested at an instant that the next decision's differs from (R592)
  raised : Vector (Option ST64) 10 -- latest rise of each task's grant
deriving DecidableEq, Repr

def PowerUnit.reset : PowerUnit := ⟨[], [], Vector.replicate 10 none⟩
/-! ## Rootstock and service life -/

/-- Rootstock beside entries 0x1900 to 0x1902, and the service-life ledger (R636 to R659, R676 to R678). -/
structure RootUnit where
  ext : Option (Nat × Bytes)       -- the running extension: ROLLBACK and measurement (R643)
  cloche : Option PairImage        -- the running Cloche image
  loaded : Option PairImage        -- the Cloche image in the idle code bank (R398)
  bankB : Nat                      -- bits 5 to 7 of a report's FLAGS (R651)
  program : Option (Nat × Bytes × Nat)  -- a slot is being programmed: slot, hash, session (R637)
  nonce : Option Bytes             -- a report is being made (R651)
  token : Option Nat               -- SCOPE of the token that holds debug open (R653)
  ledger : Nat                     -- the Cold frame count, in 2^-32 equivalent seconds (R677)
  powered : Nat                    -- seconds since the latest cold reset
  above : List Nat                 -- sentinels whose margin stands at ALERT_LEVEL or above (R678)
  raising : List (Nat × Nat × ST64)  -- fuses of a counter are being blown: class, old value, start (R649)
deriving DecidableEq, Repr

def RootUnit.reset : RootUnit := ⟨none, none, none, 0, none, none, none, 0, 0, [], []⟩


/-- What the sources of the engines and the Harvest gave before they changed at the present instant: a reader takes a source
as it stood strictly before its own instant (R89, R107, R441). -/
structure Prior where
  samples : List (Nat × (BitVec 32 × ST64 × Bool))               -- by sensing channel: word, stamp, status allows new
  copies : List (Nat × (List (Nat × BitVec 32) × Nat))           -- by engine: published copy and publication count
  shared : List (Nat × Option (BitVec 32 × ST64))                -- by shared sample
deriving DecidableEq, Repr

def Prior.none : Prior := ⟨[], [], []⟩

/-- The whole device. -/
structure State where
  ctl : Ctl
  now : ST64                       -- the Sundial count (R409)
  regs : Store                     -- entries that belong to no bed, and every RO and W1C value
  active : Store                   -- the active bed (R614)
  shadow : Store                   -- the shadow bed, by the active sub-index
  rings : Vector Ring 32
  eventSeq : BitVec 32             -- EVENT_SEQ of the latest event (R520)
  sessions : Vector Session 16
  coreReq : Session                -- the cores as one requester: outstanding, snapshots, staged write (R521)
  sent : List Sent                 -- newest first
  draws : Nat                      -- MODEL'S OWN: free values drawn so far (log entry 3)
  sieve : Sieve
  engines : Vector Engine 16
  gf : GridForming
  ride : RideState
  sounder : Sounder
  furrows : Vector Furrow 12
  pairs : Vector LocalPair 24
  pwm : Store                      -- Furrow and pair settings in force (R296)
  fltActive : List Nat             -- FLT inputs active after their filters (R290)
  lanes : Vector GateLane 8
  nodes : Vector GateNode 192      -- lane * 24 + node
  remotes : Vector RemotePair 192  -- lane * 24 + pair
  arms : Vector RakeArm 6
  shears : Shears
  cloche : Cloche
  time : TimeUnit
  win : Vector WinStatus 4         -- by core
  harvest : Vector HarvestUnit 4
  shared : List (Nat × BitVec 32 × ST64)  -- shared samples by position * 64 + number: value and stamp (R560)
  prior : Prior
  net : NetUnit
  rst : ResetUnit
  slanes : Vector SerialLane 16
  graft : GraftUnit
  runner : RunnerUnit
  cores : CoresUnit
  power : PowerUnit
  root : RootUnit
  pending : List Instr             -- commands waiting, first in first out
deriving DecidableEq, Repr

/-- Why the machine stops with a fault. The spec describes no condition in which the block itself stops: every command
has an effect, an answer or a recorded discard. -/
inductive Fault where
  /-- Raised by no meaning of this model (safe): the type is here because the host's interface asks for one. -/
  | unused
deriving DecidableEq, Repr

/-- Why a command has no meaning here. -/
inductive Refusal where
  /-- Raised by the dispatch alone, for a row of the table whose meaning is not written yet (safe). -/
  | notModelled (mnemonic : String)
deriving DecidableEq, Repr

/-- The mode controller after a cold reset (R16, R26, R42, R577). The main PLL locks during the bring-up. -/
def Ctl.reset : Ctl :=
  { mode := .dormant, sub := .none, prevMode := .dormant, entryTime := 0#64, causes := [], pendingCauses := [],
    firstCause := none, guard := .pendingOpen, permission := false, fastClocks := false, pllRunning := true,
    bootComplete := false, bootStopped := false, recoveryBoot := false, connectDeadline := none, stopStart := none, stopRamp := 0,
    haltLaneDeadline := none }

/-- The machine right after a cold reset: every dictionary entry at its default (R488), every ring empty (R517), the
Sundial at 0 (R409), no command waiting. -/
def State.reset : State :=
  { ctl := Ctl.reset, now := 0#64, regs := [], active := [], shadow := [], rings := Vector.replicate 32 Ring.empty,
    eventSeq := 0#32, sessions := Vector.replicate 16 Session.closed, coreReq := Session.closed, sent := [], draws := 0,
    sieve := Sieve.reset, engines := Vector.replicate 16 Engine.idle, gf := GridForming.reset, ride := RideState.reset,
    sounder := Sounder.reset, furrows := Vector.replicate 12 Furrow.stopped, pairs := Vector.replicate 24 LocalPair.idle,
    pwm := [], fltActive := [], lanes := Vector.replicate 8 GateLane.idle, nodes := Vector.replicate 192 GateNode.absent,
    remotes := Vector.replicate 192 RemotePair.idle, arms := Vector.replicate 6 RakeArm.idle, shears := Shears.clear,
    cloche := Cloche.reset, time := TimeUnit.reset,
    win := Vector.replicate 4 WinStatus.clear,
    harvest := Vector.replicate 4 HarvestUnit.idle, shared := [], prior := Prior.none,
    net := NetUnit.reset,
    rst := ResetUnit.start,
    slanes := Vector.replicate 16 SerialLane.idle, graft := GraftUnit.idle,
    runner := RunnerUnit.alone, cores := CoresUnit.reset, power := PowerUnit.reset, root := RootUnit.reset,
    pending := [] }

end Sys2Proof.Machine
end

