-- ==== Sys2Proof/Machine/Operands.lean ====
section
/-! DEFINITION. Numbers: the formats of R6, rounding and saturation (R7, R10, R92), wrapping differences (R9, R93),
durations (R685) and byte strings (R2, R3). -/

namespace Sys2Proof.Machine

/-- 2^k as an integer. -/
def p2 (k : Nat) : Int := Int.ofNat (1 <<< k)

/-- n / d rounded to the nearest integer, ties away from zero (R10). -/
def roundDiv (n : Int) (d : Nat) : Int :=
  if 0 ≤ n then (2 * n + d) / (2 * d) else -((2 * (-n) + d) / (2 * d))

/-- n / 2^k rounded under R10. -/
def roundShift (n : Int) (k : Nat) : Int := roundDiv n (1 <<< k)

/-- Signed quotient a / b of integers, b not zero, rounded under R10. -/
def roundQuot (a b : Int) : Int := if b < 0 then roundDiv (-a) b.natAbs else roundDiv a b.natAbs

/-- Clamp x to lo .. hi. -/
def clamp (lo hi x : Int) : Int := if x < lo then lo else if hi < x then hi else x

/-- Saturate to a signed width (R7). -/
def satS (bits : Nat) (x : Int) : Int := clamp (-(p2 (bits - 1))) (p2 (bits - 1) - 1) x

/-- Saturate to an unsigned width (R7). -/
def satU (bits : Nat) (x : Int) : Int := clamp 0 (p2 bits - 1) x

/-- The integer square root by bisection over `bits` bits. -/
def isqrtBits (n : Nat) : Nat → Nat → Nat
  | 0, acc => acc
  | b + 1, acc =>
    let t := acc + (1 <<< b)
    isqrtBits n b (if t * t ≤ n then t else acc)

/-- floor of the square root, for n below 2^256. -/
def isqrt (n : Nat) : Nat := isqrtBits n 128 0

/-- The square root of n / d rounded to the nearest integer, d not zero. -/
def roundSqrt (n d : Nat) : Nat := (isqrt (4 * n / d) + 1) / 2

/-- PU32 (Q8.24) of a 32-bit word (R6). -/
def puOf (w : BitVec 32) : Int := w.toInt

/-- The word of a PU32 code. -/
def ofPu (x : Int) : BitVec 32 := BitVec.ofInt 32 x

/-- 1.0 pu. -/
def onePu : Int := 16777216

/-- The signed difference of two ST64 times (R9). -/
def sdiff (target now : ST64) : Int := (target - now).toInt

/-- ST64 counts of a duration (R6: 1/256 ns). -/
def ns (n : Nat) : Nat := n * 256
def us (n : Nat) : Nat := n * 256000
def ms (n : Nat) : Nat := n * 256000000
def sec (n : Nat) : Nat := n * 256000000000

/-- An ST64 a number of counts later. -/
def later (t : ST64) (counts : Int) : ST64 := t + BitVec.ofInt 64 counts

/-- Whole microseconds of a span, rounded down and saturating at a U32 (R685). -/
def wholeUs (counts : Int) : Int := satU 32 (counts / 256000)

/-- Whole milliseconds of a span (R685). -/
def wholeMs (counts : Int) : Int := satU 32 (counts / 256000000)

/-- A sequence number's successor (R11). -/
def nextSeq (s : BitVec 32) : BitVec 32 := if s = 0xFFFFFFFF#32 then 1#32 else s + 1#32

/-- One bit of a number. -/
def bitOf (n k : Nat) : Bool := (n >>> k) % 2 == 1

/-- A number with one bit set or cleared. -/
def withBit (n k : Nat) (b : Bool) : Nat := if b then n ||| (1 <<< k) else n &&& (n ^^^ (1 <<< k))

/-- The bits of a list, bit 0 first. -/
def ofBits : List Bool → Nat
  | [] => 0
  | b :: r => b.toNat + 2 * ofBits r

/-- The number a byte string spells, least significant byte first (R3). -/
def leNat : Bytes → Nat
  | [] => 0
  | b :: r => b.toNat + 256 * leNat r

/-- The number a byte string spells, most significant byte first (R2). -/
def beNat (b : Bytes) : Nat := b.foldl (fun a x => a * 256 + x.toNat) 0

/-- A number as k bytes, least significant byte first (R3). -/
def toLe : Nat → Int → Bytes
  | 0, _ => []
  | k + 1, n => BitVec.ofInt 8 n :: toLe k (n / 256)

/-- A number as k bytes, most significant byte first (R2). -/
def toBe (k : Nat) (n : Int) : Bytes := (toLe k n).reverse

/-- The bytes from o for a length n, zero beyond the end. -/
def slice (b : Bytes) (o n : Nat) : Bytes := ((b.drop o).take n) ++ List.replicate (n - (b.drop o).length) 0#8

/-- A signed number of a byte string, least significant byte first. -/
def leInt (b : Bytes) : Int :=
  let n := leNat b
  if 2 * n < (1 <<< (8 * b.length)) then (n : Int) else (n : Int) - p2 (8 * b.length)

end Sys2Proof.Machine

namespace Sys2Proof

open Machine (p2)

/-- The widths of R6 in bytes; 0 for STRING and DOMAIN, whose length the access carries. -/
def DType.width : DType → Nat
  | .bool | .u8 | .i8 => 1
  | .u16 | .i16 => 2
  | .u32 | .i32 | .pu32 | .ang32 => 4
  | .u64 | .i64 | .st64 => 8
  | .time80 => 10
  | .string | .domain => 0

/-- The types travel as these codes (R489). -/
def DType.code : DType → Nat
  | .bool => 1 | .u8 => 2 | .u16 => 3 | .u32 => 4 | .u64 => 5 | .i8 => 6 | .i16 => 7 | .i32 => 8 | .i64 => 9
  | .pu32 => 10 | .ang32 => 11 | .st64 => 12 | .time80 => 13 | .string => 14 | .domain => 15

/-- The type's numbers are signed. -/
def DType.signed : DType → Bool
  | .i8 | .i16 | .i32 | .i64 | .pu32 => true
  | _ => false

/-- A value the type can carry. -/
def DType.holds (t : DType) : DVal → Bool
  | .num n =>
    match t with
    | .string | .domain => false
    | _ => let b := 8 * t.width
           if t.signed then decide (-(p2 (b - 1)) ≤ n ∧ n < p2 (b - 1)) else decide (0 ≤ n ∧ n < p2 b)
  | .bytes b =>
    match t with
    | .string => decide (b.length ≤ 255)
    | .domain => decide (b.length ≤ 65535)
    | _ => false

end Sys2Proof
end

