-- ==== Sys2Proof/Machine/Blocks.lean ====
section
/-! DEFINITION. The 32 block types of the Trellis (R117 to R163) with their accumulator arithmetic (R92 to R94): pure
functions of the latched inputs, the parameters and the state words. -/

namespace Sys2Proof.Machine

/-! ## Accumulator arithmetic: Q16.40 in 56 bits (R92) -/

/-- A value saturated to Q16.40, and whether it saturated. -/
def satQ (v : Int) : Int × Bool := (satS 56 v, decide (satS 56 v ≠ v))

/-- Terms summed into the accumulator one after the other, each sum saturating. -/
def accSum (ts : List Int) : Int × Bool :=
  ts.foldl (fun a t => let r := satQ (a.1 + t); (r.1, a.2 || r.2)) (0, false)

/-- A PU32 code in Q16.40. -/
def q40 (pu : Int) : Int := pu * 65536

/-- The product of two PU32 codes, rounded to 2^-40. -/
def mulPP (a b : Int) : Int := roundShift (a * b) 8

/-- A PU32 coefficient with a shift times a PU32 code, rounded to 2^-40 once (R121). -/
def mulPPs (a : Int) (sh : Nat) (b : Int) : Int := roundShift (a * b) (8 + sh)

/-- A PU32 code times a Q16.40 value. -/
def mulPQ (a b : Int) : Int := roundShift (a * b) 24

/-- A shifted PU32 coefficient times a Q16.40 value. -/
def mulPQs (a : Int) (sh : Nat) (b : Int) : Int := roundShift (a * b) (24 + sh)

/-- The product of two Q16.40 values. -/
def mulQQ (a b : Int) : Int := roundShift (a * b) 40

/-- A Q16.40 value rounded to a PU32 word and saturated, and whether it saturated (R92). -/
def outPu (v : Int) : BitVec 32 × Bool :=
  let c := roundShift v 16
  (ofPu (satS 32 c), decide (satS 32 c ≠ c))

/-- The square root of a Q16.40 value in Q16.40, rounded under R10. -/
def sqrtQ (v : Int) : Int := (roundSqrt (v.toNat * (1 <<< 40)) 1 : Nat)

/-- v / sqrt 3 for a Q16.40 value. -/
def overRoot3 (v : Int) : Int := let r : Int := (roundSqrt (v.natAbs * v.natAbs) 3 : Nat); if v < 0 then -r else r

/-- v * sqrt 3 / 2 for a Q16.40 value. -/
def halfRoot3 (v : Int) : Int := let r : Int := (roundSqrt (3 * v.natAbs * v.natAbs) 4 : Nat); if v < 0 then -r else r

/-- 2 pi in Q60. -/
def twoPi60 : Int := 7244019458077122842

/-- The sine's series from term k down, t2 the squared angle in Q60. -/
def sinTerms (t2 : Int) : Nat → Int → Int
  | 0, acc => acc
  | k + 1, acc => sinTerms t2 k (p2 60 - (t2 * acc / p2 60) / ((2 * (k + 1 : Nat)) * (2 * (k + 1 : Nat) + 1) : Int))

/-- sin of an angle in the first quadrant, given in radians in Q60, in Q60. -/
def sinRad (t : Int) : Int := t * sinTerms (t * t / p2 60) 12 (p2 60) / p2 60

/-- sin of an angle in the first quadrant, r of 2^30, in Q40. -/
def sinQuad (r : Nat) : Int := sinRad ((r : Int) * twoPi60 / p2 32) / p2 20

/-- sin of an ANG32 in Q40, to within 2^-38. -/
def sinQ (a : BitVec 32) : Int :=
  let n := a.toNat
  let r := n % (1 <<< 30)
  match n / (1 <<< 30) with
  | 0 => sinQuad r
  | 1 => sinQuad ((1 <<< 30) - r)
  | 2 => -(sinQuad r)
  | _ => -(sinQuad ((1 <<< 30) - r))

/-- FREE VALUE (log entry 16): one of the PU32 codes whose distance from a Q16.40 value is at most e codes; the spec
bounds the error and does not give the code (R144, R146). -/
def codeWithin (v : Int) (e : Nat) (free : Nat) : Int :=
  let lo := -((65536 * (e : Int) - v) / 65536)
  let hi := (v + 65536 * (e : Int)) / 65536
  lo + ((free % ((hi - lo).toNat + 1) : Nat) : Int)

/-! ## One block -/

/-- What one computation of a block reads. -/
structure BlockIn where
  x : Nat → BitVec 32          -- input words as latched or as they stand (R89, R119)
  isNew : Nat → Bool           -- newness of an input (R90)
  par : Nat → Int              -- parameters by sub-index
  st : Nat → Int               -- state words
  first : Bool                 -- first computation since the state was cleared (R132)
  mode : Mode                  -- latched at cycle 0 (R125)
  tracking : Bool              -- the loop is TRACKING (R139)
  preload : Bool               -- first CLOSED period after a close (R177)
  hedge : Int                  -- the named Hedge's output in Q16.40 (R180)
  period : Nat                 -- engine period in cycles
  rotor : Option Nat           -- the bound rotor's form: 0 HOLD, 1 PRESET, 2 ACTIVE (R198)
  advance : BitVec 32          -- PRESET_ADVANCE
  suspend : Bool               -- the guard is suspended in this period (R230)
  stopFactor : Option Int      -- the STOPPING factor in Q16.40 (R207)
  recover : Option (Int × Int) -- phi = elapsed / ramp in RECOVERING (R234)
  excluded : Nat → Bool        -- a Hedge input of a FAULTED loop (R156)
  chip : Option Bool           -- the sounder injects this chip (R154)
  free : Nat → Nat             -- free values of this computation

/-- What one computation of a block gives. -/
structure BlockOut where
  outs : List (BitVec 32)
  st : List (Nat × Int)
  sat : Bool
  divz : Bool
  ferr : Bool
  trip : Bool                             -- a following-error trip (R184)
  clamped : Option (Nat × Int × Int)      -- preload: reason, held value, new output (R178)
  winner : Option Int                     -- the Hedge's selected input, or -1
  guardMoved : Bool
  guardSuspended : Bool

def BlockOut.of (outs : List (BitVec 32)) (st : List (Nat × Int)) (sat : Bool) : BlockOut :=
  ⟨outs, st, sat, false, false, false, none, none, false, false⟩

/-- Input k as a PU32 code. -/
def BlockIn.pu (b : BlockIn) (k : Nat) : Int := puOf (b.x k)

/-- A whole-number parameter (R121). -/
def BlockIn.whole (b : BlockIn) (s : Nat) : Nat := (b.par s / onePu).toNat

/-- A seconds parameter in whole periods, at least 1 (R121). -/
def periodsOf (v : Int) (period : Nat) : Nat :=
  let d := 16777216 * period
  if d = 0 then 1 else max 1 ((v.toNat * 800000000 + (d - 1)) / d)

/-- 1.0 or 0 as a PU32 word. -/
def flagWord (b : Bool) : BitVec 32 := if b then ofPu onePu else 0#32

/-- One output from a Q16.40 value. -/
def one (v : Int) (sat : Bool) (st : List (Nat × Int)) : BlockOut :=
  let o := outPu v
  BlockOut.of [o.1] st (sat || o.2)

/-- Several outputs from Q16.40 values. -/
def many (vs : List Int) (sat : Bool) (st : List (Nat × Int)) : BlockOut :=
  BlockOut.of (vs.map fun v => (outPu v).1) st (sat || vs.any fun v => (outPu v).2)

/-- SUM (R129). -/
def blockSum (b : BlockIn) : BlockOut :=
  let a := accSum ((List.range (b.whole 0x10)).map fun k => mulPP (b.par (0x11 + k)) (b.pu k))
  one a.1 a.2 []

/-- GAIN (R129). -/
def blockGain (b : BlockIn) : BlockOut :=
  let a := accSum [mulPP (b.par 0x10) (b.pu 0), q40 (b.par 0x11)]
  one a.1 a.2 []

/-- MUL (R129): one product of three factors, rounded once to 2^-40. -/
def blockMul (b : BlockIn) : BlockOut :=
  let a := accSum [roundShift (b.par 0x10 * b.pu 0 * b.pu 1) 32]
  one a.1 a.2 []

/-- DIV (R130). -/
def blockDiv (b : BlockIn) : BlockOut :=
  if (b.pu 1).natAbs ≤ (b.par 0x10).natAbs ∨ b.pu 1 = 0 then
    let w : BitVec 32 := if 0 < b.pu 0 then 0x7FFFFFFF#32 else if b.pu 0 < 0 then 0x80000000#32 else 0#32
    { BlockOut.of [w] [] false with divz := true }
  else
    let a := accSum [roundQuot (b.pu 0 * p2 40) (b.pu 1)]
    one a.1 a.2 []

/-- LIMIT (R131). -/
def blockLimit (b : BlockIn) : BlockOut :=
  let u := if b.whole 0x12 = 0 then b.par 0x10 else b.pu 1
  let w := if b.whole 0x12 = 0 then b.par 0x11 else b.pu 2
  let y := if u < w then u else min (max (b.pu 0) w) u
  let act := decide (u < w ∨ u < b.pu 0 ∨ b.pu 0 < w)
  BlockOut.of [ofPu y, flagWord act] [] false

/-- RATE (R132). -/
def blockRate (b : BlockIn) : BlockOut :=
  let x := q40 (b.pu 0)
  let s := if b.first then (if b.whole 0x13 = 0 then x else 0) else b.st 0
  let sh := b.whole 0x12
  let rise := q40 (b.par 0x10) / p2 sh
  let fall := q40 (b.par 0x11) / p2 sh
  let d := x - s
  let r := if rise < d then satQ (s + rise) else if fall < -d then satQ (s - fall) else (x, false)
  let act := decide (rise < d ∨ fall < -d)
  let o := outPu r.1
  BlockOut.of [o.1, flagWord act] [(0, r.1)] (r.2 || o.2)

/-- LPF1 (R136). -/
def blockLpf1 (b : BlockIn) : BlockOut :=
  let s := b.st 0
  let a := accSum [s, mulPQs (b.par 0x10) (b.whole 0x11) (q40 (b.pu 0) - s)]
  one a.1 a.2 [(0, a.1)]

/-- BIQUAD (R137). -/
def blockBiquad (b : BlockIn) : BlockOut :=
  let x := b.pu 0
  let y := accSum [mulPP (b.par 0x10) x, b.st 0]
  let s1 := accSum [mulPP (b.par 0x11) x, -(mulPQ (b.par 0x13) y.1), b.st 1]
  let s2 := accSum [mulPP (b.par 0x12) x, -(mulPQ (b.par 0x14) y.1)]
  one y.1 (y.2 || s1.2 || s2.2) [(0, s1.1), (1, s2.1)]

/-- LEADLAG (R138). -/
def blockLeadlag (b : BlockIn) : BlockOut :=
  let y := accSum [mulPP (b.par 0x10) (b.pu 0), mulPQ (b.par 0x11) (b.st 0), -(mulPQ (b.par 0x12) (b.st 1))]
  one y.1 y.2 [(0, q40 (b.pu 0)), (1, y.1)]

/-- The error and feed-forward of PI (R139). -/
def piError (b : BlockIn) : Int := b.pu 0 - b.pu 1
def piFf (b : BlockIn) : Int := if b.whole 0x16 = 1 then q40 (b.pu 2) else 0

/-- PI after a close: the preload of R177 and R178. Where the held output lay outside the limits and step 4 clamps as well,
the reason is 1, the first of the two (DESIGN CHOICE, log entry 111; R178). -/
def blockPiPreload (b : BlockIn) : BlockOut :=
  let uMax := q40 (b.par 0x14)
  let uMin := q40 (b.par 0x15)
  let kpe := mulPP (b.par 0x10) (piError b)
  let h := b.st 1
  let h' := clamp uMin uMax h
  let i0 := accSum [h', -kpe, -(piFf b)]
  let i := clamp uMin uMax i0.1
  let v := accSum [kpe, i, piFf b]
  let w := (outPu (clamp uMin uMax v.1)).1
  let held := q40 (puOf w)
  let out := BlockOut.of [w] [(0, i), (1, held)] (i0.2 || v.2 || decide (held ≠ h))
  if held ≠ h then
    { out with clamped := some (if h' ≠ h then 1 else 2, roundShift h 16, puOf w) }
  else out

/-- PI (R139, R177). -/
def blockPi (b : BlockIn) : BlockOut :=
  if b.preload then blockPiPreload b
  else
    let uMax := q40 (b.par 0x14)
    let uMin := q40 (b.par 0x15)
    let sh := b.whole 0x12
    let e := piError b
    let kpe := mulPP (b.par 0x10) e
    let i := b.st 0
    let u := accSum [kpe, i, piFf b]
    let i1 :=
      if b.tracking then
        let d := accSum [b.hedge, -u.1]
        let r := accSum [i, mulPQs (b.par 0x13) sh d.1]
        (r.1, r.2 || d.2 || u.2)
      else accSum [i, mulPPs (b.par 0x11) sh e]
    let u' := accSum [kpe, i1.1, piFf b]
    let stop := decide ((uMax < u'.1 ∧ i < i1.1) ∨ (u'.1 < uMin ∧ i1.1 < i))
    let i2 := if stop then i else i1.1
    let i3 := clamp uMin uMax i2
    let v := accSum [kpe, i3, piFf b]
    let y := clamp uMin uMax v.1
    let w := (outPu y).1
    BlockOut.of [w] [(0, i3), (1, q40 (puOf w))]
      (stop || decide (i3 ≠ i2) || decide (y ≠ v.1) || i1.2 || u'.2 || v.2 || (outPu y).2)

/-- PR (R140). -/
def blockPr (b : BlockIn) : BlockOut :=
  let yMax := q40 (b.par 0x15)
  let x := q40 (b.pu 0)
  let r := accSum [mulPQ (b.par 0x13) (b.st 0), -(mulPQ (b.par 0x14) (b.st 1)),
    mulPQs (b.par 0x11) (b.whole 0x12) (x - b.st 3)]
  let rc := clamp (-yMax) yMax r.1
  let v := accSum [mulPP (b.par 0x10) (b.pu 0), rc]
  let y := clamp (-yMax) yMax v.1
  let o := outPu y
  BlockOut.of [o.1] [(0, rc), (1, b.st 0), (2, x), (3, b.st 2)]
    (r.2 || v.2 || o.2 || decide (rc ≠ r.1) || decide (y ≠ v.1))

/-- DELAY (R133): the words hold PU32 codes, oldest first. -/
def blockDelay (b : BlockIn) : BlockOut :=
  let n := b.whole 0x10
  let st := (List.range n).map fun k => (k, if k + 1 < n then b.st (k + 1) else q40 (b.pu 0))
  one (b.st 0) false st

/-- ABC_AB (R142). -/
def blockAbcAb (b : BlockIn) : BlockOut :=
  let a := q40 (b.pu 0)
  let c := q40 (b.pu 1)
  let d := q40 (b.pu 2)
  let u := accSum [2 * a, -c, -d]
  let v := accSum [c, -d]
  let z := accSum [a, c, d]
  many [roundDiv u.1 3, overRoot3 v.1, roundDiv z.1 3] (u.2 || v.2 || z.2) []

/-- AB_DQ (R143). -/
def blockAbDq (b : BlockIn) : BlockOut :=
  let d := accSum [mulPP (b.pu 0) (b.pu 3), mulPP (b.pu 1) (b.pu 2)]
  let q := accSum [-(mulPP (b.pu 0) (b.pu 2)), mulPP (b.pu 1) (b.pu 3)]
  many [d.1, q.1] (d.2 || q.2) []

/-- DQ_AB (R143). -/
def blockDqAb (b : BlockIn) : BlockOut :=
  let u := accSum [mulPP (b.pu 0) (b.pu 3), -(mulPP (b.pu 1) (b.pu 2))]
  let v := accSum [mulPP (b.pu 0) (b.pu 2), mulPP (b.pu 1) (b.pu 3)]
  many [u.1, v.1] (u.2 || v.2) []

/-- AB_ABC (R142). -/
def blockAbAbc (b : BlockIn) : BlockOut :=
  let a := q40 (b.pu 0)
  let z := if b.whole 0x10 = 1 then q40 (b.pu 2) else 0
  let h := halfRoot3 (q40 (b.pu 1))
  let u := accSum [a, z]
  let v := accSum [-(a / 2), h, z]
  let w := accSum [-(a / 2), -h, z]
  many [u.1, v.1, w.1] (u.2 || v.2 || w.2) []

/-- SINCOS (R144): within 4 codes of the true value. -/
def blockSincos (b : BlockIn) : BlockOut :=
  let a := b.x 0 + BitVec.ofInt 32 (b.par 0x10)
  let c (v : Int) (k : Nat) : BitVec 32 := ofPu (satS 32 (codeWithin v 4 (b.free k)))
  BlockOut.of [c (sinQ a) 0, c (sinQ (a + 0x40000000#32)) 1] [] false

/-- The 64-bit angle of NCO and SWING: its upper word. -/
def angleWord (a : Int) : BitVec 32 := BitVec.ofInt 32 (a / p2 32)

/-- A 64-bit angle modulo 2^64. -/
def angleMod (a : Int) : Int := a % p2 64

/-- A 64-bit angle of an upper word. -/
def angleOf (w : BitVec 32) : Int := (w.toNat : Int) * p2 32

/-- NCO (R145). -/
def blockNco (b : BlockIn) : BlockOut :=
  let a :=
    if b.whole 0x12 = 1 ∧ b.isNew 0 then angleOf (b.x 0 + BitVec.ofInt 32 (b.par 0x11))
    else angleMod (b.st 0 + b.par 0x10 * b.pu 1 * 256)
  BlockOut.of [angleWord a] [(0, a)] false

/-- FREE VALUE (log entry 16): one of the codes at most 1 from the root of a sum of squares of codes; the spec bounds the
error and does not give the code (R146). -/
def rootWithin (s : Nat) (free : Nat) : Nat :=
  let f := isqrt s
  let lo := if f * f = s then f - 1 else f
  lo + free % (f + 2 - lo)

/-- MAG (R146): within 1 code of the true root. -/
def blockMag (b : BlockIn) : BlockOut :=
  let s := b.pu 0 * b.pu 0 + b.pu 1 * b.pu 1 + (if b.whole 0x10 = 1 then b.pu 2 * b.pu 2 else 0)
  let c : Int := if s = 0 then 0 else (rootWithin s.toNat (b.free 0) : Nat)
  BlockOut.of [ofPu (satS 32 c)] [] (decide (satS 32 c ≠ c))

/-- SEQ (R147). -/
def blockSeq (b : BlockIn) : BlockOut :=
  let sn := b.pu 2
  let cs := b.pu 3
  let c := mulPP cs cs - mulPP sn sn
  let s := accSum [mulPP sn cs, mulPP sn cs]
  let dp := mulPP (b.pu 0) cs + mulPP (b.pu 1) sn
  let qp := -(mulPP (b.pu 0) sn) + mulPP (b.pu 1) cs
  let dm := mulPP (b.pu 0) cs - mulPP (b.pu 1) sn
  let qm := mulPP (b.pu 0) sn + mulPP (b.pu 1) cs
  let f (k : Nat) := b.st k
  let rs := [accSum [dp, -(mulQQ (f 2) c), -(mulQQ (f 3) s.1)], accSum [qp, -(mulQQ (f 3) c), mulQQ (f 2) s.1],
    accSum [dm, -(mulQQ (f 0) c), mulQQ (f 1) s.1], accSum [qm, -(mulQQ (f 1) c), -(mulQQ (f 0) s.1)]]
  let ds := (List.range 4).map fun k => accSum [(rs.getD k (0, false)).1, -(f k)]
  let fs := (List.range 4).map fun k =>
    accSum [f k, mulPQs (b.par 0x10) (b.whole 0x11) (ds.getD k (0, false)).1]
  many (fs.map (·.1)) (s.2 || rs.any (·.2) || ds.any (·.2) || fs.any (·.2))
    ((List.range 4).map fun k => (k, (fs.getD k (0, false)).1))

/-- SWING in its normal form (R149, R230). -/
def blockSwingActive (b : BlockIn) : BlockOut :=
  let w0 := q40 (b.par 0x14)
  let om := b.st 0
  let dTerm := if b.par 0x12 = 0 then 0 else mulPQ (b.par 0x12) (om - q40 (b.pu 2))
  let delta := accSum [q40 (b.pu 0), -(q40 (b.pu 1)), -(mulPQ (b.par 0x13) (om - w0)), -dTerm]
  let o1 := accSum [om, mulPQs (b.par 0x10) (b.whole 0x11) delta.1]
  let lim := q40 (b.par 0x15)
  let o2 := clamp (w0 - lim) (w0 + lim) o1.1
  let a := angleMod (b.st 1 + roundShift (b.par 0x16 * o2) 8)
  let gm := b.whole 0x18
  let guardOn := decide ((gm = 1 ∧ b.mode = .ride) ∨ gm = 2)
  let g := (angleWord a - b.x 3).toInt
  let bound := b.par 0x17
  let moved := guardOn && !b.suspend && decide (bound < g ∨ g < -bound)
  let a' := if moved then angleOf (b.x 3 + BitVec.ofInt 32 (if 0 < g then bound else -bound)) else a
  let f := outPu o2
  { BlockOut.of [angleWord a', f.1, flagWord moved] [(0, o2), (1, a')]
      (delta.2 || o1.2 || decide (o2 ≠ o1.1) || f.2) with
    guardMoved := moved, guardSuspended := guardOn && b.suspend }

/-- SWING (R149), or the form the device gives the bound rotor (R198). -/
def blockSwing (b : BlockIn) : BlockOut :=
  let w0 := q40 (b.par 0x14)
  match b.rotor with
  | some 0 =>
    let a := angleMod (b.st 1 + roundShift (b.par 0x16 * w0) 8)
    BlockOut.of [angleWord a, (outPu w0).1, 0#32] [(0, w0), (1, a)] false
  | some 1 =>
    let a := angleOf (b.x 3 + b.advance)
    BlockOut.of [angleWord a, (outPu w0).1, 0#32] [(0, w0), (1, a)] false
  | _ => blockSwingActive b

/-- QDROOP (R150). -/
def blockQdroop (b : BlockIn) : BlockOut :=
  let a := accSum [q40 (b.pu 2), -(mulPP (b.par 0x10) (b.pu 1 - b.pu 0))]
  one (clamp (q40 (b.par 0x12)) (q40 (b.par 0x11)) a.1) a.2 []

/-- A VIMP parameter on its way back from RIDE, rounded to PU32 (R234). -/
def recovering (b : BlockIn) (normal ride : Int) : Int :=
  match b.recover with
  | some (t, ramp) => if ramp ≤ t ∨ ramp ≤ 0 then normal else roundQuot (ride * ramp + t * (normal - ride)) ramp
  | none => normal

/-- VIMP (R151, R234). -/
def blockVimp (b : BlockIn) : BlockOut :=
  let pick (k : Nat) : Int :=
    if b.mode = .ride then b.par (0x12 + k) else recovering b (b.par (0x10 + k)) (b.par (0x12 + k))
  let u := accSum [q40 (b.pu 0), -(mulPP (pick 0) (b.pu 2)), mulPP (pick 1) (b.pu 3)]
  let v := accSum [q40 (b.pu 1), -(mulPP (pick 0) (b.pu 3)), -(mulPP (pick 1) (b.pu 2))]
  many [u.1, v.1] (u.2 || v.2) []

/-- The limit of ILIM in Q16.40 (R152, R207). -/
def ilimLimit (b : BlockIn) : Int :=
  let i := if b.mode = .energize then b.par 0x12 else if b.mode = .ride then b.par 0x11 else b.par 0x10
  match b.stopFactor with
  | some f => mulPQ i f
  | none => q40 i

/-- ILIM (R152). At I = 0 every output is 0, and the block limits wherever an input it reads is not 0 (R163). -/
def blockIlim (b : BlockIn) : BlockOut :=
  let i := ilimLimit b
  let x (k : Nat) := q40 (b.pu k)
  let neg := decide (b.whole 0x14 = 1)
  let qp := accSum [mulPP (b.pu 0) (b.pu 0), mulPP (b.pu 1) (b.pu 1)]
  let qn := if neg then accSum [mulPP (b.pu 2) (b.pu 2), mulPP (b.pu 3) (b.pu 3)] else (0, false)
  let mp := sqrtQ qp.1
  let mn := sqrtQ qn.1
  let m := mp + mn
  if i = 0 then
    let some := decide (b.pu 0 ≠ 0 ∨ b.pu 1 ≠ 0) || (neg && decide (b.pu 2 ≠ 0 ∨ b.pu 3 ≠ 0))
    BlockOut.of [0#32, 0#32, 0#32, 0#32, flagWord some] [] (qp.2 || qn.2)
  else if m ≤ i then
    BlockOut.of [b.x 0, b.x 1, if neg then b.x 2 else 0#32, if neg then b.x 3 else 0#32, 0#32] [] (qp.2 || qn.2)
  else
    let sc (v : Int) : Int := roundQuot (v * i) m
    let ip := roundQuot (i * mp) m
    let rest (used : Int) : Int := sqrtQ (mulQQ ip ip - mulQQ used used)
    let lead (v : Int) : Int := clamp (-ip) ip v
    let follow (v used : Int) : Int :=
      let r := min (v.natAbs : Int) (rest used)
      if v < 0 then -r else r
    let dq : Int × Int :=
      match b.whole 0x13 with
      | 0 => let d := lead (x 0); (d, follow (x 1) d)
      | 1 => let q := lead (x 1); (follow (x 0) q, q)
      | _ => (sc (x 0), sc (x 1))
    let o := many [dq.1, dq.2, if neg then sc (x 2) else 0, if neg then sc (x 3) else 0] (qp.2 || qn.2) []
    { o with outs := o.outs ++ [flagWord true] }

/-- The selected input of a HEDGE among those included, lowest index first (R156). -/
def hedgePick (b : BlockIn) (high : Bool) : List Nat → Option (Nat × Int) → Option (Nat × Int)
  | [], best => best
  | k :: r, best =>
    if b.excluded k then hedgePick b high r best
    else match best with
      | none => hedgePick b high r (some (k, b.pu k))
      | some (_, v) =>
        if (if high then v < b.pu k else b.pu k < v) then hedgePick b high r (some (k, b.pu k))
        else hedgePick b high r best

/-- HEDGE (R156, R182). -/
def blockHedge (b : BlockIn) : BlockOut :=
  match hedgePick b (decide (b.whole 0x11 = 1)) (List.range (b.whole 0x10)) none with
  | some (k, v) => { BlockOut.of [ofPu v, ofPu ((k : Int) * onePu)] [(0, q40 v)] false with winner := some k }
  | none => { BlockOut.of [(outPu (b.st 0)).1, ofPu (-onePu)] [] false with ferr := true, winner := some (-1) }

/-- FERR (R157, R184, R185). STATE0 counts periods; word 1 of the model's state says that y1 is set. -/
def blockFerr (b : BlockIn) : BlockOut :=
  let e := satS 32 (b.pu 0 - b.pu 1)
  let beyond := decide ((b.par 0x10) < (e.natAbs : Int))
  let n := if beyond then b.st 0 + 1 else 0
  let was := decide (b.st 1 ≠ 0)
  let trip := !was && decide ((periodsOf (b.par 0x11) b.period : Int) < n)
  let on := trip || (was && beyond)
  { BlockOut.of [ofPu e, flagWord on] [(0, if was && !beyond then 0 else n), (1, if on then 1 else 0)]
      (decide (e ≠ b.pu 0 - b.pu 1)) with ferr := trip, trip := trip }

/-- SYNC (R153). -/
def blockSync (b : BlockIn) : BlockOut :=
  let d := (b.x 4 - b.x 5).toInt
  let ok := decide (((b.pu 0 - b.pu 1).natAbs : Int) ≤ b.par 0x10 ∧ ((b.pu 2 - b.pu 3).natAbs : Int) ≤ b.par 0x11 ∧
    (d.natAbs : Int) ≤ b.par 0x12)
  let n := if ok then b.st 0 + 1 else 0
  BlockOut.of [flagWord (decide ((periodsOf (b.par 0x13) b.period : Int) ≤ n)), ofPu (roundDiv d 256)] [(0, n)] false

/-- MOD2L (R159). -/
def blockMod2l (b : BlockIn) : BlockOut :=
  BlockOut.of [ofPu (clamp 0 onePu (roundDiv (b.pu 0 + onePu) 2))] [] false

/-- NLC (R160). -/
def blockNlc (b : BlockIn) : BlockOut :=
  let n := b.par 0x11 / 65536
  BlockOut.of [ofPu (clamp 0 n (roundDiv (b.pu 0 * n) 16777216) * 65536)] [] false

/-- PROBE (R154). -/
def blockProbe (b : BlockIn) : BlockOut :=
  match b.chip with
  | some c =>
    let s : Int := if c then 1 else -1
    let v := b.pu 0 + s * b.par 0x11
    BlockOut.of [ofPu (satS 32 v), ofPu (s * onePu)] [] (decide (satS 32 v ≠ v))
  | none => BlockOut.of [b.x 0, 0#32] [] false

/-- GATE (R134). -/
def blockGate (b : BlockIn) : BlockOut :=
  let on := if b.par 0x10 < b.pu 2 then true else if b.pu 2 < b.par 0x11 then false else decide (b.st 0 ≠ 0)
  BlockOut.of [if on then b.x 0 else b.x 1, flagWord on] [(0, if on then 1 else 0)] false

/-- One block of a type (R117). TAP writes no output (R161). -/
def runBlock (type : Nat) (b : BlockIn) : BlockOut :=
  match type with
  | 1 => blockSum b | 2 => blockGain b | 3 => blockMul b | 4 => blockDiv b | 5 => blockLimit b | 6 => blockRate b
  | 7 => blockLpf1 b | 8 => blockBiquad b | 9 => blockLeadlag b | 10 => blockPi b | 11 => blockPr b
  | 12 => blockDelay b | 13 => blockAbcAb b | 14 => blockAbDq b | 15 => blockDqAb b | 16 => blockAbAbc b
  | 17 => blockSincos b | 18 => blockNco b | 19 => blockMag b | 20 => blockSeq b | 21 => blockSwing b
  | 22 => blockQdroop b | 23 => blockVimp b | 24 => blockIlim b | 25 => blockHedge b | 26 => blockFerr b
  | 27 => blockSync b | 28 => blockMod2l b | 29 => blockNlc b | 30 => blockProbe b | 32 => blockGate b
  | _ => BlockOut.of [] [] false

/-- The cycle cost c of a block (R117). -/
def blockCost (type nin : Nat) : Nat :=
  match type with
  | 1 | 2 | 5 | 12 | 31 => 2
  | 3 | 18 | 32 => 3
  | 6 | 7 | 13 | 16 | 26 | 30 => 4
  | 9 | 10 | 22 | 29 => 6
  | 8 | 14 | 15 => 8
  | 19 => 9
  | 11 | 17 | 23 | 28 => 10
  | 4 | 24 | 27 => 12
  | 21 => 14
  | 20 => 16
  | 25 => 4 + 2 * nin
  | _ => 0

/-- State words of a block (R117). -/
def blockStateWords (type n : Nat) : Nat :=
  match type with
  | 6 | 7 | 18 | 25 | 26 | 27 | 30 | 32 => 1
  | 8 | 9 | 10 | 21 => 2
  | 11 | 20 => 4
  | 12 => n
  | _ => 0

/-- Parameter words of a block (R117). -/
def blockParamWords (type : Nat) : Nat :=
  match type with
  | 1 | 21 => 9
  | 2 | 7 | 20 | 25 | 29 | 32 => 2
  | 3 | 4 | 12 | 16 | 17 | 19 => 1
  | 5 | 9 | 18 | 22 | 26 | 28 | 30 => 3
  | 6 | 23 | 27 | 31 => 4
  | 8 | 24 => 5
  | 10 => 7
  | 11 => 6
  | _ => 0

/-- Output words of a block (R117). -/
def blockOutputs (type : Nat) : Nat :=
  match type with
  | 5 | 6 | 14 | 15 | 17 | 23 | 25 | 26 | 27 | 30 | 32 => 2
  | 13 | 16 | 21 => 3
  | 20 => 4
  | 24 => 5
  | 31 => 0
  | _ => 1

/-- The type may be CHECKED (R128). -/
def checkEligible (type : Nat) : Bool := decide (type ≠ 30 ∧ type ≠ 31)

/-- Output k of a type is an ANG32 (R117). -/
def outputAngle (type k : Nat) : Bool := decide ((type = 18 ∨ type = 21) ∧ k = 0)

/-- Input k of a type is an ANG32 (R117). -/
def inputAngle (type k : Nat) : Bool :=
  decide ((type = 17 ∧ k = 0) ∨ (type = 18 ∧ k = 0) ∨ (type = 21 ∧ k = 3) ∨ (type = 27 ∧ (k = 4 ∨ k = 5)))

/-- The inputs a block reads under its parameters (R117, R118); x3 of the bound rotor is read in every mode (R196). -/
def inputsRead (type : Nat) (par : Nat → Int) (rotor : Bool) : List Nat :=
  let whole (s : Nat) : Nat := (par s / onePu).toNat
  match type with
  | 1 => List.range (whole 0x10)
  | 2 | 6 | 7 | 8 | 9 | 11 | 12 | 17 | 28 | 29 | 30 => [0]
  | 3 | 4 | 26 => [0, 1]
  | 5 => if whole 0x12 = 1 then [0, 1, 2] else [0]
  | 10 => if whole 0x16 = 1 then [0, 1, 2] else [0, 1]
  | 13 | 22 | 32 => [0, 1, 2]
  | 14 | 15 | 20 | 23 => [0, 1, 2, 3]
  | 16 => if whole 0x10 = 1 then [0, 1, 2] else [0, 1]
  | 18 => if whole 0x12 = 1 then [0, 1] else [1]
  | 19 => if whole 0x10 = 1 then [0, 1, 2] else [0, 1]
  | 21 => [0, 1] ++ (if par 0x12 ≠ 0 then [2] else []) ++ (if whole 0x18 ≠ 0 ∨ rotor then [3] else [])
  | 24 => if whole 0x14 = 1 then [0, 1, 2, 3] else [0, 1]
  | 25 => List.range (whole 0x10)
  | 27 => [0, 1, 2, 3, 4, 5]
  | 31 => List.range (whole 0x11)
  | _ => []

/-- A parameter set its type's rules declare inconsistent (R131, R134, R139, R150). -/
def paramsInconsistent (type : Nat) (par : Nat → Int) : Bool :=
  match type with
  | 5 => decide (par 0x12 = 0 ∧ par 0x10 < par 0x11)
  | 10 => decide (par 0x14 < par 0x15)
  | 22 => decide (par 0x11 < par 0x12)
  | 32 => decide (par 0x10 < par 0x11)
  | _ => false

end Sys2Proof.Machine
end

