-- ==== Sys2Proof/Config.lean ====
section
/-! DEFINITION. What one implementation fixes and what the spec leaves open. A constant here has no body: nothing can
be proved of its value, and every statement holds for each value it might have (assumption log, entry 3). -/

namespace Sys2Proof.Config

/-- FREE VALUE (log entry 3): the n-th value the spec leaves open. A step that needs one reads it at the counter
State.draws and advances the counter. -/
opaque freeValue : Nat → Nat

/-- FREE VALUE (log entry 4): the outcome of a cryptographic check or digest over a byte string. The spec names the
algorithm (SHA-256, RSASSA-PSS, HMAC-SHA-256), and gives no arithmetic for it. -/
opaque digest : Bytes → Bytes

/-- FREE VALUE (log entry 4): whether a signature over a message verifies under a public key (R641). -/
opaque verifies (key message signature : Bytes) : Bool

/-- FREE VALUE (log entry 4): the signature of the identity key over a message; its salt is drawn (R641, R650). -/
opaque identitySign (salt : Nat) (message : Bytes) : Bytes

/-- FREE VALUE (log entry 4): the SHA-256 of the boot ROM, fixed in silicon (R651). -/
opaque romMeasurement : Bytes

/-- FREE VALUE (log entry 4): a message encrypted under a public key, RSAES-OAEP; its seed is drawn (R501). -/
opaque encrypt (seed : Nat) (key message : Bytes) : Bytes

/-- FREE VALUE (log entry 4): HMAC-SHA-256 of a message under a key (R500). -/
opaque hmac (key message : Bytes) : Bytes

/-- FREE VALUE (log entry 42): what the averaged cross-spectra of the samples of one estimate (chip, V and I at each output
phase after the lead-in) give for bin k: the real and the imaginary part of Z = S_VC / S_IC as PU32 codes, and the coherence of
the current response. The spec gives the quantities and no arithmetic for them (R248). -/
opaque spectrum : List (Bool × Int × Int) → Nat → Int × Int × Int

end Sys2Proof.Config
end

