-- ==== Sys2Proof/Machine/Dictionary.lean ====
section
/-! DEFINITION. The object dictionary as the spec's tables give it: one row per entry and sub-index, with its
type, access code, default and range (R5, R6, R486 to R489 and the entry tables of every chapter). -/

namespace Sys2Proof.Machine

/-- The range column of a dictionary table. -/
inductive Range where
  | any                              -- every value of the type
  | spans (l : List (Int × Int))     -- one of the closed spans
  | whole (lo hi : Int)              -- a PU32 that is a whole number from lo to hi
  | signOnly                         -- a PU32 that is -1 or +1
  | bytes (lo hi : Nat)              -- a byte block of that many bytes
  | items (size lo hi : Nat)         -- a byte block of lo to hi items of that many bytes each
  | step (d lo hi : Int)             -- a multiple of d from lo to hi
deriving DecidableEq, Repr

/-- One row: indices, sub-indices, name, type, access, default and range. -/
structure Row where
  iLo : Nat
  iHi : Nat
  sLo : Nat
  sHi : Nat
  name : String
  ty : DType
  acc : Access
  dflt : Int
  rng : Range
deriving DecidableEq, Repr

namespace Dict

/-- Entries 0x00xx (R509). -/
def rows00 : List Row := [  ⟨0x0000, 0x0000, 0x01, 0x01, "WIN_STATUS", .u16, .ro, 0, .any⟩,
  ⟨0x0000, 0x0000, 0x02, 0x02, "WIN_ADDR", .u32, .ro, 0, .any⟩,
  ⟨0x0000, 0x0000, 0x03, 0x03, "WIN_REFUSED", .u32, .ro, 0, .any⟩]

/-- Entries 0x10xx (R510). -/
def rows10 : List Row := [  ⟨0x1000, 0x1000, 0x01, 0x01, "IDENTITY", .u32, .cst, 1678904629, .any⟩,
  ⟨0x1000, 0x1000, 0x02, 0x02, "SERIAL", .domain, .cst, 0, (.bytes 16 16)⟩,
  ⟨0x1000, 0x1000, 0x03, 0x03, "PART", .string, .cst, 0, (.bytes 8 8)⟩,
  ⟨0x1001, 0x1001, 0x01, 0x01, "REVISION", .u32, .cst, 16777216, .any⟩]

/-- Entries 0x11xx (R42, R43, R44). -/
def rows11 : List Row := [  ⟨0x1100, 0x1100, 0x01, 0x01, "MODE", .u8, .ro, 1, .any⟩,
  ⟨0x1100, 0x1100, 0x02, 0x02, "SUBSTATE", .u8, .ro, 0, .any⟩,
  ⟨0x1100, 0x1100, 0x03, 0x03, "PREVIOUS_MODE", .u8, .ro, 1, .any⟩,
  ⟨0x1100, 0x1100, 0x04, 0x04, "MODE_ENTRY_TIME", .st64, .ro, 0, .any⟩,
  ⟨0x1100, 0x1100, 0x05, 0x05, "HOLD_DORMANT", .bool, .rw, 0, (.spans [(0, 1)])⟩,
  ⟨0x1100, 0x1100, 0x06, 0x06, "HALT_CAUSES", .u32, .ro, 0, .any⟩,
  ⟨0x1100, 0x1100, 0x07, 0x07, "FIRST_HALT_CAUSE", .u8, .ro, 255, .any⟩,
  ⟨0x1100, 0x1100, 0x08, 0x08, "GUARD_TEST", .u8, .ro, 0, .any⟩,
  ⟨0x1100, 0x1100, 0x09, 0x09, "REFUSED_IN_MODE", .u32, .ro, 0, .any⟩,
  ⟨0x1101, 0x1101, 0x01, 0x01, "COMMAND", .u8, .wo, 0, (.spans [(1, 8)])⟩,
  ⟨0x1101, 0x1101, 0x02, 0x02, "LAST_COMMAND", .u8, .ro, 0, .any⟩,
  ⟨0x1101, 0x1101, 0x03, 0x03, "LAST_RESULT", .u16, .ro, 0, .any⟩,
  ⟨0x1101, 0x1101, 0x04, 0x04, "STOP_RAMP", .u32, .rw, 1000, (.spans [(10, 60000)])⟩,
  ⟨0x1101, 0x1101, 0x05, 0x05, "CONNECT_TIMEOUT", .u32, .rw, 10000, (.spans [(1000, 600000)])⟩,
  ⟨0x1102, 0x1102, 0x01, 0x10, "SESSION_REFUSED", .u32, .ro, 0, .any⟩,
  ⟨0x1102, 0x1102, 0x11, 0x11, "CORE_REFUSED", .u32, .ro, 0, .any⟩]

/-- Entries 0x12xx (R116, R439, R613). -/
def rows12 : List Row := [  ⟨0x1200, 0x1200, 0x01, 0x01, "LAST_REACH", .u8, .ro, 1, .any⟩,
  ⟨0x1200, 0x1200, 0x02, 0x02, "LAST_SOURCES", .u16, .ro, 1, .any⟩,
  ⟨0x1200, 0x1200, 0x03, 0x03, "LAST_RELEASE", .st64, .ro, 0, .any⟩,
  ⟨0x1200, 0x1200, 0x04, 0x04, "LOG", .domain, .ro, 0, (.bytes 256 256)⟩,
  ⟨0x1200, 0x1200, 0x05, 0x05, "WARM_COUNT", .u32, .ro, 0, .any⟩,
  ⟨0x1200, 0x1200, 0x06, 0x06, "DOMAIN_COUNT", .u32, .ro, 0, .any⟩,
  ⟨0x1201, 0x1201, 0x01, 0x01, "WARM_RESET", .bool, .wo, 0, (.spans [(1, 1)])⟩,
  ⟨0x1201, 0x1201, 0x02, 0x02, "DOMAIN_RESET", .u16, .wo, 0, .any⟩,
  ⟨0x1201, 0x1201, 0x03, 0x03, "DOMAIN_RESULT", .u16, .ro, 0, .any⟩,
  ⟨0x1202, 0x1202, 0x01, 0x01, "CODE", .u8, .ro, 0, .any⟩,
  ⟨0x1202, 0x1202, 0x02, 0x02, "BOOT_MODE", .u8, .ro, 0, .any⟩,
  ⟨0x1202, 0x1202, 0x03, 0x03, "POSITION", .u8, .ro, 0, .any⟩,
  ⟨0x1202, 0x1202, 0x04, 0x04, "RAW", .u8, .ro, 0, .any⟩,
  ⟨0x1202, 0x1202, 0x05, 0x05, "READ_TIME", .st64, .ro, 0, .any⟩,
  ⟨0x1210, 0x1210, 0x01, 0x01, "BEAT", .u32, .rwo, 80000, (.spans [(80000, 8000000)])⟩,
  ⟨0x1210, 0x1210, 0x02, 0x02, "CADENCE_DIV", .u32, .rwo, 100, (.spans [(1, 10000)])⟩,
  ⟨0x1210, 0x1210, 0x03, 0x03, "CADENCE_DIV", .u32, .rwo, 10, (.spans [(1, 10000)])⟩,
  ⟨0x1210, 0x1210, 0x04, 0x04, "CADENCE_DIV", .u32, .rwo, 2, (.spans [(1, 10000)])⟩,
  ⟨0x1210, 0x1210, 0x05, 0x05, "CADENCE_DIV", .u32, .rwo, 1, (.spans [(1, 10000)])⟩,
  ⟨0x1210, 0x1210, 0x06, 0x09, "CADENCE_OFFSET", .u32, .rwo, 0, .any⟩,
  ⟨0x1211, 0x1211, 0x01, 0x01, "BEAT_ORIGIN", .st64, .rw, 0, .any⟩,
  ⟨0x1211, 0x1211, 0x02, 0x02, "BEAT_COUNT", .u64, .ro, 0, .any⟩,
  ⟨0x1211, 0x1211, 0x03, 0x03, "NEXT_BEAT", .st64, .ro, 0, .any⟩,
  ⟨0x1220, 0x1220, 0x01, 0x01, "PLL_STATE", .u8, .ro, 0, .any⟩,
  ⟨0x1220, 0x1220, 0x02, 0x02, "CORE_DIV_SH", .u8, .rw, 4, (.spans [(4, 16)])⟩,
  ⟨0x1220, 0x1220, 0x03, 0x06, "CADENCE_DIV_SH", .u32, .rw, 0, (.spans [(1, 10000)])⟩,
  ⟨0x1220, 0x1220, 0x07, 0x07, "UPDATE", .bool, .wo, 0, (.spans [(1, 1)])⟩,
  ⟨0x1220, 0x1220, 0x08, 0x08, "CORE_DIV", .u8, .ro, 4, .any⟩,
  ⟨0x1220, 0x1220, 0x09, 0x09, "UPDATE_STATE", .u8, .ro, 0, .any⟩,
  ⟨0x1220, 0x1220, 0x0A, 0x0A, "UPDATE_RESULT", .u16, .ro, 0, .any⟩,
  ⟨0x1230, 0x1237, 0x01, 0x01, "FORMAT", .u8, .rw, 0, (.spans [(0, 3)])⟩,
  ⟨0x1230, 0x1237, 0x02, 0x02, "SOURCE", .u8, .rw, 0, (.spans [(0, 2)])⟩,
  ⟨0x1230, 0x1237, 0x03, 0x03, "DIV_SH", .u16, .rw, 8, (.spans [(2, 65535)])⟩,
  ⟨0x1230, 0x1237, 0x04, 0x04, "PHASE", .u32, .rw, 0, .any⟩,
  ⟨0x1230, 0x1237, 0x05, 0x05, "DIV", .u16, .ro, 8, .any⟩,
  ⟨0x1238, 0x1238, 0x01, 0x01, "STATE", .u8, .ro, 0, .any⟩,
  ⟨0x1238, 0x1238, 0x02, 0x02, "TAP_FS", .u16, .ro, 0, .any⟩,
  ⟨0x1238, 0x1238, 0x03, 0x03, "LOCK_LOSSES", .u32, .ro, 0, .any⟩]

/-- Entries 0x13xx (R594, R596, R597). -/
def rows13 : List Row := [  ⟨0x1300, 0x1300, 0x01, 0x01, "PKG_POWER", .u32, .ro, 0, .any⟩,
  ⟨0x1300, 0x1300, 0x02, 0x02, "TJ", .i16, .ro, 0, .any⟩,
  ⟨0x1300, 0x1300, 0x03, 0x03, "TJ_PEAK", .i16, .ro, 0, .any⟩,
  ⟨0x1300, 0x1300, 0x04, 0x04, "RESERVED", .u32, .ro, 0, .any⟩,
  ⟨0x1300, 0x1300, 0x05, 0x05, "SOFT_BUDGET", .u32, .ro, 0, .any⟩,
  ⟨0x1300, 0x1300, 0x06, 0x06, "SOFT_GRANTED", .u32, .ro, 0, .any⟩,
  ⟨0x1300, 0x1300, 0x07, 0x07, "RAIL_POWER", .domain, .ro, 0, (.bytes 28 28)⟩,
  ⟨0x1300, 0x1300, 0x08, 0x08, "LAST_DECISION", .st64, .ro, 0, .any⟩,
  ⟨0x1300, 0x1300, 0x09, 0x09, "POWER_OVERS", .u32, .ro, 0, .any⟩,
  ⟨0x1300, 0x1300, 0x0A, 0x0A, "FLAGS", .u8, .w1c, 0, .any⟩,
  ⟨0x1301, 0x1301, 0x01, 0x01, "P_ENV", .u32, .rw, 12500, (.spans [(3000, 12500)])⟩,
  ⟨0x1301, 0x1301, 0x02, 0x02, "TJ_LIMIT", .u8, .rw, 125, (.spans [(85, 125)])⟩,
  ⟨0x1301, 0x1301, 0x03, 0x03, "POWER_MARGIN", .u16, .rw, 200, (.spans [(0, 1000)])⟩,
  ⟨0x1301, 0x1301, 0x04, 0x04, "THERM_MARGIN", .u8, .rw, 10, (.spans [(2, 20)])⟩,
  ⟨0x1301, 0x1301, 0x05, 0x05, "DWELL", .u32, .rw, 100, (.spans [(100, 10000)])⟩,
  ⟨0x1310, 0x1319, 0x01, 0x01, "PRIORITY", .u8, .rwo, 4, (.spans [(0, 7)])⟩,
  ⟨0x1310, 0x1319, 0x02, 0x02, "FLOOR", .u8, .rwo, 0, (.spans [(0, 100)])⟩,
  ⟨0x1310, 0x1319, 0x03, 0x03, "CEILING", .u8, .rwo, 100, (.spans [(0, 100)])⟩,
  ⟨0x1310, 0x1319, 0x20, 0x20, "POWER", .u32, .ro, 0, .any⟩,
  ⟨0x1310, 0x1319, 0x21, 0x21, "DUTY", .u8, .ro, 0, .any⟩,
  ⟨0x1310, 0x1319, 0x22, 0x22, "STATE", .u8, .ro, 0, .any⟩,
  ⟨0x1310, 0x1319, 0x23, 0x23, "DENIED_COUNT", .u32, .ro, 0, .any⟩,
  ⟨0x1310, 0x1319, 0x24, 0x24, "LAST_GRANT", .st64, .ro, 0, .any⟩]

/-- Entries 0x14xx (R435, R437, R438). -/
def rows14_0 : List Row := [  ⟨0x1400, 0x1400, 0x01, 0x01, "NOW", .st64, .ro, 0, .any⟩,
  ⟨0x1400, 0x1400, 0x02, 0x02, "NOW_TIME", .time80, .ro, 0, .any⟩,
  ⟨0x1400, 0x1400, 0x03, 0x03, "TIME_STATE", .u8, .ro, 0, .any⟩,
  ⟨0x1400, 0x1400, 0x04, 0x04, "TIME_SOURCE", .u8, .rw, 0, (.spans [(0, 2)])⟩,
  ⟨0x1400, 0x1400, 0x05, 0x05, "FREQ_REF", .u8, .rw, 0, (.spans [(0, 0), (1, 1)])⟩,
  ⟨0x1400, 0x1400, 0x06, 0x06, "MAP_ST64", .st64, .ro, 0, .any⟩,
  ⟨0x1400, 0x1400, 0x07, 0x07, "MAP_TIME", .time80, .ro, 0, .any⟩,
  ⟨0x1400, 0x1400, 0x08, 0x08, "MAP_VALID", .bool, .ro, 0, (.spans [(0, 1)])⟩,
  ⟨0x1400, 0x1400, 0x09, 0x09, "TIME_SET", .time80, .wo, 0, .any⟩,
  ⟨0x1400, 0x1400, 0x0A, 0x0A, "OFFSET", .i64, .ro, 0, .any⟩,
  ⟨0x1400, 0x1400, 0x0B, 0x0B, "STEER", .i32, .ro, 0, .any⟩,
  ⟨0x1400, 0x1400, 0x0C, 0x0C, "STEP_LIMIT", .u32, .rw, 1000, (.spans [(100, 1000000)])⟩,
  ⟨0x1400, 0x1400, 0x0D, 0x0D, "STEP_MODE", .u8, .rw, 1, (.spans [(0, 0), (1, 1)])⟩,
  ⟨0x1400, 0x1400, 0x0E, 0x0E, "LOCK_LIMIT", .u32, .rw, 100, (.spans [(20, 10000)])⟩,
  ⟨0x1400, 0x1400, 0x0F, 0x0F, "HOLDOVER_START", .st64, .ro, 0, .any⟩,
  ⟨0x1400, 0x1400, 0x10, 0x10, "STEPS", .u32, .ro, 0, .any⟩,
  ⟨0x1400, 0x1400, 0x11, 0x11, "FLAGS", .u8, .w1c, 0, .any⟩,
  ⟨0x1401, 0x1401, 0x01, 0x01, "DOMAIN", .u8, .rw, 0, (.spans [(0, 255)])⟩,
  ⟨0x1401, 0x1401, 0x02, 0x02, "PRIORITY1", .u8, .rw, 128, (.spans [(0, 255)])⟩,
  ⟨0x1401, 0x1401, 0x03, 0x03, "PRIORITY2", .u8, .rw, 128, (.spans [(0, 255)])⟩,
  ⟨0x1401, 0x1401, 0x04, 0x04, "MASTER_ENABLE", .bool, .rw, 0, (.spans [(0, 1)])⟩,
  ⟨0x1401, 0x1401, 0x05, 0x05, "CLOCK_CLASS", .u8, .rw, 248, (.spans [(0, 255)])⟩,
  ⟨0x1401, 0x1401, 0x06, 0x06, "PTP_VLAN", .u16, .rw, 32768, .any⟩,
  ⟨0x1401, 0x1401, 0x07, 0x07, "ANNOUNCE_TIMEOUT", .u8, .rw, 3, (.spans [(2, 10)])⟩,
  ⟨0x1401, 0x1401, 0x08, 0x08, "RX_DELAY_A", .u32, .rw, 0, (.spans [(0, 2560000)])⟩,
  ⟨0x1401, 0x1401, 0x09, 0x09, "TX_DELAY_A", .u32, .rw, 0, (.spans [(0, 2560000)])⟩,
  ⟨0x1401, 0x1401, 0x0A, 0x0A, "RX_DELAY_B", .u32, .rw, 0, (.spans [(0, 2560000)])⟩,
  ⟨0x1401, 0x1401, 0x0B, 0x0B, "TX_DELAY_B", .u32, .rw, 0, (.spans [(0, 2560000)])⟩,
  ⟨0x1402, 0x1402, 0x01, 0x01, "ACTIVE_PORT", .u8, .ro, 255, .any⟩,
  ⟨0x1402, 0x1402, 0x02, 0x02, "PORT_STATE", .u16, .ro, 0, .any⟩,
  ⟨0x1402, 0x1402, 0x03, 0x03, "GM_IDENTITY", .domain, .ro, 0, (.bytes 8 8)⟩,
  ⟨0x1402, 0x1402, 0x04, 0x04, "STEPS_REMOVED", .u16, .ro, 0, .any⟩,
  ⟨0x1402, 0x1402, 0x05, 0x05, "PEER_DELAY_A", .u32, .ro, 0, .any⟩,
  ⟨0x1402, 0x1402, 0x06, 0x06, "PEER_DELAY_B", .u32, .ro, 0, .any⟩,
  ⟨0x1402, 0x1402, 0x07, 0x07, "ALT_OFFSET", .i64, .ro, 0, .any⟩,
  ⟨0x1402, 0x1402, 0x08, 0x08, "SYNC_RX", .u32, .ro, 0, .any⟩,
  ⟨0x1410, 0x1414, 0x01, 0x01, "MODE", .u8, .rw, 0, (.spans [(0, 3)])⟩,
  ⟨0x1410, 0x1414, 0x02, 0x02, "START", .st64, .rw, 0, .any⟩,
  ⟨0x1410, 0x1414, 0x03, 0x03, "PERIOD", .u64, .rw, 0, .any⟩,
  ⟨0x1410, 0x1414, 0x04, 0x04, "WIDTH", .u64, .rw, 0, .any⟩]

/-- Entries 0x14xx (R438). -/
def rows14_1 : List Row := [  ⟨0x1410, 0x1414, 0x05, 0x05, "POLARITY", .u8, .rw, 0, (.spans [(0, 0), (1, 1)])⟩,
  ⟨0x1410, 0x1414, 0x06, 0x06, "ARM", .bool, .wo, 0, (.spans [(1, 1)])⟩,
  ⟨0x1410, 0x1414, 0x07, 0x07, "STATE", .u8, .ro, 0, .any⟩,
  ⟨0x1410, 0x1414, 0x08, 0x08, "NEXT", .st64, .ro, 0, .any⟩,
  ⟨0x1410, 0x1414, 0x09, 0x09, "PULSES", .u64, .ro, 0, .any⟩,
  ⟨0x1420, 0x1423, 0x01, 0x01, "EDGE", .u8, .rw, 0, (.spans [(0, 0), (1, 1), (2, 2), (3, 3)])⟩,
  ⟨0x1420, 0x1423, 0x02, 0x02, "CAP_DELAY", .i32, .rw, 0, (.spans [(-2560000, 2560000)])⟩,
  ⟨0x1420, 0x1423, 0x03, 0x03, "SEQUENCE", .u32, .ro, 0, .any⟩,
  ⟨0x1420, 0x1423, 0x04, 0x04, "LATEST", .st64, .ro, 0, .any⟩,
  ⟨0x1420, 0x1423, 0x05, 0x05, "HISTORY", .domain, .ro, 0, (.bytes 256 256)⟩,
  ⟨0x1420, 0x1423, 0x06, 0x06, "MERGED", .u32, .ro, 0, .any⟩]

/-- Entries 0x14xx. -/
def rows14 : List Row := rows14_0 ++ rows14_1

/-- Entries 0x15xx (R483, R511). -/
def rows15_0 : List Row := [  ⟨0x1500, 0x1500, 0x01, 0x01, "MAC_ADDR", .domain, .cst, 0, (.bytes 6 6)⟩,
  ⟨0x1500, 0x1500, 0x02, 0x02, "IP_ADDR", .u32, .rw, 0, .any⟩,
  ⟨0x1500, 0x1500, 0x03, 0x03, "IP_MASK", .u32, .rw, 0, .any⟩,
  ⟨0x1500, 0x1500, 0x04, 0x04, "IP_GATEWAY", .u32, .rw, 0, .any⟩,
  ⟨0x1500, 0x1500, 0x05, 0x05, "XDP_VLAN", .u16, .rw, 65535, .any⟩,
  ⟨0x1500, 0x1500, 0x06, 0x06, "VID_FILTER", .domain, .rw, 0, (.bytes 32 32)⟩,
  ⟨0x1500, 0x1500, 0x07, 0x07, "UTC_OFFSET", .i16, .rw, 37, .any⟩,
  ⟨0x1500, 0x1500, 0x20, 0x20, "OTHER_DROPPED", .u32, .ro, 0, .any⟩,
  ⟨0x1501, 0x1501, 0x01, 0x01, "PORT_MODE", .u8, .rw, 1, (.spans [(0, 2)])⟩,
  ⟨0x1501, 0x1501, 0x02, 0x02, "AN_ENABLE", .bool, .rw, 1, (.spans [(0, 1)])⟩,
  ⟨0x1501, 0x1501, 0x20, 0x20, "LINK", .u8, .ro, 0, .any⟩,
  ⟨0x1501, 0x1501, 0x21, 0x21, "LAN_STATE", .u8, .ro, 0, .any⟩,
  ⟨0x1501, 0x1501, 0x22, 0x22, "DROPPED_HARD", .u32, .ro, 0, .any⟩,
  ⟨0x1501, 0x1501, 0x23, 0x23, "DROPPED_FIRM", .u32, .ro, 0, .any⟩,
  ⟨0x1501, 0x1501, 0x24, 0x24, "DROPPED_SOFT", .u32, .ro, 0, .any⟩,
  ⟨0x1501, 0x1501, 0x25, 0x25, "UNIQUE", .u32, .ro, 0, .any⟩,
  ⟨0x1501, 0x1501, 0x26, 0x26, "WRONG_LAN", .u32, .ro, 0, .any⟩,
  ⟨0x1501, 0x1501, 0x27, 0x27, "LINK_REFUSED", .u32, .ro, 0, .any⟩,
  ⟨0x1501, 0x1501, 0x28, 0x28, "OVERSIZE", .u32, .ro, 0, .any⟩,
  ⟨0x1502, 0x1502, 0x01, 0x01, "PORT_MODE", .u8, .rw, 1, (.spans [(0, 2)])⟩,
  ⟨0x1502, 0x1502, 0x02, 0x02, "AN_ENABLE", .bool, .rw, 1, (.spans [(0, 1)])⟩,
  ⟨0x1502, 0x1502, 0x20, 0x20, "LINK", .u8, .ro, 0, .any⟩,
  ⟨0x1502, 0x1502, 0x21, 0x21, "LAN_STATE", .u8, .ro, 0, .any⟩,
  ⟨0x1502, 0x1502, 0x22, 0x22, "DROPPED_HARD", .u32, .ro, 0, .any⟩,
  ⟨0x1502, 0x1502, 0x23, 0x23, "DROPPED_FIRM", .u32, .ro, 0, .any⟩,
  ⟨0x1502, 0x1502, 0x24, 0x24, "DROPPED_SOFT", .u32, .ro, 0, .any⟩,
  ⟨0x1502, 0x1502, 0x25, 0x25, "UNIQUE", .u32, .ro, 0, .any⟩,
  ⟨0x1502, 0x1502, 0x26, 0x26, "WRONG_LAN", .u32, .ro, 0, .any⟩,
  ⟨0x1502, 0x1502, 0x27, 0x27, "LINK_REFUSED", .u32, .ro, 0, .any⟩,
  ⟨0x1502, 0x1502, 0x28, 0x28, "OVERSIZE", .u32, .ro, 0, .any⟩,
  ⟨0x1503, 0x1503, 0x01, 0x01, "LIFE_CHECK", .u16, .rw, 2000, (.spans [(100, 10000)])⟩,
  ⟨0x1503, 0x1503, 0x02, 0x02, "SUP_ADDR", .u8, .rw, 0, (.spans [(0, 255)])⟩,
  ⟨0x1503, 0x1503, 0x03, 0x03, "ENTRY_FORGET", .u16, .rw, 400, (.spans [(10, 1000)])⟩,
  ⟨0x1503, 0x1503, 0x04, 0x04, "NODE_FORGET", .u16, .rw, 60, (.spans [(1, 600)])⟩,
  ⟨0x1503, 0x1503, 0x05, 0x05, "LAN_TIMEOUT", .u16, .rw, 5000, (.spans [(100, 60000)])⟩,
  ⟨0x1503, 0x1503, 0x20, 0x20, "DUPLICATES", .u32, .ro, 0, .any⟩,
  ⟨0x1503, 0x1503, 0x21, 0x21, "TABLE_REPLACED", .u32, .ro, 0, .any⟩,
  ⟨0x1503, 0x1503, 0x22, 0x22, "NODES", .u32, .ro, 0, .any⟩,
  ⟨0x1504, 0x1504, 0x01, 0x01, "SESSION_TIMEOUT", .u16, .rw, 30, (.spans [(5, 3600)])⟩,
  ⟨0x1504, 0x1504, 0x02, 0x02, "SESSIONS_OPEN", .u8, .ro, 0, .any⟩]

/-- Entries 0x15xx (R484, R485, R511). -/
def rows15_1 : List Row := [  ⟨0x1504, 0x1504, 0x03, 0x03, "AUTH_FAILS", .u32, .ro, 0, .any⟩,
  ⟨0x1504, 0x1504, 0x04, 0x04, "REPLAYED", .u32, .ro, 0, .any⟩,
  ⟨0x1504, 0x1504, 0x05, 0x05, "MALFORMED", .u32, .ro, 0, .any⟩,
  ⟨0x1504, 0x1504, 0x06, 0x06, "BUSY_REFUSED", .u32, .ro, 0, .any⟩,
  ⟨0x1504, 0x1504, 0x07, 0x07, "NOTIFY_LOST", .u32, .ro, 0, .any⟩,
  ⟨0x1505, 0x1505, 0x01, 0x10, "SESSION", .domain, .ro, 0, (.bytes 16 16)⟩,
  ⟨0x1510, 0x151F, 0x01, 0x01, "ENABLE", .bool, .rwo, 0, (.spans [(0, 1)])⟩,
  ⟨0x1510, 0x151F, 0x02, 0x02, "DST_MAC", .domain, .rwo, 0, (.bytes 6 6)⟩,
  ⟨0x1510, 0x151F, 0x03, 0x03, "SRC_MAC", .domain, .rwo, 0, (.bytes 6 6)⟩,
  ⟨0x1510, 0x151F, 0x04, 0x04, "APPID", .u16, .rwo, 16384, (.spans [(0, 65535)])⟩,
  ⟨0x1510, 0x151F, 0x05, 0x05, "SV_ID", .string, .rwo, 0, (.bytes 1 129)⟩,
  ⟨0x1510, 0x151F, 0x06, 0x06, "CONF_REV", .u32, .rwo, 1, .any⟩,
  ⟨0x1510, 0x151F, 0x07, 0x07, "RATE", .u8, .rwo, 0, (.spans [(0, 0), (1, 1), (2, 2), (3, 3), (4, 4)])⟩,
  ⟨0x1510, 0x151F, 0x08, 0x08, "MEMBERS", .u8, .rwo, 8, (.spans [(1, 16)])⟩,
  ⟨0x1510, 0x151F, 0x09, 0x09, "MAP", .domain, .rwo, 0, (.bytes 16 16)⟩,
  ⟨0x1510, 0x151F, 0x0A, 0x0A, "SYNCH_ACCEPT", .u8, .rwo, 4, .any⟩,
  ⟨0x1510, 0x151F, 0x0B, 0x0B, "NOMINAL_DELAY", .u32, .rwo, 0, (.spans [(0, 10000)])⟩,
  ⟨0x1510, 0x151F, 0x0C, 0x0C, "LOSS_SAMPLES", .u8, .rwo, 4, (.spans [(1, 64)])⟩,
  ⟨0x1510, 0x151F, 0x0D, 0x0D, "TEST_ACCEPT", .bool, .rwo, 0, (.spans [(0, 1)])⟩,
  ⟨0x1510, 0x151F, 0x0E, 0x0E, "QUEST_ACCEPT", .bool, .rwo, 1, (.spans [(0, 1)])⟩,
  ⟨0x1510, 0x151F, 0x20, 0x20, "STATE", .u8, .ro, 0, .any⟩,
  ⟨0x1510, 0x151F, 0x21, 0x21, "LAST_SMPCNT", .u16, .ro, 0, .any⟩,
  ⟨0x1510, 0x151F, 0x22, 0x22, "ACCEPTED", .u32, .ro, 0, .any⟩,
  ⟨0x1510, 0x151F, 0x23, 0x23, "MISSED", .u32, .ro, 0, .any⟩,
  ⟨0x1510, 0x151F, 0x24, 0x24, "OUT_OF_ORDER", .u32, .ro, 0, .any⟩,
  ⟨0x1510, 0x151F, 0x25, 0x25, "CONFREV_ERRORS", .u32, .ro, 0, .any⟩,
  ⟨0x1540, 0x154F, 0x01, 0x01, "ENABLE", .bool, .rwo, 0, (.spans [(0, 1)])⟩,
  ⟨0x1540, 0x154F, 0x02, 0x02, "DST_MAC", .domain, .rwo, 0, (.bytes 6 6)⟩,
  ⟨0x1540, 0x154F, 0x03, 0x03, "APPID", .u16, .rwo, 0, (.spans [(0, 65535)])⟩,
  ⟨0x1540, 0x154F, 0x04, 0x04, "GOCB_REF", .string, .rwo, 0, (.bytes 1 129)⟩,
  ⟨0x1540, 0x154F, 0x05, 0x05, "CONF_REV", .u32, .rwo, 1, .any⟩,
  ⟨0x1540, 0x154F, 0x06, 0x06, "DAT_SET", .string, .rwo, 0, (.bytes 1 129)⟩,
  ⟨0x1540, 0x154F, 0x07, 0x07, "GO_ID", .string, .rwo, 0, (.bytes 1 129)⟩,
  ⟨0x1540, 0x154F, 0x08, 0x08, "VLAN", .u16, .rwo, 32768, .any⟩,
  ⟨0x1540, 0x154F, 0x09, 0x09, "MEMBERS", .domain, .rwo, 0, (.items 4 1 16)⟩,
  ⟨0x1540, 0x154F, 0x0A, 0x0A, "DEADBAND", .u32, .rwo, 0, .any⟩,
  ⟨0x1540, 0x154F, 0x0B, 0x0B, "T1", .u16, .rwo, 2, (.spans [(1, 60000)])⟩,
  ⟨0x1540, 0x154F, 0x0C, 0x0C, "T0", .u16, .rwo, 1000, (.spans [(1, 60000)])⟩,
  ⟨0x1540, 0x154F, 0x0D, 0x0D, "TAL_FACTOR", .u8, .rwo, 2, (.spans [(2, 4)])⟩,
  ⟨0x1540, 0x154F, 0x0E, 0x0E, "SIM", .bool, .rwo, 0, (.spans [(0, 1)])⟩]

/-- Entries 0x15xx (R485). -/
def rows15_2 : List Row := [  ⟨0x1540, 0x154F, 0x20, 0x20, "FW_WORD", .domain, .rw, 0, (.bytes 64 64)⟩,
  ⟨0x1540, 0x154F, 0x21, 0x21, "ST_NUM", .u32, .ro, 0, .any⟩,
  ⟨0x1540, 0x154F, 0x22, 0x22, "SQ_NUM", .u32, .ro, 0, .any⟩,
  ⟨0x1560, 0x157F, 0x01, 0x01, "ENABLE", .bool, .rwo, 0, (.spans [(0, 1)])⟩,
  ⟨0x1560, 0x157F, 0x02, 0x02, "DST_MAC", .domain, .rwo, 0, (.bytes 6 6)⟩,
  ⟨0x1560, 0x157F, 0x03, 0x03, "APPID", .u16, .rwo, 0, (.spans [(0, 65535)])⟩,
  ⟨0x1560, 0x157F, 0x04, 0x04, "GOCB_REF", .string, .rwo, 0, (.bytes 1 129)⟩,
  ⟨0x1560, 0x157F, 0x05, 0x05, "CONF_REV", .u32, .rwo, 1, .any⟩,
  ⟨0x1560, 0x157F, 0x06, 0x06, "SRC_MAC", .domain, .rwo, 0, (.bytes 6 6)⟩,
  ⟨0x1560, 0x157F, 0x07, 0x07, "SIM_ACCEPT", .bool, .rwo, 0, (.spans [(0, 1)])⟩,
  ⟨0x1560, 0x157F, 0x20, 0x20, "STATE", .u8, .ro, 0, .any⟩,
  ⟨0x1560, 0x157F, 0x21, 0x21, "SEQUENCE", .u32, .ro, 0, .any⟩,
  ⟨0x1560, 0x157F, 0x22, 0x22, "VALUES", .domain, .ro, 0, (.bytes 0 512)⟩,
  ⟨0x1560, 0x157F, 0x23, 0x23, "ST_NUM", .u32, .ro, 0, .any⟩,
  ⟨0x1560, 0x157F, 0x24, 0x24, "SQ_GAPS", .u32, .ro, 0, .any⟩,
  ⟨0x1560, 0x157F, 0x25, 0x25, "CONFREV_ERRORS", .u32, .ro, 0, .any⟩]

/-- Entries 0x15xx. -/
def rows15 : List Row := rows15_0 ++ rows15_1 ++ rows15_2

/-- Entries 0x16xx (R549). -/
def rows16 : List Row := [  ⟨0x1600, 0x160F, 0x01, 0x01, "PRE", .u8, .rw, 0, (.spans [(0, 16)])⟩,
  ⟨0x1600, 0x160F, 0x02, 0x02, "POST", .u8, .rw, 8, (.spans [(0, 25)])⟩,
  ⟨0x1600, 0x160F, 0x03, 0x03, "TX_INVERT", .bool, .rw, 0, (.spans [(0, 1)])⟩,
  ⟨0x1600, 0x160F, 0x04, 0x04, "RX_INVERT", .bool, .rw, 0, (.spans [(0, 1)])⟩,
  ⟨0x1600, 0x160F, 0x05, 0x05, "PATTERN", .u8, .rw, 3, (.spans [(0, 3)])⟩,
  ⟨0x1600, 0x160F, 0x06, 0x06, "INSERVICE_TEST", .bool, .rw, 0, (.spans [(0, 1)])⟩,
  ⟨0x1600, 0x160F, 0x07, 0x07, "EST_WINDOW", .u32, .rw, 1000, (.spans [(100, 3600000)])⟩,
  ⟨0x1600, 0x160F, 0x08, 0x08, "LOOPBACK", .u8, .rw, 0, (.spans [(0, 3)])⟩,
  ⟨0x1600, 0x160F, 0x20, 0x20, "STATE", .u8, .ro, 0, .any⟩,
  ⟨0x1600, 0x160F, 0x21, 0x21, "RATE", .u32, .ro, 0, .any⟩,
  ⟨0x1600, 0x160F, 0x22, 0x22, "LOCK", .bool, .ro, 0, (.spans [(0, 1)])⟩,
  ⟨0x1600, 0x160F, 0x23, 0x23, "FREQ_OFFSET", .i32, .ro, 0, .any⟩,
  ⟨0x1600, 0x160F, 0x24, 0x24, "PRE_LIVE", .u8, .ro, 0, .any⟩,
  ⟨0x1600, 0x160F, 0x25, 0x25, "POST_LIVE", .u8, .ro, 0, .any⟩,
  ⟨0x1600, 0x160F, 0x26, 0x26, "RETRAIN", .u8, .wo, 0, (.spans [(1, 1), (2, 2)])⟩,
  ⟨0x1600, 0x160F, 0x27, 0x27, "INJECT", .u8, .wo, 0, (.spans [(1, 255)])⟩,
  ⟨0x1600, 0x160F, 0x28, 0x28, "BITS_CHECKED", .u64, .ro, 0, .any⟩,
  ⟨0x1600, 0x160F, 0x29, 0x29, "BIT_ERRORS", .u64, .ro, 0, .any⟩,
  ⟨0x1600, 0x160F, 0x2A, 0x2A, "BER_WINDOW", .domain, .ro, 0, (.bytes 16 16)⟩,
  ⟨0x1600, 0x160F, 0x2B, 0x2B, "CODE_ERRORS", .u32, .ro, 0, .any⟩,
  ⟨0x1600, 0x160F, 0x2C, 0x2C, "LOCK_LOSSES", .u32, .ro, 0, .any⟩,
  ⟨0x1600, 0x160F, 0x2D, 0x2D, "RETRAINS", .u32, .ro, 0, .any⟩,
  ⟨0x1600, 0x160F, 0x2E, 0x2E, "INJECTED", .u32, .ro, 0, .any⟩,
  ⟨0x1600, 0x160F, 0x2F, 0x2F, "FLAGS", .u8, .w1c, 0, .any⟩]

/-- Entries 0x17xx (R571, R573). -/
def rows17 : List Row := [  ⟨0x1700, 0x1700, 0x01, 0x01, "ENABLE", .bool, .rw, 0, (.spans [(0, 1)])⟩,
  ⟨0x1700, 0x1700, 0x02, 0x02, "EXPECTED", .u8, .rw, 1, .any⟩,
  ⟨0x1700, 0x1700, 0x03, 0x03, "PROPAGATE_HALT", .bool, .rw, 1, (.spans [(0, 1)])⟩,
  ⟨0x1700, 0x1700, 0x04, 0x04, "AUTO_ADMIT", .bool, .rw, 1, (.spans [(0, 1)])⟩,
  ⟨0x1700, 0x1700, 0x05, 0x05, "JOIN_TIMEOUT", .u32, .rw, 10000, (.spans [(100, 600000)])⟩,
  ⟨0x1700, 0x1700, 0x06, 0x06, "COMMAND", .u8, .wo, 0, .any⟩,
  ⟨0x1700, 0x1700, 0x20, 0x20, "POSITION", .u8, .ro, 0, .any⟩,
  ⟨0x1700, 0x1700, 0x21, 0x21, "STATE", .u8, .ro, 0, .any⟩,
  ⟨0x1700, 0x1700, 0x22, 0x22, "MEMBERS", .u8, .ro, 0, .any⟩,
  ⟨0x1700, 0x1700, 0x23, 0x23, "REACHABLE", .u8, .ro, 0, .any⟩,
  ⟨0x1700, 0x1700, 0x24, 0x24, "LINKS_UP", .u16, .ro, 0, .any⟩,
  ⟨0x1700, 0x1700, 0x25, 0x25, "EPOCH", .u32, .ro, 0, .any⟩,
  ⟨0x1700, 0x1700, 0x26, 0x26, "ARRAY_OFFSET", .i64, .ro, 0, .any⟩,
  ⟨0x1700, 0x1700, 0x27, 0x27, "ALIGN_ERROR", .i32, .ro, 0, .any⟩,
  ⟨0x1700, 0x1700, 0x28, 0x28, "HOPS_TO_MASTER", .u8, .ro, 0, .any⟩,
  ⟨0x1700, 0x1700, 0x29, 0x29, "FRAMES_LOST", .u32, .ro, 0, .any⟩,
  ⟨0x1700, 0x1700, 0x2A, 0x2A, "HEALS", .u32, .ro, 0, .any⟩,
  ⟨0x1700, 0x1700, 0x2B, 0x2B, "FLAGS", .u8, .w1c, 0, .any⟩,
  ⟨0x1701, 0x1703, 0x01, 0x01, "STATE", .u8, .ro, 0, .any⟩,
  ⟨0x1701, 0x1703, 0x02, 0x02, "NEIGHBOUR", .u8, .ro, 255, .any⟩,
  ⟨0x1701, 0x1703, 0x03, 0x03, "DELAY", .u32, .ro, 0, .any⟩,
  ⟨0x1701, 0x1703, 0x04, 0x04, "LINK_DOWNS", .u32, .ro, 0, .any⟩,
  ⟨0x1710, 0x1717, 0x01, 0x01, "STATE", .u8, .ro, 0, .any⟩,
  ⟨0x1710, 0x1717, 0x02, 0x02, "IDENTITY", .u32, .ro, 0, .any⟩,
  ⟨0x1710, 0x1717, 0x03, 0x03, "REVISION", .u32, .ro, 0, .any⟩,
  ⟨0x1710, 0x1717, 0x04, 0x04, "HOPS", .u8, .ro, 0, .any⟩,
  ⟨0x1710, 0x1717, 0x05, 0x05, "ADMITTED_AT", .st64, .ro, 0, .any⟩]

/-- Entries 0x18xx (R634, R635). -/
def rows18 : List Row := [  ⟨0x1800, 0x1800, 0x01, 0x01, "COMMAND", .u8, .wo, 0, (.spans [(1, 1), (2, 2), (3, 3), (4, 4), (5, 5)])⟩,
  ⟨0x1800, 0x1800, 0x02, 0x02, "SWAP_AT", .st64, .rw, 0, .any⟩,
  ⟨0x1800, 0x1800, 0x03, 0x03, "REQUIRE_SIGNED", .bool, .rw, 0, (.spans [(0, 1)])⟩,
  ⟨0x1800, 0x1800, 0x20, 0x20, "STATE", .u8, .ro, 0, .any⟩,
  ⟨0x1800, 0x1800, 0x21, 0x21, "RESULT", .u16, .ro, 0, .any⟩,
  ⟨0x1800, 0x1800, 0x22, 0x22, "FAILED_CHECK", .u8, .ro, 0, .any⟩,
  ⟨0x1800, 0x1800, 0x23, 0x23, "SWAP_BEAT", .st64, .ro, 0, .any⟩,
  ⟨0x1800, 0x1800, 0x24, 0x24, "LAST_SWAP", .st64, .ro, 0, .any⟩,
  ⟨0x1800, 0x1800, 0x25, 0x25, "BACK_AVAILABLE", .bool, .ro, 0, (.spans [(0, 1)])⟩,
  ⟨0x1800, 0x1800, 0x26, 0x26, "ACTIVE_HASH", .domain, .ro, 0, (.bytes 32 32)⟩,
  ⟨0x1800, 0x1800, 0x27, 0x27, "SHADOW_HASH", .domain, .ro, 0, (.bytes 32 32)⟩,
  ⟨0x1800, 0x1800, 0x28, 0x28, "SHADOW_SIGNED", .bool, .ro, 0, (.spans [(0, 1)])⟩,
  ⟨0x1800, 0x1800, 0x29, 0x29, "SWAPS", .u32, .ro, 0, .any⟩,
  ⟨0x1800, 0x1800, 0x2A, 0x2A, "REFUSALS", .u32, .ro, 0, .any⟩,
  ⟨0x1801, 0x1801, 0x01, 0x01, "STAGE_OFFSET", .u32, .rw, 0, .any⟩,
  ⟨0x1801, 0x1801, 0x02, 0x02, "STAGE_DATA", .domain, .wo, 0, (.bytes 1 1024)⟩,
  ⟨0x1801, 0x1801, 0x03, 0x03, "STAGE_CMD", .u8, .wo, 0, (.spans [(1, 1), (2, 2)])⟩,
  ⟨0x1801, 0x1801, 0x20, 0x20, "STAGE_STATE", .u8, .ro, 0, .any⟩,
  ⟨0x1801, 0x1801, 0x21, 0x21, "STAGE_RESULT", .u16, .ro, 0, .any⟩,
  ⟨0x1801, 0x1801, 0x22, 0x22, "STAGE_HEADER", .domain, .ro, 0, (.bytes 128 128)⟩,
  ⟨0x1802, 0x1802, 0x01, 0x01, "ARRAY_SET", .domain, .rwo, 0, (.bytes 32 32)⟩,
  ⟨0x1803, 0x1803, 0x01, 0x01, "FW_CMD", .u8, .wo, 0, (.spans [(1, 5)])⟩,
  ⟨0x1803, 0x1803, 0x02, 0x02, "FALLBACK_WINDOW", .u32, .rw, 600, (.spans [(10, 86400)])⟩,
  ⟨0x1803, 0x1803, 0x03, 0x03, "FW_READY", .bool, .rw, 0, (.spans [(0, 1)])⟩,
  ⟨0x1803, 0x1803, 0x04, 0x04, "FW_FROZEN", .bool, .rw, 0, (.spans [(0, 1)])⟩,
  ⟨0x1803, 0x1803, 0x20, 0x20, "FW_STATE", .u8, .ro, 0, .any⟩,
  ⟨0x1803, 0x1803, 0x21, 0x21, "FW_RESULT", .u16, .ro, 0, .any⟩,
  ⟨0x1803, 0x1803, 0x22, 0x22, "ACTIVE_VERSION", .u64, .ro, 0, .any⟩,
  ⟨0x1803, 0x1803, 0x23, 0x23, "STANDBY_VERSION", .u64, .ro, 0, .any⟩,
  ⟨0x1803, 0x1803, 0x24, 0x24, "HANDOVERS", .u32, .ro, 0, .any⟩]

/-- Entries 0x19xx (R657, R659). -/
def rows19 : List Row := [  ⟨0x1900, 0x1900, 0x01, 0x01, "LIFECYCLE", .u8, .ro, 0, .any⟩,
  ⟨0x1900, 0x1900, 0x02, 0x02, "SLOT_STATE", .u8, .ro, 0, .any⟩,
  ⟨0x1900, 0x1900, 0x03, 0x06, "COUNTER_1", .u16, .ro, 0, .any⟩,
  ⟨0x1900, 0x1900, 0x07, 0x07, "BOOT_RESULT", .domain, .ro, 0, (.bytes 8 8)⟩,
  ⟨0x1900, 0x1900, 0x08, 0x08, "BED_ROLLBACK", .u32, .ro, 0, .any⟩,
  ⟨0x1900, 0x1900, 0x09, 0x09, "DEBUG_SCOPE", .u8, .ro, 3, .any⟩,
  ⟨0x1900, 0x1900, 0x0A, 0x0A, "UNLOCK_NONCE", .domain, .ro, 0, (.bytes 16 16)⟩,
  ⟨0x1900, 0x1900, 0x0B, 0x0B, "IDENTITY_CERT", .domain, .cst, 0, (.bytes 0 2048)⟩,
  ⟨0x1900, 0x1900, 0x0C, 0x0C, "ROLE_OID", .string, .cst, 0, (.bytes 0 64)⟩,
  ⟨0x1900, 0x1900, 0x0D, 0x0D, "FLAGS", .u8, .w1c, 0, .any⟩,
  ⟨0x1901, 0x1901, 0x01, 0x04, "SLOT_HASH0", .domain, .rw, 0, (.bytes 32 32)⟩,
  ⟨0x1901, 0x1901, 0x05, 0x05, "OWNER_KEYS", .domain, .rw, 0, (.bytes 1552 1552)⟩,
  ⟨0x1901, 0x1901, 0x06, 0x06, "CERT_DENY", .domain, .rw, 0, (.bytes 512 512)⟩,
  ⟨0x1901, 0x1901, 0x07, 0x07, "CMD", .u8, .wo, 0, (.spans [(1, 1), (2, 2), (3, 3), (4, 4), (5, 5), (6, 6)])⟩,
  ⟨0x1901, 0x1901, 0x08, 0x08, "CMD_ARG", .u8, .rw, 0, .any⟩,
  ⟨0x1901, 0x1901, 0x09, 0x09, "ADVANCE_VALUE", .u16, .rw, 0, (.spans [(0, 256)])⟩,
  ⟨0x1901, 0x1901, 0x0A, 0x0A, "CMD_RESULT", .u16, .ro, 0, .any⟩,
  ⟨0x1901, 0x1901, 0x0B, 0x0B, "ATTEST_NONCE", .domain, .wo, 0, (.bytes 32 32)⟩,
  ⟨0x1902, 0x1902, 0x01, 0x01, "SEQUENCE", .u32, .ro, 0, .any⟩,
  ⟨0x1902, 0x1902, 0x02, 0x02, "STATUS", .u8, .ro, 0, .any⟩,
  ⟨0x1902, 0x1902, 0x03, 0x03, "REPORT", .domain, .ro, 0, (.bytes 768 768)⟩]

/-- Entries 0x1Axx (R531, R532, R533). -/
def rows1A : List Row := [  ⟨0x1A00, 0x1A00, 0x01, 0x01, "ACTIVE_PAIR", .u8, .ro, 0, .any⟩,
  ⟨0x1A00, 0x1A00, 0x02, 0x02, "PAIR_STATE", .u8, .ro, 0, .any⟩,
  ⟨0x1A00, 0x1A00, 0x03, 0x03, "WDT_PERIOD", .u16, .rw, 100, (.spans [(1, 1000)])⟩,
  ⟨0x1A00, 0x1A00, 0x04, 0x04, "WDT_REACH", .u8, .rw, 0, (.spans [(0, 0), (1, 1)])⟩,
  ⟨0x1A00, 0x1A00, 0x05, 0x05, "WDT_KICK", .bool, .wo, 0, (.spans [(1, 1)])⟩,
  ⟨0x1A00, 0x1A00, 0x06, 0x06, "CORE_RESET", .u8, .wo, 0, (.spans [(0, 0), (1, 1)])⟩,
  ⟨0x1A00, 0x1A00, 0x07, 0x07, "CORE_RESETS", .u32, .ro, 0, .any⟩,
  ⟨0x1A00, 0x1A00, 0x08, 0x08, "LAST_CORE_RESET", .st64, .ro, 0, .any⟩,
  ⟨0x1A20, 0x1A3F, 0x01, 0x01, "ENTRIES", .u16, .rw, 0, .any⟩,
  ⟨0x1A20, 0x1A3F, 0x02, 0x02, "CLASS", .u8, .rw, 0, (.spans [(0, 0), (1, 1), (2, 2)])⟩,
  ⟨0x1A20, 0x1A3F, 0x03, 0x03, "DRAIN_BOUND", .u32, .rw, 0, (.spans [(2, 10000000)])⟩,
  ⟨0x1A20, 0x1A3F, 0x04, 0x04, "CONSUMER", .u8, .rw, 0, (.spans [(0, 0), (1, 1), (2, 2), (3, 3)])⟩,
  ⟨0x1A20, 0x1A3F, 0x05, 0x05, "IRQ_LEVEL", .u16, .rw, 1, (.spans [(1, 65535)])⟩,
  ⟨0x1A20, 0x1A3F, 0x20, 0x20, "HEAD", .u16, .ro, 0, .any⟩,
  ⟨0x1A20, 0x1A3F, 0x21, 0x21, "TAIL", .u16, .ro, 0, .any⟩,
  ⟨0x1A20, 0x1A3F, 0x22, 0x22, "FILL", .u16, .ro, 0, .any⟩,
  ⟨0x1A20, 0x1A3F, 0x23, 0x23, "POST", .u16, .wo, 0, .any⟩,
  ⟨0x1A20, 0x1A3F, 0x24, 0x24, "RELEASE", .u16, .wo, 0, .any⟩,
  ⟨0x1A20, 0x1A3F, 0x25, 0x25, "BASE", .u32, .ro, 0, .any⟩,
  ⟨0x1A20, 0x1A3F, 0x26, 0x26, "LOST", .u32, .ro, 0, .any⟩,
  ⟨0x1A20, 0x1A3F, 0x27, 0x27, "STALLS", .u32, .ro, 0, .any⟩,
  ⟨0x1A20, 0x1A3F, 0x28, 0x28, "PEAK_FILL", .u16, .ro, 0, .any⟩,
  ⟨0x1A20, 0x1A3F, 0x29, 0x29, "FLAGS", .u8, .w1c, 0, .any⟩,
  ⟨0x1A60, 0x1A60, 0x01, 0x01, "QUEUE_STALLS", .u32, .ro, 0, .any⟩,
  ⟨0x1A60, 0x1A60, 0x02, 0x02, "INVERSIONS", .u32, .ro, 0, .any⟩,
  ⟨0x1A60, 0x1A60, 0x03, 0x03, "CREDIT_EXHAUSTED", .u32, .ro, 0, .any⟩,
  ⟨0x1A60, 0x1A60, 0x04, 0x04, "RETRY_EXHAUSTED", .u32, .ro, 0, .any⟩,
  ⟨0x1A60, 0x1A60, 0x05, 0x05, "RUNNER_PARTITIONS", .u32, .ro, 0, .any⟩,
  ⟨0x1A60, 0x1A60, 0x06, 0x06, "LAST_STALL", .domain, .ro, 0, (.bytes 64 64)⟩]

/-- Entries 0x20xx (R78, R80). -/
def rows20_0 : List Row := [  ⟨0x2000, 0x202F, 0x01, 0x01, "MODE", .u8, .rwo, 0, (.spans [(0, 2)])⟩,
  ⟨0x2000, 0x202F, 0x02, 0x02, "SINC_ORDER", .u8, .rwo, 3, (.spans [(1, 4)])⟩,
  ⟨0x2000, 0x202F, 0x03, 0x03, "OSR", .u16, .rwo, 32, (.spans [(4, 256)])⟩,
  ⟨0x2000, 0x202F, 0x04, 0x04, "FIR_TAPS", .u8, .rwo, 1, (.spans [(1, 64)])⟩,
  ⟨0x2000, 0x202F, 0x05, 0x05, "FIR_DECIM", .u8, .rwo, 1, (.spans [(1, 16)])⟩,
  ⟨0x2000, 0x202F, 0x06, 0x06, "FIR_COEFF", .domain, .rwo, 0, (.bytes 0 65535)⟩,
  ⟨0x2000, 0x202F, 0x07, 0x07, "SAMPLE_SKEW", .u8, .rwo, 0, (.spans [(0, 31)])⟩,
  ⟨0x2000, 0x202F, 0x08, 0x08, "EXT_DELAY", .i32, .rwo, 0, (.spans [(-2560000, 2560000)])⟩,
  ⟨0x2000, 0x202F, 0x09, 0x09, "QP_ORDER", .u8, .rwo, 2, (.spans [(2, 3)])⟩,
  ⟨0x2000, 0x202F, 0x0A, 0x0A, "QP_OSR", .u8, .rwo, 8, (.spans [(4, 32)])⟩,
  ⟨0x2000, 0x202F, 0x0B, 0x0B, "QP_HIGH", .i16, .rwo, 32767, .any⟩,
  ⟨0x2000, 0x202F, 0x0C, 0x0C, "QP_LOW", .i16, .rwo, (-32768), .any⟩,
  ⟨0x2000, 0x202F, 0x0D, 0x0D, "QP_HYST", .u16, .rwo, 256, (.spans [(0, 16384)])⟩,
  ⟨0x2000, 0x202F, 0x0E, 0x0E, "QP_ENABLE", .u8, .rwo, 0, .any⟩,
  ⟨0x2000, 0x202F, 0x0F, 0x0F, "SUPV_ACTION", .u8, .rwo, 1, (.spans [(0, 0), (1, 1)])⟩,
  ⟨0x2000, 0x202F, 0x10, 0x10, "MONITOR", .bool, .rwo, 0, (.spans [(0, 1)])⟩,
  ⟨0x2000, 0x202F, 0x11, 0x11, "SOURCE", .u8, .rwo, 0, (.spans [(0, 2)])⟩,
  ⟨0x2000, 0x202F, 0x12, 0x12, "SV_CHANNEL", .u8, .rwo, 0, (.spans [(0, 127)])⟩,
  ⟨0x2000, 0x202F, 0x20, 0x20, "SAMPLE", .i32, .ro, 0, .any⟩,
  ⟨0x2000, 0x202F, 0x21, 0x21, "STAMP", .st64, .ro, 0, .any⟩,
  ⟨0x2000, 0x202F, 0x22, 0x22, "STATUS", .u8, .ro, 0, .any⟩,
  ⟨0x2000, 0x202F, 0x23, 0x23, "GROUP_DELAY", .u32, .ro, 0, .any⟩,
  ⟨0x2000, 0x202F, 0x24, 0x24, "AVAIL_LATENCY", .u32, .ro, 0, .any⟩,
  ⟨0x2000, 0x202F, 0x25, 0x25, "OUTPUT_PERIOD", .u32, .ro, 0, .any⟩,
  ⟨0x2000, 0x202F, 0x26, 0x26, "SETTLE_SAMPLES", .u8, .ro, 0, .any⟩,
  ⟨0x2000, 0x202F, 0x27, 0x27, "FLAGS", .u16, .w1c, 0, .any⟩,
  ⟨0x2000, 0x202F, 0x28, 0x28, "SUPV_COUNT", .u32, .ro, 0, .any⟩,
  ⟨0x2000, 0x202F, 0x29, 0x29, "QP_STATE", .u8, .ro, 0, .any⟩,
  ⟨0x2000, 0x202F, 0x2A, 0x2A, "SNAPSHOT", .domain, .ro, 0, (.bytes 16 16)⟩,
  ⟨0x2030, 0x203F, 0x01, 0x01, "ENABLE", .bool, .rwo, 0, (.spans [(0, 1)])⟩,
  ⟨0x2030, 0x20BF, 0x20, 0x20, "SAMPLE", .i32, .ro, 0, .any⟩,
  ⟨0x2030, 0x20BF, 0x21, 0x21, "STAMP", .st64, .ro, 0, .any⟩,
  ⟨0x2030, 0x20BF, 0x22, 0x22, "STATUS", .u8, .ro, 0, .any⟩,
  ⟨0x2030, 0x20BF, 0x2A, 0x2A, "SNAPSHOT", .domain, .ro, 0, (.bytes 16 16)⟩,
  ⟨0x2040, 0x20BF, 0x01, 0x01, "FULL_SCALE", .i32, .rwo, 0, .any⟩,
  ⟨0x2040, 0x20BF, 0x23, 0x23, "QUALITY", .u32, .ro, 0, .any⟩,
  ⟨0x20C0, 0x20CF, 0x01, 0x01, "ENABLE", .bool, .rwo, 0, (.spans [(0, 1)])⟩,
  ⟨0x20C0, 0x20CF, 0x02, 0x02, "THRESHOLD", .u16, .rwo, 512, (.spans [(0, 1023)])⟩,
  ⟨0x20C0, 0x20CF, 0x03, 0x03, "POLARITY", .u8, .rwo, 0, (.spans [(0, 0), (1, 1)])⟩,
  ⟨0x20C0, 0x20CF, 0x04, 0x04, "HYSTERESIS", .u8, .rwo, 1, (.spans [(0, 3)])⟩]

/-- Entries 0x20xx (R80). -/
def rows20_1 : List Row := [  ⟨0x20C0, 0x20CF, 0x20, 0x20, "STATE", .bool, .ro, 0, (.spans [(0, 1)])⟩,
  ⟨0x20C0, 0x20CF, 0x21, 0x21, "TRIP_COUNT", .u32, .ro, 0, .any⟩]

/-- Entries 0x20xx. -/
def rows20 : List Row := rows20_0 ++ rows20_1

/-- Entries 0x21xx (R81). -/
def rows21 : List Row := [  ⟨0x2100, 0x2100, 0x01, 0x01, "SYNC_AT", .st64, .rw, 0, .any⟩,
  ⟨0x2100, 0x2100, 0x02, 0x02, "SYNC_ARRAY", .bool, .rw, 0, (.spans [(0, 1)])⟩,
  ⟨0x2100, 0x2100, 0x03, 0x03, "SYNC_PIN", .u8, .rw, 0, (.spans [(0, 0), (1, 1), (2, 2)])⟩,
  ⟨0x2100, 0x2100, 0x04, 0x04, "LAST_SYNC", .st64, .ro, 0, .any⟩,
  ⟨0x2100, 0x2100, 0x05, 0x05, "SYNC_COUNT", .u32, .ro, 0, .any⟩,
  ⟨0x2100, 0x2100, 0x06, 0x06, "SAR_MISMATCH_LIMIT", .u16, .rw, 32, (.spans [(4, 1024)])⟩,
  ⟨0x2100, 0x2100, 0x07, 0x07, "SAR_WATCH_DIV", .u8, .rw, 16, (.spans [(1, 255)])⟩,
  ⟨0x2100, 0x2100, 0x08, 0x08, "SAR_ROLES", .u8, .ro, 36, .any⟩,
  ⟨0x2100, 0x2100, 0x09, 0x09, "SAR_HANDOVERS", .u32, .ro, 0, .any⟩,
  ⟨0x2100, 0x2100, 0x0A, 0x0A, "SAR_MISMATCHES", .u32, .ro, 0, .any⟩,
  ⟨0x2101, 0x2101, 0x01, 0x08, "MCLK_DIV", .u8, .rwo, 0, (.spans [(0, 0), (32, 160)])⟩]

/-- Entries 0x30xx (R112, R114, R192). -/
def rows30_0 : List Row := [  ⟨0x3000, 0x30EF, 0x01, 0x01, "TYPE", .u8, .rwo, 0, (.spans [(0, 0), (1, 32)])⟩,
  ⟨0x3000, 0x30EF, 0x02, 0x02, "OUT_ADDR", .u16, .rwo, 0, (.spans [(0, 4095)])⟩,
  ⟨0x3000, 0x30EF, 0x03, 0x0A, "INPUT0", .u16, .rwo, 0, .any⟩,
  ⟨0x3000, 0x30EF, 0x0B, 0x0B, "LOOP", .u8, .rwo, 255, (.spans [(0, 7), (255, 255)])⟩,
  ⟨0x3000, 0x30EF, 0x60, 0x67, "OUTPUT0", .u32, .ro, 0, .any⟩,
  ⟨0x3000, 0x30EF, 0x68, 0x6F, "STATE0", .i64, .ro, 0, .any⟩,
  ⟨0x30F0, 0x30F7, 0x01, 0x01, "INIT_STATE", .u8, .rwo, 1, (.spans [(1, 1), (2, 2)])⟩,
  ⟨0x30F0, 0x30F7, 0x02, 0x02, "GRAFT_MARK", .u8, .rwo, 0, (.spans [(0, 0), (1, 1), (2, 2)])⟩,
  ⟨0x30F0, 0x30F7, 0x03, 0x03, "HEDGE_INSTANCE", .u8, .rwo, 255, (.spans [(0, 239), (255, 255)])⟩,
  ⟨0x30F0, 0x30F7, 0x20, 0x20, "STATE", .u8, .ro, 0, .any⟩,
  ⟨0x30F0, 0x30F7, 0x21, 0x21, "COMMAND", .u8, .wo, 0, (.spans [(1, 1), (2, 2)])⟩,
  ⟨0x30F0, 0x30F7, 0x22, 0x22, "WON", .bool, .ro, 0, (.spans [(0, 1)])⟩,
  ⟨0x30F0, 0x30F7, 0x23, 0x23, "INSTANCES", .u8, .ro, 0, .any⟩,
  ⟨0x30F0, 0x30F7, 0x24, 0x24, "STATE_TIME", .st64, .ro, 0, .any⟩,
  ⟨0x30F0, 0x30F7, 0x25, 0x25, "REFUSED_WRITES", .u32, .ro, 0, .any⟩,
  ⟨0x30F0, 0x30F7, 0x26, 0x26, "CLOSE_COUNT", .u32, .ro, 0, .any⟩,
  ⟨0x30F0, 0x30F7, 0x27, 0x27, "FERR_TRIPS", .u32, .ro, 0, .any⟩,
  ⟨0x30F0, 0x30F7, 0x28, 0x28, "FLAGS", .u8, .w1c, 0, .any⟩,
  ⟨0x30F0, 0x30F7, 0x29, 0x29, "FAULT_REASON", .u8, .ro, 0, .any⟩,
  ⟨0x30F0, 0x30F7, 0x2A, 0x2A, "CMD_DISCARDED", .u32, .ro, 0, .any⟩,
  ⟨0x30FE, 0x30FE, 0x01, 0x01, "STATE", .u8, .ro, 0, .any⟩,
  ⟨0x30FE, 0x30FE, 0x02, 0x02, "FLAGS", .u16, .w1c, 0, .any⟩,
  ⟨0x30FE, 0x30FE, 0x03, 0x03, "SCHEDULE_LENGTH", .u32, .ro, 0, .any⟩,
  ⟨0x30FE, 0x30FE, 0x04, 0x04, "PERIOD", .u32, .ro, 0, .any⟩,
  ⟨0x30FE, 0x30FE, 0x05, 0x05, "SLACK", .u32, .ro, 0, .any⟩,
  ⟨0x30FE, 0x30FE, 0x06, 0x06, "LATENCY", .u32, .ro, 0, .any⟩,
  ⟨0x30FE, 0x30FE, 0x07, 0x07, "LATENCY_MIN", .u32, .ro, 0, .any⟩,
  ⟨0x30FE, 0x30FE, 0x08, 0x08, "LATENCY_MAX", .u32, .ro, 0, .any⟩,
  ⟨0x30FE, 0x30FE, 0x09, 0x09, "PERIOD_COUNT", .u64, .ro, 0, .any⟩,
  ⟨0x30FE, 0x30FE, 0x0A, 0x0A, "SAT_COUNT", .u32, .ro, 0, .any⟩,
  ⟨0x30FE, 0x30FE, 0x0B, 0x0B, "DIVZ_COUNT", .u32, .ro, 0, .any⟩,
  ⟨0x30FE, 0x30FE, 0x0C, 0x0C, "STALE_COUNT", .u32, .ro, 0, .any⟩,
  ⟨0x30FE, 0x30FE, 0x0D, 0x0D, "OVERRUN_COUNT", .u32, .ro, 0, .any⟩,
  ⟨0x30FE, 0x30FE, 0x0E, 0x0E, "FERR_COUNT", .u32, .ro, 0, .any⟩,
  ⟨0x30FE, 0x30FE, 0x0F, 0x0F, "CHKFAIL_COUNT", .u32, .ro, 0, .any⟩,
  ⟨0x30FE, 0x30FE, 0x10, 0x10, "CHK_RETRIES", .u32, .ro, 0, .any⟩,
  ⟨0x30FE, 0x30FE, 0x11, 0x11, "CONSEC_OVERRUN", .u8, .ro, 0, .any⟩,
  ⟨0x30FE, 0x30FE, 0x12, 0x12, "FIRST_STALE_REF", .u16, .ro, 0, .any⟩,
  ⟨0x30FE, 0x30FE, 0x13, 0x13, "LAST_CHKFAIL_BLOCK", .u8, .ro, 255, .any⟩,
  ⟨0x30FE, 0x30FE, 0x14, 0x14, "BUSY_CYCLES", .u32, .ro, 0, .any⟩]

/-- Entries 0x30xx (R113, R114). -/
def rows30_1 : List Row := [  ⟨0x30FE, 0x30FE, 0x15, 0x15, "PARAM_WORDS", .u16, .ro, 0, .any⟩,
  ⟨0x30FE, 0x30FE, 0x16, 0x16, "PERIOD_START", .st64, .ro, 0, .any⟩,
  ⟨0x30FF, 0x30FF, 0x01, 0x01, "ENABLE", .bool, .rwo, 0, (.spans [(0, 1)])⟩,
  ⟨0x30FF, 0x30FF, 0x02, 0x02, "CADENCE", .u8, .rwo, 0, (.spans [(0, 3)])⟩,
  ⟨0x30FF, 0x30FF, 0x03, 0x03, "OUTPUT_PHASE", .u32, .rwo, 0, .any⟩,
  ⟨0x30FF, 0x30FF, 0x04, 0x04, "BLOCK_LIST", .domain, .rwo, 0, (.bytes 2 512)⟩,
  ⟨0x30FF, 0x30FF, 0x05, 0x05, "MONITOR", .bool, .rwo, 0, (.spans [(0, 1)])⟩,
  ⟨0x30FF, 0x30FF, 0x06, 0x06, "OVERRUN_ACTION", .u8, .rwo, 2, (.spans [(0, 2)])⟩,
  ⟨0x30FF, 0x30FF, 0x07, 0x07, "STALE_LIMIT", .u16, .rwo, 0, (.spans [(0, 0), (1, 1000)])⟩,
  ⟨0x30FF, 0x30FF, 0x08, 0x08, "STALE_ACTION", .u8, .rwo, 0, (.spans [(0, 2)])⟩,
  ⟨0x30FF, 0x30FF, 0x09, 0x09, "SHEARS_GROUP", .u8, .rwo, 255, (.spans [(0, 15), (255, 255)])⟩,
  ⟨0x30FF, 0x30FF, 0x0A, 0x0A, "REF_CHANNEL", .u8, .rwo, 255, (.spans [(0, 207), (255, 255)])⟩]

/-- Entries 0x30xx. -/
def rows30 : List Row := rows30_0 ++ rows30_1

/-- Entries 0x40xx (R217, R218, R219, R220, R221, R241). -/
def rows40_0 : List Row := [  ⟨0x4000, 0x4000, 0x01, 0x01, "V_BASE", .u32, .rw, 0, (.spans [(0, 0), (1, 2000000)])⟩,
  ⟨0x4000, 0x4000, 0x02, 0x02, "S_BASE", .u32, .rw, 0, (.spans [(0, 0), (1, 10000000)])⟩,
  ⟨0x4000, 0x4000, 0x03, 0x03, "F_BASE", .u32, .rw, 50000, (.spans [(45000, 65000)])⟩,
  ⟨0x4001, 0x4001, 0x01, 0x01, "ROTOR_REF", .u16, .rwo, 65535, .any⟩,
  ⟨0x4001, 0x4001, 0x02, 0x02, "RAMP_REF", .u16, .rwo, 65535, .any⟩,
  ⟨0x4001, 0x4001, 0x03, 0x03, "SYNC_REF", .u16, .rwo, 65535, .any⟩,
  ⟨0x4001, 0x4001, 0x04, 0x04, "DEADBUS_REF", .u16, .rwo, 65535, .any⟩,
  ⟨0x4001, 0x4001, 0x05, 0x05, "ISL_FREQ_REF", .u16, .rwo, 65535, .any⟩,
  ⟨0x4002, 0x4002, 0x01, 0x01, "CLOSE_SO", .u8, .rwo, 255, (.spans [(0, 7), (255, 255)])⟩,
  ⟨0x4002, 0x4002, 0x02, 0x02, "OPEN_SO", .u8, .rwo, 255, (.spans [(0, 7), (255, 255)])⟩,
  ⟨0x4002, 0x4002, 0x03, 0x03, "BREAKER_FORM", .u8, .rwo, 0, (.spans [(0, 0), (1, 1)])⟩,
  ⟨0x4002, 0x4002, 0x04, 0x04, "BREAKER_PULSE", .u16, .rwo, 200, (.spans [(20, 2000)])⟩,
  ⟨0x4002, 0x4002, 0x05, 0x05, "CLOSE_ON_ENERGIZE", .bool, .rwo, 0, (.spans [(0, 1)])⟩,
  ⟨0x4002, 0x4002, 0x06, 0x06, "PRESET_ADVANCE", .ang32, .rwo, 0, .any⟩,
  ⟨0x4002, 0x4002, 0x20, 0x20, "DEADBUS_STATE", .u8, .ro, 3, .any⟩,
  ⟨0x4002, 0x4002, 0x21, 0x21, "LOW_TIME", .u32, .ro, 0, .any⟩,
  ⟨0x4002, 0x4002, 0x22, 0x22, "RAMP_TIME", .u32, .ro, 0, .any⟩,
  ⟨0x4002, 0x4002, 0x23, 0x23, "RAMP_PERIODS", .u32, .ro, 0, .any⟩,
  ⟨0x4002, 0x4002, 0x24, 0x24, "RAMP_COUNT", .u32, .ro, 0, .any⟩,
  ⟨0x4002, 0x4002, 0x25, 0x25, "ROTOR_FORM", .u8, .ro, 0, .any⟩,
  ⟨0x4002, 0x4002, 0x26, 0x26, "BREAKER_STATE", .u8, .ro, 0, .any⟩,
  ⟨0x4002, 0x4002, 0x27, 0x27, "GRID_FREQ", .u32, .ro, 0, .any⟩,
  ⟨0x4002, 0x4002, 0x28, 0x28, "SYNC_SNAPSHOT", .domain, .ro, 0, (.bytes 16 16)⟩,
  ⟨0x4003, 0x4003, 0x01, 0x01, "ISL_ENABLE", .u8, .rwo, 0, .any⟩,
  ⟨0x4003, 0x4003, 0x02, 0x02, "ISL_DF", .pu32, .rwo, 167772, (.spans [(16777, 1677722)])⟩,
  ⟨0x4003, 0x4003, 0x03, 0x03, "ISL_TIME", .u32, .rwo, 500, (.spans [(10, 10000)])⟩,
  ⟨0x4003, 0x4003, 0x04, 0x04, "ISL_ZJUMP", .pu32, .rwo, 33554432, (.spans [(18454938, 1677721600)])⟩,
  ⟨0x4003, 0x4003, 0x05, 0x05, "ISL_LOGIC", .u8, .rwo, 0, (.spans [(0, 0), (1, 1)])⟩,
  ⟨0x4003, 0x4003, 0x06, 0x06, "ISL_WINDOW", .u32, .rwo, 5000, (.spans [(100, 60000)])⟩,
  ⟨0x4003, 0x4003, 0x20, 0x20, "ISL_STATE", .u8, .ro, 0, .any⟩,
  ⟨0x4003, 0x4003, 0x21, 0x21, "ISL_COUNT", .u32, .ro, 0, .any⟩,
  ⟨0x4003, 0x4003, 0x22, 0x22, "ISL_TIME_LAST", .st64, .ro, 0, .any⟩,
  ⟨0x4003, 0x4003, 0x23, 0x23, "Z_RATIO", .pu32, .ro, 0, .any⟩,
  ⟨0x4004, 0x4004, 0x01, 0x01, "FLAGS", .u16, .w1c, 0, .any⟩,
  ⟨0x4010, 0x4010, 0x01, 0x01, "RIDE_V_REF", .u16, .rwo, 65535, .any⟩,
  ⟨0x4010, 0x4010, 0x02, 0x02, "LIMIT_REF", .u16, .rwo, 65535, .any⟩,
  ⟨0x4010, 0x4010, 0x03, 0x03, "UV_ENTER", .pu32, .rwo, 14260634, (.spans [(1677722, 15938355)])⟩,
  ⟨0x4010, 0x4010, 0x04, 0x04, "OV_ENTER", .pu32, .rwo, 19293798, (.spans [(17616077, 25165824)])⟩,
  ⟨0x4010, 0x4010, 0x05, 0x05, "UV_EXIT", .pu32, .rwo, 15099494, (.spans [(1677722, 16777216)])⟩,
  ⟨0x4010, 0x4010, 0x06, 0x06, "OV_EXIT", .pu32, .rwo, 18454938, (.spans [(16777216, 25165824)])⟩]

/-- Entries 0x40xx (R241, R242, R243, R244, R268, R269). -/
def rows40_1 : List Row := [  ⟨0x4010, 0x4010, 0x07, 0x07, "ENTRY_DELAY", .u32, .rwo, 0, (.spans [(0, 20000)])⟩,
  ⟨0x4010, 0x4010, 0x08, 0x08, "LIMIT_TIME", .u32, .rwo, 1000, (.spans [(100, 100000)])⟩,
  ⟨0x4010, 0x4010, 0x09, 0x09, "RECOVER_DWELL", .u32, .rwo, 20, (.spans [(0, 10000)])⟩,
  ⟨0x4010, 0x4010, 0x0A, 0x0A, "RECOVER_RAMP", .u32, .rwo, 500, (.spans [(10, 10000)])⟩,
  ⟨0x4010, 0x4010, 0x0B, 0x0B, "EPISODE_LIMIT", .u32, .rwo, 60000, (.spans [(100, 600000)])⟩,
  ⟨0x4010, 0x4010, 0x0C, 0x0C, "GUARD_VMIN", .pu32, .rwo, 1677722, (.spans [(0, 8388608)])⟩,
  ⟨0x4011, 0x4011, 0x01, 0x01, "UV_CURVE", .domain, .rwo, 0, (.bytes 16 128)⟩,
  ⟨0x4011, 0x4011, 0x02, 0x02, "OV_CURVE", .domain, .rwo, 0, (.bytes 16 128)⟩,
  ⟨0x4012, 0x4012, 0x01, 0x01, "RIDE_CAUSE", .u8, .ro, 0, .any⟩,
  ⟨0x4012, 0x4012, 0x02, 0x02, "EPISODE_START", .st64, .ro, 0, .any⟩,
  ⟨0x4012, 0x4012, 0x03, 0x03, "EPISODE_TIME", .u32, .ro, 0, .any⟩,
  ⟨0x4012, 0x4012, 0x04, 0x04, "MIN_V", .pu32, .ro, 0, .any⟩,
  ⟨0x4012, 0x4012, 0x05, 0x05, "RECOVER_FRACTION", .pu32, .ro, 0, .any⟩,
  ⟨0x4012, 0x4012, 0x06, 0x06, "RIDE_ENTRIES", .u32, .ro, 0, .any⟩,
  ⟨0x4012, 0x4012, 0x07, 0x07, "RECOVERIES", .u32, .ro, 0, .any⟩,
  ⟨0x4012, 0x4012, 0x08, 0x08, "ENVELOPE_EXITS", .u32, .ro, 0, .any⟩,
  ⟨0x4012, 0x4012, 0x09, 0x09, "EXIT_REASON", .u8, .ro, 0, .any⟩,
  ⟨0x4012, 0x4012, 0x0A, 0x0A, "EXIT_SNAPSHOT", .domain, .ro, 0, (.bytes 12 12)⟩,
  ⟨0x4012, 0x4012, 0x0B, 0x0B, "GUARD_PERIODS", .u32, .ro, 0, .any⟩,
  ⟨0x4012, 0x4012, 0x0C, 0x0C, "GUARD_SUSPENDED_PERIODS", .u32, .ro, 0, .any⟩,
  ⟨0x4013, 0x4013, 0x01, 0x01, "FLAGS", .u8, .w1c, 0, .any⟩,
  ⟨0x4020, 0x4020, 0x01, 0x01, "PROBE_REF", .u16, .rwo, 65535, .any⟩,
  ⟨0x4020, 0x4020, 0x02, 0x02, "V_MEAS_REF", .u16, .rwo, 65535, .any⟩,
  ⟨0x4020, 0x4020, 0x03, 0x03, "I_MEAS_REF", .u16, .rwo, 65535, .any⟩,
  ⟨0x4020, 0x4020, 0x04, 0x04, "NAVG", .u8, .rwo, 2, (.spans [(1, 64)])⟩,
  ⟨0x4020, 0x4020, 0x05, 0x05, "THEV_FMIN", .u32, .rwo, 20000, (.spans [(10000, 5000000)])⟩,
  ⟨0x4020, 0x4020, 0x06, 0x06, "THEV_FMAX", .u32, .rwo, 500000, (.spans [(10000, 5000000)])⟩,
  ⟨0x4020, 0x4020, 0x07, 0x07, "COH_MIN", .pu32, .rwo, 13421773, (.spans [(0, 16777216)])⟩,
  ⟨0x4020, 0x4020, 0x08, 0x08, "DWELL", .u32, .rwo, 1000, (.spans [(1000, 600000)])⟩,
  ⟨0x4020, 0x4020, 0x20, 0x20, "EST_TIME", .u32, .ro, 0, .any⟩,
  ⟨0x4020, 0x4020, 0x21, 0x21, "SEQ_PERIOD", .u32, .ro, 0, .any⟩,
  ⟨0x4020, 0x4020, 0x22, 0x22, "BINS_ELIGIBLE", .u8, .ro, 0, .any⟩,
  ⟨0x4021, 0x4021, 0x01, 0x01, "MODE", .u8, .rw, 0, (.spans [(0, 3)])⟩,
  ⟨0x4021, 0x4021, 0x02, 0x02, "MODE_IN_FORCE", .u8, .ro, 0, .any⟩,
  ⟨0x4021, 0x4021, 0x03, 0x03, "PAUSE", .u8, .ro, 8, .any⟩,
  ⟨0x4021, 0x4021, 0x04, 0x04, "PROGRESS", .u32, .ro, 0, .any⟩,
  ⟨0x4021, 0x4021, 0x05, 0x05, "ESTIMATES", .u32, .ro, 0, .any⟩,
  ⟨0x4021, 0x4021, 0x06, 0x06, "ABANDONED", .u32, .ro, 0, .any⟩,
  ⟨0x4021, 0x4021, 0x07, 0x07, "APPLIED_ENTRY", .u8, .ro, 255, .any⟩,
  ⟨0x4021, 0x4021, 0x08, 0x08, "PROPOSED_ENTRY", .u8, .ro, 255, .any⟩]

/-- Entries 0x40xx (R269, R272, R273). -/
def rows40_2 : List Row := [  ⟨0x4021, 0x4021, 0x09, 0x09, "LAST_CHANGE", .st64, .ro, 0, .any⟩,
  ⟨0x4021, 0x4021, 0x0A, 0x0A, "ADAPT_REFUSED", .u32, .ro, 0, .any⟩,
  ⟨0x4021, 0x4021, 0x0B, 0x0B, "CLAMPS", .u32, .ro, 0, .any⟩,
  ⟨0x4021, 0x4021, 0x0C, 0x0C, "FLAGS", .u8, .w1c, 0, .any⟩,
  ⟨0x4022, 0x4022, 0x01, 0x01, "SEQUENCE", .u32, .ro, 0, .any⟩,
  ⟨0x4022, 0x4022, 0x02, 0x02, "STATUS", .u8, .ro, 0, .any⟩,
  ⟨0x4022, 0x4022, 0x03, 0x03, "R", .pu32, .ro, 0, .any⟩,
  ⟨0x4022, 0x4022, 0x04, 0x04, "X", .pu32, .ro, 0, .any⟩,
  ⟨0x4022, 0x4022, 0x05, 0x05, "SCR", .pu32, .ro, 0, .any⟩,
  ⟨0x4022, 0x4022, 0x06, 0x06, "THEV_VALID", .bool, .ro, 0, (.spans [(0, 1)])⟩,
  ⟨0x4022, 0x4022, 0x07, 0x07, "VALID_BINS", .u8, .ro, 0, .any⟩,
  ⟨0x4022, 0x4022, 0x08, 0x08, "COMPLETED", .st64, .ro, 0, .any⟩,
  ⟨0x4022, 0x4022, 0x09, 0x09, "SPECTRUM", .domain, .ro, 0, (.bytes 768 768)⟩,
  ⟨0x4022, 0x4022, 0x0A, 0x0A, "SNAPSHOT", .domain, .ro, 0, (.bytes 28 28)⟩,
  ⟨0x4023, 0x4023, 0x01, 0x08, "TARGET0", .u32, .rwo, 4294967295, .any⟩,
  ⟨0x4023, 0x4023, 0x09, 0x10, "LOW_BOUND0", .pu32, .rwo, 0, .any⟩,
  ⟨0x4023, 0x4023, 0x11, 0x18, "HIGH_BOUND0", .pu32, .rwo, 0, .any⟩,
  ⟨0x4024, 0x4024, 0x01, 0x01, "SCR_POINTS", .domain, .rwo, 0, (.bytes 32 32)⟩,
  ⟨0x4024, 0x4024, 0x02, 0x02, "VALUES", .domain, .rwo, 0, (.bytes 256 256)⟩,
  ⟨0x4024, 0x4024, 0x20, 0x20, "APPLIED_VALUES", .domain, .ro, 0, (.bytes 32 32)⟩]

/-- Entries 0x40xx. -/
def rows40 : List Row := rows40_0 ++ rows40_1 ++ rows40_2

/-- Entries 0x50xx (R301, R302). -/
def rows50_0 : List Row := [  ⟨0x5000, 0x500B, 0x01, 0x01, "ENABLE", .bool, .rwo, 0, (.spans [(0, 1)])⟩,
  ⟨0x5000, 0x500B, 0x02, 0x02, "COUNT_MODE", .u8, .rwo, 1, (.spans [(0, 0), (1, 1)])⟩,
  ⟨0x5000, 0x500B, 0x03, 0x03, "PERIOD", .u32, .rwo, 10000, (.spans [(16, 16777215)])⟩,
  ⟨0x5000, 0x500B, 0x04, 0x04, "RELOAD", .u8, .rwo, 1, (.spans [(0, 0), (1, 1), (2, 2)])⟩,
  ⟨0x5000, 0x500B, 0x05, 0x05, "ALIGN", .bool, .rwo, 1, (.spans [(0, 1)])⟩,
  ⟨0x5000, 0x500B, 0x06, 0x06, "OFFSET", .u32, .rwo, 0, .any⟩,
  ⟨0x5000, 0x500B, 0x07, 0x07, "UPDATE", .u8, .rwo, 0, (.spans [(0, 0), (1, 1)])⟩,
  ⟨0x5000, 0x500B, 0x08, 0x0B, "EV_PRESCALE", .u8, .rwo, 1, (.spans [(1, 16)])⟩,
  ⟨0x5000, 0x500B, 0x0C, 0x0C, "EVCMP_A", .u32, .rwo, 0, .any⟩,
  ⟨0x5000, 0x500B, 0x0D, 0x0D, "EVCMP_B", .u32, .rwo, 0, .any⟩,
  ⟨0x5000, 0x500B, 0x0E, 0x0E, "EV_ROUTE", .u8, .rwo, 0, .any⟩,
  ⟨0x5000, 0x500B, 0x0F, 0x0F, "RESERVED", .u8, .rwo, 0, .any⟩,
  ⟨0x5000, 0x500B, 0x20, 0x20, "PERIOD_SH", .u32, .rw, 0, (.spans [(16, 16777215)])⟩,
  ⟨0x5000, 0x500B, 0x21, 0x21, "COMMIT", .u32, .wo, 0, .any⟩,
  ⟨0x5000, 0x500B, 0x22, 0x22, "PERIOD_LIVE", .u32, .ro, 0, .any⟩,
  ⟨0x5000, 0x500B, 0x23, 0x23, "COUNTER", .u32, .ro, 0, .any⟩,
  ⟨0x5000, 0x500B, 0x24, 0x24, "EV_CAUSE", .u8, .w1c, 0, .any⟩,
  ⟨0x5000, 0x500B, 0x25, 0x25, "RELOAD_COUNT", .u32, .ro, 0, .any⟩,
  ⟨0x5000, 0x500B, 0x26, 0x26, "LATE_COMMITS", .u32, .ro, 0, .any⟩,
  ⟨0x5000, 0x500B, 0x27, 0x27, "LAST_RELOAD", .st64, .ro, 0, .any⟩,
  ⟨0x5020, 0x5037, 0x01, 0x01, "ENABLE", .bool, .rwo, 0, (.spans [(0, 1)])⟩,
  ⟨0x5020, 0x5037, 0x02, 0x02, "FURROW", .u8, .rwo, 0, (.spans [(0, 11)])⟩,
  ⟨0x5020, 0x5037, 0x03, 0x03, "PAIR_MODE", .u8, .rwo, 0, (.spans [(0, 0), (1, 1)])⟩,
  ⟨0x5020, 0x5037, 0x04, 0x04, "DEADTIME", .u32, .rwo, 12800, (.spans [(0, 64000)])⟩,
  ⟨0x5020, 0x5037, 0x05, 0x05, "MIN_PULSE", .u32, .rwo, 0, (.spans [(0, 64000)])⟩,
  ⟨0x5020, 0x5037, 0x06, 0x06, "SWAP", .bool, .rwo, 0, (.spans [(0, 1)])⟩,
  ⟨0x5020, 0x5037, 0x07, 0x07, "INVERT", .bool, .rwo, 0, (.spans [(0, 1)])⟩,
  ⟨0x5020, 0x5037, 0x08, 0x08, "FLT_MASK", .u8, .rwo, 0, .any⟩,
  ⟨0x5020, 0x5037, 0x09, 0x09, "GROUP_MASK", .u16, .rwo, 0, .any⟩,
  ⟨0x5020, 0x5037, 0x0A, 0x0A, "FAULT_ACTION", .u8, .rwo, 0, (.spans [(0, 0), (1, 1)])⟩,
  ⟨0x5020, 0x5037, 0x0B, 0x0B, "FAULT_RELEASE", .u8, .rwo, 0, (.spans [(0, 0), (1, 1)])⟩,
  ⟨0x5020, 0x5037, 0x20, 0x20, "CMPA_SH", .u32, .rw, 0, (.spans [(0, 1073741823)])⟩,
  ⟨0x5020, 0x5037, 0x21, 0x21, "CMPB_SH", .u32, .rw, 0, (.spans [(0, 1073741823)])⟩,
  ⟨0x5020, 0x5037, 0x22, 0x22, "CMPA_LIVE", .u32, .ro, 0, .any⟩,
  ⟨0x5020, 0x5037, 0x23, 0x23, "CMPB_LIVE", .u32, .ro, 0, .any⟩,
  ⟨0x5020, 0x5037, 0x24, 0x24, "FLAGS", .u8, .w1c, 0, .any⟩,
  ⟨0x5020, 0x5037, 0x25, 0x25, "FAULT_STATE", .u8, .ro, 0, .any⟩,
  ⟨0x5020, 0x5037, 0x26, 0x26, "FAULT_CLEAR", .bool, .wo, 0, (.spans [(1, 1)])⟩,
  ⟨0x5020, 0x5037, 0x27, 0x27, "XCOND_COUNT", .u32, .ro, 0, .any⟩,
  ⟨0x5020, 0x5037, 0x28, 0x28, "CLAMP_COUNT", .u32, .ro, 0, .any⟩]

/-- Entries 0x50xx (R302, R304). -/
def rows50_1 : List Row := [  ⟨0x5020, 0x5037, 0x29, 0x29, "CAL_SWAPS", .u32, .ro, 0, .any⟩,
  ⟨0x5020, 0x5037, 0x2A, 0x2A, "CAL_DEFERRED", .u32, .ro, 0, .any⟩,
  ⟨0x5020, 0x5037, 0x2B, 0x2B, "PIN_STATE", .u8, .ro, 4, .any⟩,
  ⟨0x5040, 0x5040, 0x01, 0x08, "FLT_ACTIVE_LOW", .bool, .rwo, 1, (.spans [(0, 1)])⟩,
  ⟨0x5040, 0x5040, 0x09, 0x10, "FLT_FILTER", .u8, .rwo, 4, (.spans [(0, 255)])⟩,
  ⟨0x5040, 0x5040, 0x20, 0x20, "FLT_STATE", .u8, .ro, 0, .any⟩]

/-- Entries 0x50xx. -/
def rows50 : List Row := rows50_0 ++ rows50_1

/-- Entries 0x60xx (R335). -/
def rows60 : List Row := [  ⟨0x6000, 0x6007, 0x01, 0x01, "ENABLE", .bool, .rwo, 0, (.spans [(0, 1)])⟩,
  ⟨0x6000, 0x6007, 0x02, 0x02, "NODES", .u8, .rwo, 0, (.spans [(0, 24)])⟩,
  ⟨0x6000, 0x6007, 0x03, 0x03, "SHIFT", .u32, .rwo, 2000, (.spans [(1600, 7990000)])⟩,
  ⟨0x6000, 0x6007, 0x04, 0x04, "BYPASS_DELAY", .u16, .rwo, 5, (.spans [(1, 20)])⟩,
  ⟨0x6000, 0x6007, 0x20, 0x20, "STATE", .u8, .ro, 0, .any⟩,
  ⟨0x6000, 0x6007, 0x21, 0x21, "CHAIN_CMD", .u8, .wo, 0, (.spans [(1, 1), (2, 2)])⟩,
  ⟨0x6000, 0x6007, 0x22, 0x22, "CHAIN_RESULT", .u8, .ro, 0, .any⟩,
  ⟨0x6000, 0x6007, 0x23, 0x23, "NODES_FOUND", .u8, .ro, 0, .any⟩,
  ⟨0x6000, 0x6007, 0x24, 0x24, "CMD_SENT", .u64, .ro, 0, .any⟩,
  ⟨0x6000, 0x6007, 0x25, 0x25, "LEAD_REFUSED", .u32, .ro, 0, .any⟩,
  ⟨0x6000, 0x6007, 0x26, 0x26, "QUEUE_FULL", .u32, .ro, 0, .any⟩,
  ⟨0x6000, 0x6007, 0x27, 0x27, "RESENT", .u32, .ro, 0, .any⟩,
  ⟨0x6000, 0x6007, 0x28, 0x28, "STOPS_SENT", .u32, .ro, 0, .any⟩,
  ⟨0x6000, 0x6007, 0x29, 0x29, "PEAK_BACKLOG", .u32, .ro, 0, .any⟩,
  ⟨0x6000, 0x6007, 0x2A, 0x2A, "FLAGS", .u8, .w1c, 0, .any⟩]

/-- Entries 0x61xx (R337). -/
def rows61 : List Row := [  ⟨0x6100, 0x6100, 0x01, 0x01, "ENABLE", .bool, .rwo, 0, (.spans [(0, 1)])⟩,
  ⟨0x6100, 0x6100, 0x02, 0x02, "FURROW", .u8, .rwo, 255, (.spans [(0, 11), (255, 255)])⟩,
  ⟨0x6100, 0x6100, 0x03, 0x03, "PAIR_MODE", .u8, .rwo, 0, (.spans [(0, 0), (1, 1)])⟩,
  ⟨0x6100, 0x6100, 0x04, 0x04, "DEADTIME", .u32, .rwo, 12800, (.spans [(0, 64000)])⟩,
  ⟨0x6100, 0x6100, 0x05, 0x05, "MIN_PULSE", .u32, .rwo, 0, (.spans [(0, 64000)])⟩,
  ⟨0x6100, 0x6100, 0x06, 0x06, "ARM", .u8, .rwo, 255, (.spans [(0, 5), (255, 255)])⟩,
  ⟨0x6100, 0x6100, 0x07, 0x07, "SLOT", .u8, .rwo, 0, (.spans [(0, 63)])⟩,
  ⟨0x6100, 0x6100, 0x20, 0x20, "CMPA_SH", .u32, .rw, 0, (.spans [(0, 1073741823)])⟩,
  ⟨0x6100, 0x6100, 0x21, 0x21, "CMPB_SH", .u32, .rw, 0, (.spans [(0, 1073741823)])⟩,
  ⟨0x6100, 0x6100, 0x22, 0x22, "CMPA_LIVE", .u32, .ro, 0, .any⟩,
  ⟨0x6100, 0x6100, 0x23, 0x23, "LEVELS", .u8, .ro, 0, .any⟩,
  ⟨0x6100, 0x6100, 0x24, 0x24, "FLAGS", .u8, .w1c, 0, .any⟩,
  ⟨0x6100, 0x6100, 0x25, 0x25, "XCOND_COUNT", .u32, .ro, 0, .any⟩,
  ⟨0x6100, 0x6100, 0x26, 0x26, "RELEASE", .bool, .wo, 0, (.spans [(1, 1)])⟩,
  ⟨0x6100, 0x6100, 0x27, 0x27, "EDGES", .u32, .ro, 0, .any⟩]

/-- Entries 0x62xx (R339). -/
def rows62 : List Row := [  ⟨0x6200, 0x6200, 0x01, 0x01, "CHANNEL_BASE", .u8, .rwo, 0, (.step 2 0 46)⟩,
  ⟨0x6200, 0x6200, 0x02, 0x02, "CHANNELS", .u8, .rwo, 2, (.spans [(2, 2), (4, 4)])⟩,
  ⟨0x6200, 0x6200, 0x03, 0x03, "VCAP_SCALE", .u32, .rwo, 0, .any⟩,
  ⟨0x6200, 0x6200, 0x20, 0x20, "DELAY", .u32, .ro, 0, .any⟩,
  ⟨0x6200, 0x6200, 0x21, 0x21, "IDENT", .domain, .ro, 0, (.bytes 6 6)⟩,
  ⟨0x6200, 0x6200, 0x22, 0x22, "STATUS", .domain, .ro, 0, (.bytes 16 16)⟩,
  ⟨0x6200, 0x6200, 0x23, 0x23, "VCAP", .u16, .ro, 0, .any⟩,
  ⟨0x6200, 0x6200, 0x24, 0x24, "VCAP_MV", .u32, .ro, 0, .any⟩,
  ⟨0x6200, 0x6200, 0x25, 0x25, "TEMP", .i8, .ro, 0, .any⟩,
  ⟨0x6200, 0x6200, 0x26, 0x26, "MISSED_STATUS", .u32, .ro, 0, .any⟩,
  ⟨0x6200, 0x6200, 0x27, 0x27, "CMD_ERRS", .u32, .ro, 0, .any⟩,
  ⟨0x6200, 0x6200, 0x28, 0x28, "EDGE_MISSING", .u32, .ro, 0, .any⟩,
  ⟨0x6200, 0x6200, 0x29, 0x29, "LINK_FAULTS", .u32, .ro, 0, .any⟩,
  ⟨0x6200, 0x6200, 0x2A, 0x2A, "FLAGS", .u8, .w1c, 0, .any⟩,
  ⟨0x6200, 0x6200, 0x2B, 0x2B, "BYPASS", .u8, .wo, 0, (.spans [(1, 1), (2, 2)])⟩,
  ⟨0x6200, 0x6200, 0x2C, 0x2C, "LINK_STATE", .u8, .ro, 0, .any⟩]

/-- Entries 0x63xx (R341). -/
def rows63 : List Row := [  ⟨0x6300, 0x6305, 0x01, 0x01, "ENABLE", .bool, .rwo, 0, (.spans [(0, 1)])⟩,
  ⟨0x6300, 0x6305, 0x02, 0x02, "CURRENT_REF", .u16, .rwo, 65535, .any⟩,
  ⟨0x6300, 0x6305, 0x03, 0x03, "HYST", .u16, .rwo, 32, (.spans [(0, 4095)])⟩,
  ⟨0x6300, 0x6305, 0x04, 0x04, "MAX_SWAPS", .u8, .rwo, 2, (.spans [(0, 8)])⟩,
  ⟨0x6300, 0x6305, 0x05, 0x05, "RAKE_SHIFT", .u32, .rwo, 2000, (.spans [(1600, 7990000)])⟩,
  ⟨0x6300, 0x6305, 0x06, 0x06, "SHARE_ID", .u8, .rwo, 255, (.spans [(0, 15), (255, 255)])⟩,
  ⟨0x6300, 0x6305, 0x20, 0x20, "N_CMD", .u16, .ro, 0, .any⟩,
  ⟨0x6300, 0x6305, 0x21, 0x21, "HEALTHY", .u16, .ro, 0, .any⟩,
  ⟨0x6300, 0x6305, 0x22, 0x22, "REDUNDANCY", .i16, .ro, 0, .any⟩,
  ⟨0x6300, 0x6305, 0x23, 0x23, "INSERTED", .domain, .ro, 0, (.bytes 32 32)⟩,
  ⟨0x6300, 0x6305, 0x24, 0x24, "VCAP", .domain, .ro, 0, (.bytes 128 128)⟩,
  ⟨0x6300, 0x6305, 0x25, 0x25, "SWAPS", .u32, .ro, 0, .any⟩,
  ⟨0x6300, 0x6305, 0x26, 0x26, "SORTS", .u64, .ro, 0, .any⟩,
  ⟨0x6300, 0x6305, 0x27, 0x27, "LAST_SORT", .st64, .ro, 0, .any⟩,
  ⟨0x6300, 0x6305, 0x28, 0x28, "FLAGS", .u8, .w1c, 0, .any⟩,
  ⟨0x6300, 0x6305, 0x29, 0x29, "SUBMODULES", .u8, .ro, 0, .any⟩]

/-- Entries 0x70xx (R369). -/
def rows70 : List Row := [  ⟨0x7000, 0x702F, 0x01, 0x01, "HIGH_CLASS", .u8, .rwo, 3, (.spans [(0, 3)])⟩,
  ⟨0x7000, 0x702F, 0x02, 0x02, "HIGH_LEG", .u16, .rwo, 65535, (.spans [(0, 215), (65535, 65535)])⟩,
  ⟨0x7000, 0x702F, 0x03, 0x03, "HIGH_GROUP", .u8, .rwo, 255, (.spans [(0, 15), (255, 255)])⟩,
  ⟨0x7000, 0x702F, 0x04, 0x04, "LOW_CLASS", .u8, .rwo, 3, (.spans [(0, 3)])⟩,
  ⟨0x7000, 0x702F, 0x05, 0x05, "LOW_LEG", .u16, .rwo, 65535, (.spans [(0, 215), (65535, 65535)])⟩,
  ⟨0x7000, 0x702F, 0x06, 0x06, "LOW_GROUP", .u8, .rwo, 255, (.spans [(0, 15), (255, 255)])⟩,
  ⟨0x7000, 0x702F, 0x20, 0x20, "TRIPS", .u32, .ro, 0, .any⟩,
  ⟨0x7030, 0x703F, 0x01, 0x01, "CLASS", .u8, .rwo, 3, (.spans [(0, 3)])⟩,
  ⟨0x7030, 0x703F, 0x02, 0x02, "LEG", .u16, .rwo, 65535, (.spans [(0, 215), (65535, 65535)])⟩,
  ⟨0x7030, 0x703F, 0x03, 0x03, "GROUP", .u8, .rwo, 255, (.spans [(0, 15), (255, 255)])⟩,
  ⟨0x7040, 0x7047, 0x01, 0x01, "ESC_CLASS", .u8, .rwo, 0, (.spans [(0, 0), (2, 2), (3, 3)])⟩,
  ⟨0x7040, 0x7047, 0x02, 0x02, "GROUP", .u8, .rwo, 255, (.spans [(0, 15), (255, 255)])⟩,
  ⟨0x7050, 0x7057, 0x01, 0x01, "DESAT_CLASS", .u8, .rwo, 1, (.spans [(1, 3)])⟩,
  ⟨0x7050, 0x7057, 0x02, 0x02, "UV_CLASS", .u8, .rwo, 1, (.spans [(1, 3)])⟩,
  ⟨0x7050, 0x7057, 0x03, 0x03, "LINK_CLASS", .u8, .rwo, 1, (.spans [(1, 3)])⟩]

/-- Entries 0x71xx (R370). -/
def rows71 : List Row := [  ⟨0x7100, 0x71D7, 0x01, 0x01, "ESC_GROUP", .u8, .rwo, 0, (.spans [(0, 15)])⟩,
  ⟨0x7100, 0x71D7, 0x02, 0x02, "BLANK", .u16, .rwo, 2000, (.spans [(500, 10000)])⟩,
  ⟨0x7100, 0x71D7, 0x03, 0x03, "GROUP_MASK", .u16, .rwo, 0, .any⟩,
  ⟨0x7100, 0x71D7, 0x20, 0x20, "STATE", .u8, .ro, 0, .any⟩,
  ⟨0x7100, 0x71D7, 0x21, 0x21, "REPORTS", .u32, .ro, 0, .any⟩,
  ⟨0x7100, 0x71D7, 0x22, 0x22, "RELEASE", .bool, .wo, 0, (.spans [(1, 1)])⟩]

/-- Entries 0x72xx (R372). -/
def rows72 : List Row := [  ⟨0x7200, 0x720F, 0x01, 0x01, "AFF_LIMIT", .u8, .rwo, 2, (.spans [(1, 32)])⟩,
  ⟨0x7200, 0x720F, 0x02, 0x02, "AFF_WINDOW", .u32, .rwo, 1000, (.spans [(10, 1000000)])⟩,
  ⟨0x7200, 0x720F, 0x20, 0x20, "TRIPPED", .bool, .ro, 0, (.spans [(0, 1)])⟩,
  ⟨0x7200, 0x720F, 0x21, 0x21, "AFF_COUNT", .u8, .ro, 0, .any⟩,
  ⟨0x7200, 0x720F, 0x22, 0x22, "GROUP_TRIPS", .u32, .ro, 0, .any⟩,
  ⟨0x7200, 0x720F, 0x23, 0x23, "CLEAR", .bool, .wo, 0, (.spans [(1, 1)])⟩]

/-- Entries 0x73xx (R372, R374). -/
def rows73 : List Row := [  ⟨0x7300, 0x7300, 0x01, 0x01, "CLEAR_ALL", .bool, .wo, 0, (.spans [(1, 1)])⟩,
  ⟨0x7300, 0x7300, 0x02, 0x02, "ALL_ACTIVE", .bool, .ro, 0, (.spans [(0, 1)])⟩,
  ⟨0x7300, 0x7300, 0x03, 0x03, "RECORDS", .u32, .ro, 0, .any⟩,
  ⟨0x7300, 0x7300, 0x04, 0x04, "LAST_RECORD", .domain, .ro, 0, (.bytes 64 64)⟩,
  ⟨0x7300, 0x7300, 0x05, 0x05, "FLAGS", .u8, .w1c, 0, .any⟩,
  ⟨0x7300, 0x7300, 0x06, 0x06, "BLANKED", .u32, .ro, 0, .any⟩,
  ⟨0x7310, 0x7310, 0x01, 0x01, "TEST_CMP", .u8, .wo, 0, (.spans [(0, 15)])⟩,
  ⟨0x7310, 0x7310, 0x02, 0x02, "TEST_NODE", .u32, .wo, 0, .any⟩,
  ⟨0x7311, 0x7311, 0x01, 0x01, "SEQUENCE", .u32, .ro, 0, .any⟩,
  ⟨0x7311, 0x7311, 0x02, 0x02, "STATUS", .u8, .ro, 0, .any⟩,
  ⟨0x7311, 0x7311, 0x03, 0x03, "TARGET", .u32, .ro, 0, .any⟩,
  ⟨0x7311, 0x7311, 0x04, 0x04, "RESULT", .u8, .ro, 0, .any⟩,
  ⟨0x7311, 0x7311, 0x05, 0x05, "TRIP_CODE", .u16, .ro, 0, .any⟩,
  ⟨0x7311, 0x7311, 0x06, 0x06, "RELEASE_CODE", .u16, .ro, 0, .any⟩,
  ⟨0x7311, 0x7311, 0x07, 0x07, "COMPLETED", .st64, .ro, 0, .any⟩]

/-- Entries 0x80xx (R404, R406, R407). -/
def rows80_0 : List Row := [  ⟨0x8000, 0x8000, 0x01, 0x01, "STATE", .u8, .ro, 0, .any⟩,
  ⟨0x8000, 0x8000, 0x02, 0x02, "PERMISSION", .bool, .ro, 0, (.spans [(0, 1)])⟩,
  ⟨0x8000, 0x8000, 0x03, 0x03, "DEMANDS", .u16, .ro, 0, .any⟩,
  ⟨0x8000, 0x8000, 0x04, 0x04, "FLAGS", .u8, .w1c, 0, .any⟩,
  ⟨0x8000, 0x8000, 0x05, 0x05, "SPS_COUNT", .u32, .ro, 0, .any⟩,
  ⟨0x8000, 0x8000, 0x06, 0x06, "LAST_SPS", .domain, .ro, 0, (.bytes 16 16)⟩,
  ⟨0x8000, 0x8000, 0x07, 0x07, "FW_VERSION", .u32, .ro, 0, .any⟩,
  ⟨0x8000, 0x8000, 0x08, 0x08, "GUARD_INPUT", .u8, .rw, 0, (.spans [(0, 7)])⟩,
  ⟨0x8000, 0x8000, 0x09, 0x09, "CHK_LIMIT", .u16, .rw, 10, (.spans [(1, 1000)])⟩,
  ⟨0x8000, 0x8000, 0x0A, 0x0A, "SAFE_ETHERTYPE", .u16, .rw, 34997, .any⟩,
  ⟨0x8000, 0x8000, 0x0B, 0x0B, "PEN_STATE", .u8, .ro, 0, .any⟩,
  ⟨0x8000, 0x8000, 0x0C, 0x0C, "PEN_CLEAR", .bool, .wo, 0, (.spans [(1, 1)])⟩,
  ⟨0x8000, 0x8000, 0x0D, 0x0D, "SO_FAULTS", .u32, .ro, 0, .any⟩,
  ⟨0x8010, 0x8017, 0x01, 0x01, "ENABLE", .bool, .rw, 0, (.spans [(0, 1)])⟩,
  ⟨0x8010, 0x8017, 0x02, 0x02, "FILTER", .u16, .rw, 2000, (.spans [(40, 9000)])⟩,
  ⟨0x8010, 0x8017, 0x03, 0x03, "TP_SOURCE", .u8, .rw, 255, (.spans [(0, 7), (255, 255)])⟩,
  ⟨0x8010, 0x8017, 0x04, 0x04, "TP_WIDTH", .u16, .rw, 1000, (.spans [(1000, 4000)])⟩,
  ⟨0x8010, 0x8017, 0x05, 0x05, "TP_INTERVAL", .u8, .rw, 10, (.spans [(1, 60)])⟩,
  ⟨0x8010, 0x8017, 0x20, 0x20, "STATE", .u8, .ro, 3, .any⟩,
  ⟨0x8010, 0x8017, 0x21, 0x21, "DEMAND_COUNT", .u32, .ro, 0, .any⟩,
  ⟨0x8010, 0x8017, 0x22, 0x22, "TP_FAILS", .u32, .ro, 0, .any⟩,
  ⟨0x8020, 0x8027, 0x01, 0x01, "FUNCTION", .u8, .rw, 0, (.spans [(0, 3)])⟩,
  ⟨0x8020, 0x8027, 0x02, 0x02, "HALT_LEVEL", .u8, .rw, 0, (.spans [(0, 0), (1, 1)])⟩,
  ⟨0x8020, 0x8027, 0x03, 0x03, "TEST_ENABLE", .bool, .rw, 1, (.spans [(0, 1)])⟩,
  ⟨0x8020, 0x8027, 0x04, 0x04, "TEST_WIDTH", .u16, .rw, 400, (.spans [(200, 800)])⟩,
  ⟨0x8020, 0x8027, 0x05, 0x05, "TEST_INTERVAL", .u8, .rw, 10, (.spans [(1, 60)])⟩,
  ⟨0x8020, 0x8027, 0x20, 0x20, "STATE", .u8, .ro, 0, .any⟩,
  ⟨0x8020, 0x8027, 0x21, 0x21, "TESTS", .u32, .ro, 0, .any⟩,
  ⟨0x8020, 0x8027, 0x22, 0x22, "FAULT_CLEAR", .bool, .wo, 0, (.spans [(1, 1)])⟩,
  ⟨0x8030, 0x8033, 0x01, 0x01, "ENABLE", .bool, .rw, 0, (.spans [(0, 1)])⟩,
  ⟨0x8030, 0x8033, 0x02, 0x02, "SAFE_ID", .u16, .rw, 0, (.spans [(0, 65535)])⟩,
  ⟨0x8030, 0x8033, 0x03, 0x03, "MAC", .domain, .rw, 0, (.bytes 6 6)⟩,
  ⟨0x8030, 0x8033, 0x04, 0x04, "VLAN", .u16, .rw, 57344, .any⟩,
  ⟨0x8030, 0x8033, 0x05, 0x05, "PERIOD", .u8, .rw, 5, (.spans [(1, 100)])⟩,
  ⟨0x8030, 0x8033, 0x20, 0x20, "SEQ", .u32, .ro, 0, .any⟩,
  ⟨0x8040, 0x8047, 0x01, 0x01, "ENABLE", .bool, .rw, 0, (.spans [(0, 1)])⟩,
  ⟨0x8040, 0x8047, 0x02, 0x02, "SAFE_ID", .u16, .rw, 0, (.spans [(0, 65535)])⟩,
  ⟨0x8040, 0x8047, 0x03, 0x03, "MAC", .domain, .rw, 0, (.bytes 6 6)⟩,
  ⟨0x8040, 0x8047, 0x04, 0x04, "WATCHDOG", .u8, .rw, 20, (.spans [(2, 200)])⟩,
  ⟨0x8040, 0x8047, 0x05, 0x05, "SIGNAL_MASK", .u16, .rw, 0, .any⟩]

/-- Entries 0x80xx (R407, R408). -/
def rows80_1 : List Row := [  ⟨0x8040, 0x8047, 0x20, 0x20, "STATE", .u8, .ro, 0, .any⟩,
  ⟨0x8040, 0x8047, 0x21, 0x21, "SIGNALS", .u16, .ro, 0, .any⟩,
  ⟨0x8040, 0x8047, 0x22, 0x22, "PAIRS", .u32, .ro, 0, .any⟩,
  ⟨0x8040, 0x8047, 0x23, 0x23, "SINGLES", .u32, .ro, 0, .any⟩,
  ⟨0x8040, 0x8047, 0x24, 0x24, "STALE_COPIES", .u32, .ro, 0, .any⟩,
  ⟨0x8040, 0x8047, 0x25, 0x25, "CRC_ERRORS", .u32, .ro, 0, .any⟩,
  ⟨0x8040, 0x8047, 0x26, 0x26, "MISMATCHES", .u32, .ro, 0, .any⟩,
  ⟨0x8060, 0x8060, 0x01, 0x01, "UPDATE_CMD", .u8, .wo, 0, (.spans [(1, 1), (2, 2)])⟩,
  ⟨0x8060, 0x8060, 0x02, 0x02, "UPDATE_STATE", .u8, .ro, 0, .any⟩,
  ⟨0x8060, 0x8060, 0x03, 0x03, "PAUSE_TIME", .u32, .ro, 0, .any⟩,
  ⟨0x8060, 0x8060, 0x04, 0x04, "FW_BANK", .u8, .ro, 0, .any⟩]

/-- Entries 0x80xx. -/
def rows80 : List Row := rows80_0 ++ rows80_1

/-- Entries 0x90xx (R458). -/
def rows90 : List Row := [  ⟨0x9000, 0x9003, 0x01, 0x01, "ENABLE", .bool, .rwo, 0, (.spans [(0, 1)])⟩,
  ⟨0x9000, 0x9003, 0x02, 0x02, "BUF_BASE", .u8, .rwo, 0, (.spans [(0, 127)])⟩,
  ⟨0x9000, 0x9003, 0x03, 0x03, "BUF_SIZE", .u8, .rwo, 32, (.spans [(1, 128)])⟩,
  ⟨0x9000, 0x9003, 0x04, 0x04, "CLOCK_KIND", .u8, .rwo, 0, (.spans [(0, 2)])⟩,
  ⟨0x9000, 0x9003, 0x05, 0x05, "CLOCK_SEL", .u32, .rwo, 0, .any⟩,
  ⟨0x9000, 0x9003, 0x06, 0x06, "AVG", .u16, .rwo, 1, (.spans [(1, 256)])⟩,
  ⟨0x9000, 0x9003, 0x07, 0x07, "PRE_FRAMES", .u32, .rwo, 0, .any⟩,
  ⟨0x9000, 0x9003, 0x08, 0x08, "TRIG_KIND", .u8, .rwo, 0, (.spans [(0, 3)])⟩,
  ⟨0x9000, 0x9003, 0x09, 0x09, "TRIG_REF", .u16, .rwo, 0, .any⟩,
  ⟨0x9000, 0x9003, 0x0A, 0x0A, "TRIG_EDGE", .u8, .rwo, 1, (.spans [(1, 1), (2, 2), (3, 3)])⟩,
  ⟨0x9000, 0x9003, 0x0B, 0x0B, "TRIG_LEVEL", .i32, .rwo, 0, .any⟩,
  ⟨0x9000, 0x9003, 0x0C, 0x0C, "TRIG_HYST", .u32, .rwo, 0, (.spans [(0, 2147483647)])⟩,
  ⟨0x9000, 0x9003, 0x0D, 0x0D, "LINK", .bool, .rwo, 0, (.spans [(0, 1)])⟩,
  ⟨0x9000, 0x9003, 0x0E, 0x0E, "ARRAY_LINK", .bool, .rwo, 0, (.spans [(0, 1)])⟩,
  ⟨0x9000, 0x9003, 0x0F, 0x0F, "STREAM", .u8, .rwo, 0, (.spans [(0, 2)])⟩,
  ⟨0x9020, 0x9023, 0x01, 0x01, "STATE", .u8, .ro, 0, .any⟩,
  ⟨0x9020, 0x9023, 0x02, 0x02, "COMMAND", .u8, .wo, 0, (.spans [(1, 3)])⟩,
  ⟨0x9020, 0x9023, 0x03, 0x03, "ARM_AT", .st64, .rw, 0, .any⟩,
  ⟨0x9020, 0x9023, 0x04, 0x04, "LENGTH", .u32, .ro, 0, .any⟩,
  ⟨0x9020, 0x9023, 0x05, 0x05, "FRAME_BYTES", .u16, .ro, 0, .any⟩,
  ⟨0x9020, 0x9023, 0x06, 0x06, "FRAMES_WRITTEN", .u32, .ro, 0, .any⟩,
  ⟨0x9020, 0x9023, 0x07, 0x07, "IGNORED", .u32, .ro, 0, .any⟩,
  ⟨0x9020, 0x9023, 0x08, 0x08, "RECORDS", .u32, .ro, 0, .any⟩,
  ⟨0x9020, 0x9023, 0x09, 0x09, "HEADER", .domain, .ro, 0, (.bytes 64 64)⟩,
  ⟨0x9020, 0x9023, 0x0A, 0x0A, "READ_FRAME", .u32, .rw, 0, .any⟩,
  ⟨0x9020, 0x9023, 0x0B, 0x0B, "DATA", .domain, .ro, 0, (.bytes 0 4096)⟩,
  ⟨0x9020, 0x9023, 0x0C, 0x0C, "FLAGS", .u8, .w1c, 0, .any⟩,
  ⟨0x9020, 0x9023, 0x0D, 0x0D, "STREAM_LOST", .u32, .ro, 0, .any⟩]

/-- Entries 0xF1xx (R683). -/
def rowsF1 : List Row := [  ⟨0xF100, 0xF100, 0x01, 0x01, "EQUIV_HOURS", .u32, .ro, 0, .any⟩,
  ⟨0xF100, 0xF100, 0x02, 0x02, "LIFE_USED", .u16, .ro, 0, .any⟩,
  ⟨0xF100, 0xF100, 0x03, 0x03, "POWERED_HOURS", .u32, .ro, 0, .any⟩,
  ⟨0xF100, 0xF100, 0x04, 0x04, "MARGINS", .domain, .ro, 0, (.bytes 10 10)⟩,
  ⟨0xF100, 0xF100, 0x05, 0x05, "ALERT_LEVEL", .u16, .rw, 8000, (.spans [(1000, 10000)])⟩,
  ⟨0xF100, 0xF100, 0x06, 0x06, "LAST_MEASURE", .st64, .ro, 0, .any⟩,
  ⟨0xF100, 0xF100, 0x07, 0x07, "MEASUREMENTS", .u32, .ro, 0, .any⟩,
  ⟨0xF100, 0xF100, 0x08, 0x08, "LEDGER_BITS", .u16, .ro, 0, .any⟩,
  ⟨0xF100, 0xF100, 0x09, 0x09, "FLAGS", .u8, .w1c, 0, .any⟩,
  ⟨0xF101, 0xF101, 0x01, 0x01, "SENSOR_TJ", .domain, .ro, 0, (.bytes 16 16)⟩,
  ⟨0xF101, 0xF101, 0x02, 0x02, "SENSOR_OK", .u8, .ro, 255, .any⟩]

/-- The rows whose index has this high byte. -/
def rowsAt (hi : Nat) : List Row :=
  if hi = 0x00 then rows00 else
  if hi = 0x10 then rows10 else
  if hi = 0x11 then rows11 else
  if hi = 0x12 then rows12 else
  if hi = 0x13 then rows13 else
  if hi = 0x14 then rows14 else
  if hi = 0x15 then rows15 else
  if hi = 0x16 then rows16 else
  if hi = 0x17 then rows17 else
  if hi = 0x18 then rows18 else
  if hi = 0x19 then rows19 else
  if hi = 0x1A then rows1A else
  if hi = 0x20 then rows20 else
  if hi = 0x21 then rows21 else
  if hi = 0x30 then rows30 else
  if hi = 0x40 then rows40 else
  if hi = 0x50 then rows50 else
  if hi = 0x60 then rows60 else
  if hi = 0x61 then rows61 else
  if hi = 0x62 then rows62 else
  if hi = 0x63 then rows63 else
  if hi = 0x70 then rows70 else
  if hi = 0x71 then rows71 else
  if hi = 0x72 then rows72 else
  if hi = 0x73 then rows73 else
  if hi = 0x80 then rows80 else
  if hi = 0x90 then rows90 else
  if hi = 0xF1 then rowsF1 else
  []

/-- Parameters of SUM (R135). -/
def params_SUM : List Row := [
  ⟨0x3000, 0x30EF, 0x10, 0x10, "NIN", .pu32, .rwo, 33554432, (.whole (1) (8))⟩,
  ⟨0x3000, 0x30EF, 0x11, 0x18, "SIGN0", .pu32, .rwo, 16777216, .signOnly⟩]

/-- Parameters of GAIN (R135). -/
def params_GAIN : List Row := [
  ⟨0x3000, 0x30EF, 0x10, 0x10, "K", .pu32, .rwo, 16777216, .any⟩,
  ⟨0x3000, 0x30EF, 0x11, 0x11, "OFFSET", .pu32, .rwo, 0, .any⟩]

/-- Parameters of MUL (R135). -/
def params_MUL : List Row := [
  ⟨0x3000, 0x30EF, 0x10, 0x10, "K", .pu32, .rwo, 16777216, .any⟩]

/-- Parameters of DIV (R135). -/
def params_DIV : List Row := [
  ⟨0x3000, 0x30EF, 0x10, 0x10, "MIN_DIV", .pu32, .rwo, 0, (.spans [(0, 2130706432)])⟩]

/-- Parameters of LIMIT (R135). -/
def params_LIMIT : List Row := [
  ⟨0x3000, 0x30EF, 0x10, 0x10, "HI", .pu32, .rwo, 16777216, .any⟩,
  ⟨0x3000, 0x30EF, 0x11, 0x11, "LO", .pu32, .rwo, (-16777216), .any⟩,
  ⟨0x3000, 0x30EF, 0x12, 0x12, "SRC", .pu32, .rwo, 0, (.whole (0) (1))⟩]

/-- Parameters of RATE (R135). -/
def params_RATE : List Row := [
  ⟨0x3000, 0x30EF, 0x10, 0x10, "RISE", .pu32, .rwo, 16777216, (.spans [(0, 2130706432)])⟩,
  ⟨0x3000, 0x30EF, 0x11, 0x11, "FALL", .pu32, .rwo, 16777216, (.spans [(0, 2130706432)])⟩,
  ⟨0x3000, 0x30EF, 0x12, 0x12, "SH", .pu32, .rwo, 0, (.whole (0) (16))⟩,
  ⟨0x3000, 0x30EF, 0x13, 0x13, "INIT", .pu32, .rwo, 0, (.whole (0) (1))⟩]

/-- Parameters of DELAY (R135). -/
def params_DELAY : List Row := [
  ⟨0x3000, 0x30EF, 0x10, 0x10, "N", .pu32, .rwo, 16777216, (.whole (1) (8))⟩]

/-- Parameters of GATE (R135). -/
def params_GATE : List Row := [
  ⟨0x3000, 0x30EF, 0x10, 0x10, "ON_LEVEL", .pu32, .rwo, 8388608, .any⟩,
  ⟨0x3000, 0x30EF, 0x11, 0x11, "OFF_LEVEL", .pu32, .rwo, 8388608, .any⟩]

/-- Parameters of LPF1 (R141). -/
def params_LPF1 : List Row := [
  ⟨0x3000, 0x30EF, 0x10, 0x10, "A", .pu32, .rwo, 16777216, (.spans [(0, 16777216)])⟩,
  ⟨0x3000, 0x30EF, 0x11, 0x11, "SH", .pu32, .rwo, 0, (.whole (0) (16))⟩]

/-- Parameters of BIQUAD (R141). -/
def params_BIQUAD : List Row := [
  ⟨0x3000, 0x30EF, 0x10, 0x10, "B0", .pu32, .rwo, 16777216, .any⟩,
  ⟨0x3000, 0x30EF, 0x11, 0x11, "B1", .pu32, .rwo, 0, .any⟩,
  ⟨0x3000, 0x30EF, 0x12, 0x12, "B2", .pu32, .rwo, 0, .any⟩,
  ⟨0x3000, 0x30EF, 0x13, 0x13, "A1", .pu32, .rwo, 0, .any⟩,
  ⟨0x3000, 0x30EF, 0x14, 0x14, "A2", .pu32, .rwo, 0, .any⟩]

/-- Parameters of LEADLAG (R141). -/
def params_LEADLAG : List Row := [
  ⟨0x3000, 0x30EF, 0x10, 0x10, "B0", .pu32, .rwo, 16777216, .any⟩,
  ⟨0x3000, 0x30EF, 0x11, 0x11, "B1", .pu32, .rwo, 0, .any⟩,
  ⟨0x3000, 0x30EF, 0x12, 0x12, "A1", .pu32, .rwo, 0, .any⟩]

/-- Parameters of PI (R141). -/
def params_PI : List Row := [
  ⟨0x3000, 0x30EF, 0x10, 0x10, "KP", .pu32, .rwo, 0, .any⟩,
  ⟨0x3000, 0x30EF, 0x11, 0x11, "KI", .pu32, .rwo, 0, .any⟩,
  ⟨0x3000, 0x30EF, 0x12, 0x12, "KI_SH", .pu32, .rwo, 0, (.whole (0) (16))⟩,
  ⟨0x3000, 0x30EF, 0x13, 0x13, "KT", .pu32, .rwo, 0, (.spans [(0, 16777216)])⟩,
  ⟨0x3000, 0x30EF, 0x14, 0x14, "U_MAX", .pu32, .rwo, 16777216, .any⟩,
  ⟨0x3000, 0x30EF, 0x15, 0x15, "U_MIN", .pu32, .rwo, (-16777216), .any⟩,
  ⟨0x3000, 0x30EF, 0x16, 0x16, "FF", .pu32, .rwo, 0, (.whole (0) (1))⟩]

/-- Parameters of PR (R141). -/
def params_PR : List Row := [
  ⟨0x3000, 0x30EF, 0x10, 0x10, "KP", .pu32, .rwo, 0, .any⟩,
  ⟨0x3000, 0x30EF, 0x11, 0x11, "G", .pu32, .rwo, 0, .any⟩,
  ⟨0x3000, 0x30EF, 0x12, 0x12, "G_SH", .pu32, .rwo, 0, (.whole (0) (16))⟩,
  ⟨0x3000, 0x30EF, 0x13, 0x13, "A1", .pu32, .rwo, 0, (.spans [(-33554432, 33554432)])⟩,
  ⟨0x3000, 0x30EF, 0x14, 0x14, "A2", .pu32, .rwo, 0, (.spans [(0, 16777216)])⟩,
  ⟨0x3000, 0x30EF, 0x15, 0x15, "Y_MAX", .pu32, .rwo, 16777216, (.spans [(0, 2130706432)])⟩]

/-- Parameters of AB_ABC (R148). -/
def params_AB_ABC : List Row := [
  ⟨0x3000, 0x30EF, 0x10, 0x10, "ZS", .pu32, .rwo, 0, (.whole (0) (1))⟩]

/-- Parameters of SINCOS (R148). -/
def params_SINCOS : List Row := [
  ⟨0x3000, 0x30EF, 0x10, 0x10, "OFFSET", .ang32, .rwo, 0, .any⟩]

/-- Parameters of NCO (R148). -/
def params_NCO : List Row := [
  ⟨0x3000, 0x30EF, 0x10, 0x10, "STEP", .ang32, .rwo, 0, .any⟩,
  ⟨0x3000, 0x30EF, 0x11, 0x11, "ADVANCE", .ang32, .rwo, 0, .any⟩,
  ⟨0x3000, 0x30EF, 0x12, 0x12, "SRC", .pu32, .rwo, 0, (.whole (0) (1))⟩]

/-- Parameters of MAG (R148). -/
def params_MAG : List Row := [
  ⟨0x3000, 0x30EF, 0x10, 0x10, "N3", .pu32, .rwo, 0, (.whole (0) (1))⟩]

/-- Parameters of SEQ (R148). -/
def params_SEQ : List Row := [
  ⟨0x3000, 0x30EF, 0x10, 0x10, "A", .pu32, .rwo, 16777216, (.spans [(0, 16777216)])⟩,
  ⟨0x3000, 0x30EF, 0x11, 0x11, "SH", .pu32, .rwo, 0, (.whole (0) (16))⟩]

/-- Parameters of SWING (R155). -/
def params_SWING : List Row := [
  ⟨0x3000, 0x30EF, 0x10, 0x10, "KH", .pu32, .rwo, 0, .any⟩,
  ⟨0x3000, 0x30EF, 0x11, 0x11, "KH_SH", .pu32, .rwo, 0, (.whole (0) (16))⟩,
  ⟨0x3000, 0x30EF, 0x12, 0x12, "D", .pu32, .rwo, 0, (.spans [(0, 2130706432)])⟩,
  ⟨0x3000, 0x30EF, 0x13, 0x13, "KDR", .pu32, .rwo, 0, (.spans [(0, 2130706432)])⟩,
  ⟨0x3000, 0x30EF, 0x14, 0x14, "W0", .pu32, .rwo, 16777216, .any⟩,
  ⟨0x3000, 0x30EF, 0x15, 0x15, "F_LIM", .pu32, .rwo, 1677722, (.spans [(0, 16777216)])⟩,
  ⟨0x3000, 0x30EF, 0x16, 0x16, "STEP", .ang32, .rwo, 0, .any⟩,
  ⟨0x3000, 0x30EF, 0x17, 0x17, "GUARD", .ang32, .rwo, 715827883, (.spans [(0, 715827883)])⟩,
  ⟨0x3000, 0x30EF, 0x18, 0x18, "GUARD_MODE", .pu32, .rwo, 16777216, (.whole (0) (2))⟩]

/-- Parameters of QDROOP (R155). -/
def params_QDROOP : List Row := [
  ⟨0x3000, 0x30EF, 0x10, 0x10, "MQ", .pu32, .rwo, 0, (.spans [(0, 3355443)])⟩,
  ⟨0x3000, 0x30EF, 0x11, 0x11, "V_MAX", .pu32, .rwo, 18454938, .any⟩,
  ⟨0x3000, 0x30EF, 0x12, 0x12, "V_MIN", .pu32, .rwo, 15099494, .any⟩]

/-- Parameters of VIMP (R155). -/
def params_VIMP : List Row := [
  ⟨0x3000, 0x30EF, 0x10, 0x10, "R", .pu32, .rwo, 0, (.spans [(0, 16777216)])⟩,
  ⟨0x3000, 0x30EF, 0x11, 0x11, "X", .pu32, .rwo, 0, (.spans [(0, 16777216)])⟩,
  ⟨0x3000, 0x30EF, 0x12, 0x12, "R_RIDE", .pu32, .rwo, 0, (.spans [(0, 16777216)])⟩,
  ⟨0x3000, 0x30EF, 0x13, 0x13, "X_RIDE", .pu32, .rwo, 0, (.spans [(0, 16777216)])⟩]

/-- Parameters of ILIM (R155). -/
def params_ILIM : List Row := [
  ⟨0x3000, 0x30EF, 0x10, 0x10, "I_MAX", .pu32, .rwo, 16777216, (.spans [(0, 2130706432)])⟩,
  ⟨0x3000, 0x30EF, 0x11, 0x11, "I_RIDE", .pu32, .rwo, 16777216, (.spans [(0, 2130706432)])⟩,
  ⟨0x3000, 0x30EF, 0x12, 0x12, "I_ENER", .pu32, .rwo, 16777216, (.spans [(0, 2130706432)])⟩,
  ⟨0x3000, 0x30EF, 0x13, 0x13, "PRIORITY", .pu32, .rwo, 0, (.whole (0) (2))⟩,
  ⟨0x3000, 0x30EF, 0x14, 0x14, "NEG", .pu32, .rwo, 0, (.whole (0) (1))⟩]

/-- Parameters of SYNC (R155). -/
def params_SYNC : List Row := [
  ⟨0x3000, 0x30EF, 0x10, 0x10, "DV", .pu32, .rwo, 838861, .any⟩,
  ⟨0x3000, 0x30EF, 0x11, 0x11, "DF", .pu32, .rwo, 33554, .any⟩,
  ⟨0x3000, 0x30EF, 0x12, 0x12, "DTH", .ang32, .rwo, 59652324, .any⟩,
  ⟨0x3000, 0x30EF, 0x13, 0x13, "DWELL", .pu32, .rwo, 1677722, (.spans [(0, 2130706432)])⟩]

/-- Parameters of PROBE (R155). -/
def params_PROBE : List Row := [
  ⟨0x3000, 0x30EF, 0x10, 0x10, "ORDER", .pu32, .rwo, 218103808, (.whole (11) (17))⟩,
  ⟨0x3000, 0x30EF, 0x11, 0x11, "AMP", .pu32, .rwo, 83886, (.spans [(16777, 167772)])⟩,
  ⟨0x3000, 0x30EF, 0x12, 0x12, "CHIP", .pu32, .rwo, 16777216, (.whole (1) (100))⟩]

/-- Parameters of HEDGE (R158). -/
def params_HEDGE : List Row := [
  ⟨0x3000, 0x30EF, 0x10, 0x10, "NIN", .pu32, .rwo, 33554432, (.whole (1) (8))⟩,
  ⟨0x3000, 0x30EF, 0x11, 0x11, "SENSE", .pu32, .rwo, 0, (.whole (0) (1))⟩]

/-- Parameters of FERR (R158). -/
def params_FERR : List Row := [
  ⟨0x3000, 0x30EF, 0x10, 0x10, "LIMIT", .pu32, .rwo, 1677722, (.spans [(0, 2130706432)])⟩,
  ⟨0x3000, 0x30EF, 0x11, 0x11, "TIME", .pu32, .rwo, 167772, (.spans [(0, 167772160)])⟩,
  ⟨0x3000, 0x30EF, 0x12, 0x12, "ACTION", .pu32, .rwo, 0, (.whole (0) (3))⟩]

/-- Parameters of MOD2L (R162). -/
def params_MOD2L : List Row := [
  ⟨0x3000, 0x30EF, 0x10, 0x10, "TARGET", .pu32, .rwo, 0, (.whole (0) (1))⟩,
  ⟨0x3000, 0x30EF, 0x11, 0x11, "LANE", .pu32, .rwo, 0, (.whole (0) (7))⟩,
  ⟨0x3000, 0x30EF, 0x12, 0x12, "PAIR", .pu32, .rwo, 0, (.whole (0) (23))⟩]

/-- Parameters of NLC (R162). -/
def params_NLC : List Row := [
  ⟨0x3000, 0x30EF, 0x10, 0x10, "ARM", .pu32, .rwo, 0, (.whole (0) (5))⟩,
  ⟨0x3000, 0x30EF, 0x11, 0x11, "N_SM", .pu32, .rwo, 1048576, (.step (65536) (65536) (16777216))⟩]

/-- Parameters of TAP (R162). -/
def params_TAP : List Row := [
  ⟨0x3000, 0x30EF, 0x10, 0x10, "DEST", .pu32, .rwo, 33554432, (.whole (1) (2))⟩,
  ⟨0x3000, 0x30EF, 0x11, 0x11, "NIN", .pu32, .rwo, 16777216, (.whole (1) (8))⟩,
  ⟨0x3000, 0x30EF, 0x12, 0x12, "BASE", .pu32, .rwo, 0, (.whole (0) (63))⟩,
  ⟨0x3000, 0x30EF, 0x13, 0x13, "DIV", .pu32, .rwo, 16777216, (.whole (1) (100))⟩]

/-- The parameter rows of a block type (R117, R122). -/
def paramRows (type : Nat) : List Row :=
  match type with
  | 1 => params_SUM | 2 => params_GAIN | 3 => params_MUL | 4 => params_DIV | 5 => params_LIMIT | 6 => params_RATE
  | 7 => params_LPF1 | 8 => params_BIQUAD | 9 => params_LEADLAG | 10 => params_PI | 11 => params_PR
  | 12 => params_DELAY | 16 => params_AB_ABC | 17 => params_SINCOS | 18 => params_NCO | 19 => params_MAG
  | 20 => params_SEQ | 21 => params_SWING | 22 => params_QDROOP | 23 => params_VIMP | 24 => params_ILIM
  | 25 => params_HEDGE | 26 => params_FERR | 27 => params_SYNC | 28 => params_MOD2L | 29 => params_NLC
  | 30 => params_PROBE | 31 => params_TAP | 32 => params_GATE
  | _ => []

/-- The key of sub-index s of entry i. -/
def key (i s : Nat) : Nat := i * 256 + s

/-- The index whose rows describe entry i: the entries of the sixteen engines share one layout (R111), and so do the
remote pairs and nodes of the eight lanes (R337, R339). An index between two lanes' ranges has no rows. -/
def rowIndex (i : Nat) : Nat :=
  if 0x3000 ≤ i ∧ i < 0x4000 then 0x3000 + i % 256
  else if 0x6100 ≤ i ∧ i < 0x6300 then
    (if (i % 0x20) < 24 then (i / 256) * 256 else 0x6FFF)
  else i

/-- The row of entry i, sub-index s of its active part. -/
def find (i s : Nat) : Option Row :=
  let j := rowIndex i
  (rowsAt (j / 256)).find? fun r => decide (r.iLo ≤ j ∧ j ≤ r.iHi ∧ r.sLo ≤ s ∧ s ≤ r.sHi)

/-- Entry i has some row (R486). -/
def hasEntry (i : Nat) : Bool :=
  let j := rowIndex i
  (rowsAt (j / 256)).any fun r => decide (r.iLo ≤ j ∧ j ≤ r.iHi)

/-- The highest active sub-index of entry i (R487). -/
def highest (i : Nat) : Nat :=
  let j := rowIndex i
  (rowsAt (j / 256)).foldl (fun m r => if r.iLo ≤ j ∧ j ≤ r.iHi then max m r.sHi else m) 0

/-- The row of a parameter of a block of this type (R122). -/
def findParam (type s : Nat) : Option Row :=
  (paramRows type).find? fun r => decide (r.sLo ≤ s ∧ s ≤ r.sHi)

/-- Default sizes of the rings (R518). -/
def ringEntries (q : Nat) : Nat :=
  match q with
  | 2 | 4 | 17 | 18 | 24 | 26 => 256
  | 3 | 11 => 1024
  | 6 | 13 | 15 | 21 | 22 | 31 => 512
  | 10 | 12 | 20 => 32
  | 19 | 23 => 16
  | _ => 64

/-- Default classes of the rings (R518): 0 hard, 1 firm, 2 soft. The user rings' CLASS has no default in the spec
(log entry 12: firm). -/
def ringClass (q : Nat) : Nat :=
  match q with
  | 6 | 8 | 9 | 10 | 15 | 17 | 18 | 24 => 0
  | 11 | 13 | 19 | 21 | 22 | 23 | 25 | 26 | 31 => 2
  | _ => 1

/-- DRAIN_BOUND of a class in us (R526). -/
def drainBound (cls : Nat) : Nat := match cls with | 0 => 20 | 1 => 1000 | _ => 100000

/-- Hardware consumes these rings (R518). -/
def hwConsumer (q : Nat) : Bool := [0, 5, 10, 12, 14, 16, 18, 20, 21, 22].contains q

/-- BASE of a ring at the default sizes: the rings lie in ascending order in queue memory (R513, R517). -/
def ringBase (q : Nat) : Nat := (List.range q).foldl (fun a r => a + 64 * ringEntries r) 0x48000000

/-- POWER of a task in mW; user tasks declare theirs (R583, R590). -/
def taskPower (t : Nat) : Int := [50, 150, 300, 200, 100, 100].getD t 0

/-- A PU32 of a whole number. -/
def wholePU (n : Int) : Int := n * 16777216

/-- The bytes of one curve point (R231). -/
def curvePoint (p : Nat × Int) : Bytes := toLe 4 p.1 ++ toLe 4 p.2

/-- The default curves of R232. -/
def defaultCurve (ov : Bool) : Bytes :=
  if ov then ([(0, 21810381), (100000, 21810381), (100000, 20132659), (1000000, 20132659), (1000000, 19293798)] :
      List (Nat × Int)).flatMap curvePoint
  else ([(0, 0), (150000, 0), (3000000, 14260634)] : List (Nat × Int)).flatMap curvePoint

/-- The default of a byte block: zeros of its fixed length, or what the row says (R78, R113, R242, R484, R611). -/
def bytesDefault (i s : Nat) (r : Row) : Bytes :=
  if 0x2000 ≤ i ∧ i ≤ 0x202F ∧ s = 0x06 then toLe 4 4194304
  else if 0x3000 ≤ i ∧ i < 0x4000 ∧ s = 0x04 then toLe 2 0x00FF
  else if i = 0x4011 then defaultCurve (s == 2)
  else if 0x1510 ≤ i ∧ i ≤ 0x151F ∧ s = 0x09 then List.replicate 16 0xFF#8
  else if i = 0x1200 ∧ s = 0x04 then
    List.replicate 8 0#8 ++ List.replicate 4 0xFF#8 ++ [0x01#8, 0#8, 0x01#8] ++ List.replicate 241 0#8
  else if i = 0x1000 ∧ s = 3 then [0x58#8, 0x56#8, 0x55#8, 0x2D#8, 0x36#8, 0x34#8, 0x31#8, 0x32#8]
  else match r.rng with
    | .bytes lo hi => if lo = hi then List.replicate lo 0#8 else []
    | .items size lo _ => List.replicate (size * lo) 0#8
    | _ => []

/-- The default of entry i, sub-index s (its row's, or the rules that give it by ring or lane). -/
def rowDefault (i s : Nat) (r : Row) : DVal :=
  match r.ty with
  | .string | .domain => .bytes (bytesDefault i s r)
  | _ =>
    if 0x1A20 ≤ i ∧ i ≤ 0x1A3F then
      let q := i - 0x1A20
      .num (match s with
        | 0x01 => (ringEntries q : Int)
        | 0x02 => ringClass q
        | 0x03 => drainBound (ringClass q)
        | 0x04 => if hwConsumer q then 3 else 0
        | 0x25 => ringBase q
        | _ => r.dflt)
    else if 0x1608 ≤ i ∧ i ≤ 0x160D ∧ s = 0x06 then .num 1
    else if i = 0x1220 ∧ 0x03 ≤ s ∧ s ≤ 0x06 then
      .num (match s with | 3 => 100 | 4 => 10 | 5 => 2 | _ => 1)
    else if 0x5000 ≤ i ∧ i ≤ 0x500B ∧ s = 0x20 then .num 10000
    else if 0x1310 ≤ i ∧ i ≤ 0x1319 ∧ s = 0x20 then .num (taskPower (i - 0x1310))
    else .num r.dflt

/-- A block list as it is stored: bits [14:8] of every word zero, and 0x00FF for a word that ends it (R95). -/
def storedList : Bytes → Bytes
  | a :: b :: r => a :: (if a = 0xFF#8 then 0#8 else b &&& 0x80#8) :: storedList r
  | b => b

/-- GOOSE members as they are stored: the reserved byte of each is zero (R485). -/
def storedMembers : Bytes → Bytes
  | a :: b :: c :: _ :: r => a :: b :: c :: 0#8 :: storedMembers r
  | b => b

/-- What a bed keeps of a value written to it: the device ignores what a reserved field is given, which reads as zero
(R4, R95, R301, R442, R485; QP_ENABLE names two bits alone, log entry 109). -/
def stored (i s : Nat) (v : DVal) : DVal :=
  match v with
  | .num n =>
    if 0x2000 ≤ i ∧ i ≤ 0x202F ∧ s = 0x0E then .num (n % 4)
    else if 0x5000 ≤ i ∧ i ≤ 0x500B ∧ s = 0x0F then .num 0
    else if 0x9010 ≤ i ∧ i ≤ 0x9013 then .num ((n.toNat &&& 0x00F3FFFF : Nat) : Int)
    else v
  | .bytes b =>
    if 0x3000 ≤ i ∧ i < 0x4000 ∧ i % 0x100 = 0xFF ∧ s = 0x04 then .bytes (storedList b)
    else if 0x1540 ≤ i ∧ i ≤ 0x154F ∧ s = 0x09 then .bytes (storedMembers b)
    else v

/-- The default of a key; none for a block parameter, whose default is its type's (R122), and for a key of no row. -/
def default? (k : Nat) : Option DVal :=
  let i := k / 256
  let s := k % 256
  (find i s).map (rowDefault i s)

end Dict

end Sys2Proof.Machine
end

