-- ==== Sys2Proof/Machine/Ops.lean ====
section
/-! DEFINITION. The named operations over the state: stores, counters and sticky flags (R5, R12), hardware rings (R517 to
R520), events (R41), free values, requests and their checks (R29 to R33, R486 to R491). -/

namespace Sys2Proof.Machine

/-! ## Fixed arrays -/

/-- Element i of a fixed array, or d beyond its end. -/
def vget {α : Type} {n : Nat} (v : Vector α n) (i : Nat) (d : α) : α := if h : i < n then v[i] else d

/-- A fixed array with element i changed; unchanged beyond its end. -/
def vmod {α : Type} {n : Nat} (v : Vector α n) (i : Nat) (f : α → α) : Vector α n :=
  if h : i < n then v.set i (f v[i]) h else v

/-- Every element of a fixed array changed, with its number. -/
def vmapi {α : Type} {n : Nat} (v : Vector α n) (f : Nat → α → α) : Vector α n := v.mapIdx f

/-! ## Sparse lists with rising keys -/

/-- The value at a key. -/
def look {α : Type} (k : Nat) : List (Nat × α) → Option α
  | [] => none
  | (j, v) :: r => if j = k then some v else look k r

/-- The list with a key's value set. -/
def ins {α : Type} (k : Nat) (v : α) : List (Nat × α) → List (Nat × α)
  | [] => [(k, v)]
  | (j, w) :: r => if j = k then (k, v) :: r else if k < j then (k, v) :: (j, w) :: r else (j, w) :: ins k v r

/-- The list without a key. -/
def del {α : Type} (k : Nat) (l : List (Nat × α)) : List (Nat × α) := l.filter fun e => decide (e.1 ≠ k)

/-- A sparse word memory: the word at an address, 0 where none is listed. -/
def peek (a : Nat) (m : List (Nat × BitVec 32)) : BitVec 32 := (look a m).getD 0#32

/-- A sparse word memory with one word written; a zero word is not listed. -/
def poke (a : Nat) (w : BitVec 32) (m : List (Nat × BitVec 32)) : List (Nat × BitVec 32) :=
  if w = 0#32 then del a m else ins a w m

/-- The number at a key, 0 where none is listed. -/
def peekN (a : Nat) (m : List (Nat × Nat)) : Nat := (look a m).getD 0

/-! ## The dictionary's stores -/

/-- The value a store holds at a key: the one listed, else the dictionary's default. -/
def storeGet (st : Store) (k : Nat) : DVal := (look k st).getD ((Dict.default? k).getD (.num 0))

/-- A store with a key's value set, in canonical form: a default is not listed. -/
def storePut (st : Store) (k : Nat) (v : DVal) : Store :=
  if Dict.default? k = some v then del k st else ins k v st

/-- A number held as a dictionary value. -/
def numOf : DVal → Int
  | .num n => n
  | .bytes _ => 0

/-- The bytes of a dictionary value. -/
def bytesOf : DVal → Bytes
  | .num _ => []
  | .bytes b => b

namespace State

/-! ## One part changed -/

def modRunner (s : State) (g : RunnerUnit → RunnerUnit) : State := { s with runner := g s.runner }
def modGf (s : State) (g : GridForming → GridForming) : State := { s with gf := g s.gf }
def modCtl (s : State) (g : Ctl → Ctl) : State := { s with ctl := g s.ctl }
def modRst (s : State) (g : ResetUnit → ResetUnit) : State := { s with rst := g s.rst }
def modRide (s : State) (g : RideState → RideState) : State := { s with ride := g s.ride }
def modRoot (s : State) (g : RootUnit → RootUnit) : State := { s with root := g s.root }
def modShears (s : State) (g : Shears → Shears) : State := { s with shears := g s.shears }
def modSounder (s : State) (g : Sounder → Sounder) : State := { s with sounder := g s.sounder }
def modTime (s : State) (g : TimeUnit → TimeUnit) : State := { s with time := g s.time }
def modGraft (s : State) (f : GraftUnit → GraftUnit) : State := { s with graft := f s.graft }
def modCoreReq (s : State) (g : Session → Session) : State := { s with coreReq := g s.coreReq }
def modPower (s : State) (g : PowerUnit → PowerUnit) : State := { s with power := g s.power }
def modRing (s : State) (q : Nat) (g : Ring → Ring) : State := { s with rings := vmod s.rings q g }
def modWin (s : State) (c : Nat) (g : WinStatus → WinStatus) : State := { s with win := vmod s.win c g }
def setBeds (s : State) (active shadow : Store) : State := { s with active := active, shadow := shadow }
def setActive (s : State) (bed : Store) : State := { s with active := bed }

/-- f under another bed than the active one, which is back in force afterwards (R106). -/
def withBed (s : State) (bed : Option Store) (f : State → State) : State :=
  match bed with
  | none => f s
  | some b => (f (s.setActive b)).setActive s.active

def setShadow (s : State) (bed : Store) : State := { s with shadow := bed }
def setFlt (s : State) (l : List Nat) : State := { s with fltActive := l }
def modPrior (s : State) (g : Prior → Prior) : State := { s with prior := g s.prior }
def setShared (s : State) (l : List (Nat × BitVec 32 × ST64)) : State := { s with shared := l }
def setEventSeq (s : State) (n : BitVec 32) : State := { s with eventSeq := n }
def setSent (s : State) (l : List Sent) : State := { s with sent := l }
def clearPwm (s : State) : State := { s with pwm := [] }
def skipDraws (s : State) (n : Nat) : State := { s with draws := s.draws + n }

/-- A number of an entry outside the beds, or an RO or W1C value. -/
def reg (s : State) (i k : Nat) : Int := numOf (storeGet s.regs (Dict.key i k))

/-- The same as a natural number. -/
def regN (s : State) (i k : Nat) : Nat := (s.reg i k).toNat

/-- The byte block of such an entry. -/
def regB (s : State) (i k : Nat) : Bytes := bytesOf (storeGet s.regs (Dict.key i k))

/-- A time held by such an entry. -/
def regT (s : State) (i k : Nat) : ST64 := BitVec.ofInt 64 (s.reg i k)

/-- A number of the active bed. -/
def cfg (s : State) (i k : Nat) : Int := numOf (storeGet s.active (Dict.key i k))

/-- The same as a natural number. -/
def cfgN (s : State) (i k : Nat) : Nat := (s.cfg i k).toNat

/-- A byte block of the active bed. -/
def cfgB (s : State) (i k : Nat) : Bytes := bytesOf (storeGet s.active (Dict.key i k))

/-- Set an entry outside the beds. -/
def put (s : State) (i k : Nat) (v : Int) : State := { s with regs := storePut s.regs (Dict.key i k) (.num v) }

/-- Set a byte block outside the beds. -/
def putB (s : State) (i k : Nat) (b : Bytes) : State := { s with regs := storePut s.regs (Dict.key i k) (.bytes b) }

/-- Set a time outside the beds. -/
def putT (s : State) (i k : Nat) (t : ST64) : State := s.put i k (t.toNat : Int)

/-- Set a number of the active bed (a swap, the sounder under R262, an OPEN loop's parameter). -/
def putCfg (s : State) (i k : Nat) (v : Int) : State :=
  { s with active := storePut s.active (Dict.key i k) (.num v) }

/-! ## Counters and flags -/

/-- A counter of the given width advanced by n, stopping at all ones (R12). -/
def countBy (s : State) (bits i k : Nat) (n : Int) : State := s.put i k (satU bits (s.reg i k + n))

/-- A U32 counter advanced by 1. -/
def count (s : State) (i k : Nat) : State := s.countBy 32 i k 1

/-- A sticky flag set. -/
def flag (s : State) (i k b : Nat) : State := s.put i k ((withBit (s.regN i k) b true : Nat) : Int)

/-- A U32 sequence number advanced under R11. -/
def advance (s : State) (i k : Nat) : State := s.put i k ((nextSeq (BitVec.ofInt 32 (s.reg i k))).toNat : Int)

/-! ## Free values -/

/-- The next free value (log entry 3), and the state with the draw counted. -/
def draw (s : State) : Nat × State := (Config.freeValue s.draws, { s with draws := s.draws + 1 })

/-- What the device sends to the outside; a Runner message takes the next SEQ of its source (R557). -/
def send (s : State) (m : Sent) : State :=
  { s with sent := m :: s.sent
           runner := match m with
             | .runner _ _ _ => { s.runner with seqOut := (s.runner.seqOut + 1) % 65536 }
             | _ => s.runner }

/-- A local time as the messages of the array carry it, and back: master time is local time plus ARRAY_OFFSET (R558). -/
def toArray (s : State) (t : ST64) : ST64 := later t (s.reg 0x1700 0x26)
def fromArray (s : State) (t : ST64) : ST64 := later t (-(s.reg 0x1700 0x26))

/-- The signed distance of an instant near the present from BEAT_ORIGIN; it continues across the ST64 wrap (R84). -/
def sinceOrigin (s : State) (t : ST64) : Int :=
  s.time.laps * p2 64 + s.now.toNat - (s.regT 0x1211 0x01).toNat + sdiff t s.now

/-! ## Rings -/

/-- ENTRIES of a ring (R517). -/
def ringSize (s : State) (q : Nat) : Nat := s.regN (0x1A20 + q) 0x01

/-- A ring. -/
def ring (s : State) (q : Nat) : Ring := vget s.rings q Ring.empty

/-- FILL of a ring: entries present, slots held for reserved responses included (R518, R519). -/
def ringFill (s : State) (q : Nat) : Nat := (s.ring q).entries.length + (s.ring q).reserved

/-- The core that takes device interrupts: the first core of the active pair (R512, R514). -/
def activeCore (s : State) : Nat := 2 * s.regN 0x1A00 0x01

/-- An entry appended to a ring with room: TAIL moves, FILL rises, PEAK_FILL follows, and the ring's interrupt is
raised when FILL reaches IRQ_LEVEL (R514, R519). -/
def ringAppend (s : State) (q : Nat) (e : RingEntry) : State :=
  let r := s.ring q
  let s := s.modRing q fun r => { r with entries := r.entries ++ [{ e with posted := s.now }] }
  let fill := r.entries.length + 1
  let s := if s.regN (0x1A20 + q) 0x28 < fill then s.put (0x1A20 + q) 0x28 fill else s
  if fill = s.regN (0x1A20 + q) 0x05 then s.send (.irq s.activeCore (q + 1)) else s

/-- At most once in a second (R518, R527). -/
def onceASecond (now : ST64) (last : Option ST64) : Bool :=
  match last with
  | none => true
  | some t => decide ((sec 1 : Int) ≤ sdiff now t)

/-- An event entry posted to Q3 with the next EVENT_SEQ; when Q3 is full it is dropped and counted (R518, R520). -/
def eventAt (s : State) (code : Nat) (fields : List Int) (t : ST64) : State :=
  let seq := nextSeq s.eventSeq
  let s := s.setEventSeq seq
  if s.ringFill 3 < s.ringSize 3 then
    s.ringAppend 3 ⟨code, (seq.toNat : Int) :: (t.toNat : Int) :: fields, [], s.now⟩
  else (s.count 0x1A23 0x26).flag 0x1A23 0x29 1

/-- An event of the present instant. -/
def event (s : State) (code : Nat) (fields : List Int) : State := s.eventAt code fields s.now

/-- Field k of an event is 64 bits wide: T_E of RIDE_ENTRY, the offset of TIME_STATE, the step of TIME_STEP, the swap beat
of GRAFT_RESULT (R239, R438, R633). -/
def wideField (code k : Nat) : Bool :=
  decide ((code = 0x0710 ∧ k = 3) ∨ (code = 0x0D10 ∧ k = 2) ∨ (code = 0x0D11 ∧ k = 0) ∨ (code = 0x1810 ∧ k = 2))

/-- One field behind the bytes before it: 4 bytes, or 8 bytes from the next multiple of 8 (R520). -/
def eventField (b : Bytes) (wide : Bool) (n : Int) : Bytes :=
  if wide then b ++ List.replicate ((8 - b.length % 8) % 8) 0#8 ++ toLe 8 n else b ++ toLe 4 n

/-- An event entry as it lies in Q3 (R520). -/
def eventEntry (code : Nat) (seq : Nat) (t : ST64) (fields : List Int) : Bytes :=
  let b := (List.range fields.length).foldl (fun b k => eventField b (wideField code k) (fields.getD k 0))
    (toLe 2 code ++ toLe 1 fields.length ++ [0#8] ++ toLe 4 seq ++ toLe 8 t.toNat)
  b ++ List.replicate (64 - b.length) 0#8

/-- A stall event: queued, kept as LAST_STALL, and interrupt source 47 (R514, R528, R533). -/
def stallEvent (s : State) (code : Nat) (fields : List Int) : State :=
  let s := s.event code fields
  (s.putB 0x1A60 0x06 (eventEntry code s.eventSeq.toNat s.now fields)).send (.irq s.activeCore 47)

/-- LOST advances by n entries, and QUEUE_LOST is queued at most once per ring per second (R518). A drop on Q3
itself is only counted (log entry 14). -/
def ringLost (s : State) (q n : Nat) : State :=
  let s := (s.countBy 32 (0x1A20 + q) 0x26 n).flag (0x1A20 + q) 0x29 1
  if q = 3 then s
  else if onceASecond s.now (s.ring q).lastLost then
    let s := s.modRing q fun r => { r with lastLost := some s.now }
    s.stallEvent 0x1A15 [q, s.reg (0x1A20 + q) 0x26]
  else s

/-- The device posts one entry to a ring under its full rule (R518): WAIT holds it, every other rule drops it. -/
def ringPost (s : State) (q : Nat) (e : RingEntry) : State :=
  if s.ringFill q < s.ringSize q ∧ (s.ring q).held = [] then s.ringAppend q e
  else if q = 10 ∨ q = 11 ∨ q = 23 then
    s.modRing q fun r => { r with held := r.held ++ [{ e with posted := s.now }] }
  else s.ringLost q 1

/-- The device posts the entries of one frame, all or none (R522). -/
def ringPostAll (s : State) (q : Nat) (es : List RingEntry) : State :=
  if s.ringFill q + es.length ≤ s.ringSize q then es.foldl (fun s e => s.ringAppend q e) s
  else s.ringLost q es.length

/-- The entries of one received frame or message (R522). Where the operands carry no bytes of the frame, DATA is empty (log
entry 116). -/
def frameEntries (len port : Nat) (stamp : ST64) (data : Bytes) : List RingEntry :=
  let n := max 1 ((len + 47) / 48)
  (List.range n).map fun k =>
    ⟨0, [len, port, (ofBits [decide (k = 0), decide (k + 1 = n)] : Nat), stamp.toNat], slice data (48 * k) 48, stamp⟩

/-- A frame received at a network port enters its ring (R464, R522). -/
def postFrame (s : State) (q len : Nat) (p : Fin 2) (stamp : ST64) (data : Bytes) : State :=
  s.ringPostAll q (frameEntries len p stamp data)

/-- Entries a WAIT producer held enter the ring while slots are free (R518). -/
def ringDrainHeld (s : State) (q : Nat) : Nat → State
  | 0 => s
  | k + 1 =>
    match (s.ring q).held with
    | [] => s
    | e :: r =>
      if s.ringFill q < s.ringSize q then
        ringDrainHeld ((s.modRing q fun x => { x with held := r }).ringAppend q e) q k
      else s

/-- The oldest n entries leave a ring: HEAD moves, FILL falls, and held entries follow (R519). -/
def ringRelease (s : State) (q n : Nat) : State :=
  let size := s.ringSize q
  let s := s.modRing q fun r =>
    { r with entries := r.entries.drop n, head := if size = 0 then 0 else (r.head + n) % size }
  s.ringDrainHeld q (s.ring q).held.length

/-- A frame of the device passes through its ring to the network, which takes it at once (R518, R522). -/
def ringThrough (s : State) (q : Nat) (es : List RingEntry) : State :=
  let n := es.length
  (s.ringPostAll q es).ringRelease q n

/-! ## HALT causes -/

end State

/-- The number of a HALT cause: its bit in entry 0x1100:06 (R39). -/
def causeBit : HaltCause → Nat
  | .stale => 0 | .array => 1 | .clock => 2 | .thermal => 3 | .readback => 4 | .following => 5 | .overrun => 6
  | .safeFrame => 7 | .safetyInput => 8 | .shearsAll => 9 | .envelope => 10 | .command => 11

/-- A cause added to a list kept in bit order without repeats. -/
def causeIns (c : HaltCause) : List HaltCause → List HaltCause
  | [] => [c]
  | d :: r => if causeBit c = causeBit d then d :: r else if causeBit c < causeBit d then c :: d :: r
      else d :: causeIns c r

/-- The bit map of a list of causes. -/
def causeMap (l : List HaltCause) : Nat := l.foldl (fun m c => m ||| (1 <<< causeBit c)) 0

namespace State

/-- A HALT cause becomes active: its bit is set, and it is pending until the mode controller takes it (R35, R39). -/
def raiseCause (s : State) (c : HaltCause) : State :=
  if s.ctl.causes.contains c then s
  else s.modCtl fun x => { x with causes := causeIns c x.causes, pendingCauses := causeIns c x.pendingCauses }

/-- A HALT cause is gone: its bit reads 0, and a cause not yet taken stays pending (R35). -/
def dropCause (s : State) (c : HaltCause) : State :=
  s.modCtl fun x => { x with causes := x.causes.filter fun d => decide (d ≠ c) }

/-! ## Requests -/

/-- The role of a session, none where it is not open; the cores stand outside the roles (R29, R491). -/
def roleOf (s : State) : Requester → Option Role
  | .session n => if s.sessions[n].state = .open then some s.sessions[n].role else none
  | _ => none

/-- The requester exists: a core, or a session that is open. -/
def present (s : State) : Requester → Bool
  | .session n => decide (s.sessions[n].state = .open)
  | _ => true

end State

/-- The requester is an on-chip core. -/
def isCore : Requester → Bool
  | .session _ => false
  | _ => true

/-- The session number a request carries in events: 1 to 16, or 0x11 for the cores (R41, R521). -/
def sessionNumber : Requester → Nat
  | .session n => n.val + 1
  | _ => 0x11

/-- Who may do a thing: the roles, and whether the cores may. -/
structure Writers where
  roles : List Role
  cores : Bool
deriving DecidableEq, Repr

/-- The operators of R29, R361: OPERATOR, ENGINEER, SAFETY and the cores. -/
def operators : Writers := ⟨[.operator, .engineer, .safety], true⟩

/-- The common writers of R491: ENGINEER and the cores. -/
def engineers : Writers := ⟨[.engineer], true⟩

/-- The requester is among the writers. -/
def mayWrite (s : State) (req : Requester) (w : Writers) : Bool :=
  if isCore req then w.cores
  else match s.roleOf req with
    | some r => w.roles.contains r
    | none => false

namespace State

/-- The answer to one request leaves the device: a RESPONSE for a session or queue requester; a refused window access
records its code and slot instead (R32, R498, R503). -/
def answer (s : State) (req : Requester) (i k abort : Nat) : State :=
  match req with
  | .window c =>
    if abort = 0 then s
    else
      let s := s.modWin c.val fun w =>
        { status := abort, addr := 0x40000000 + i * 0x800 + k * 8, refused := (satU 32 (w.refused + 1)).toNat }
      s.send (.irq c.val 46)
  | _ => s.send (.response req i k abort)

/-- The four effects of a refusal with 0x0401 beside its answer (R32): the session's or the cores' counter, the device
counter and MODE_CMD_REFUSED with the command or entry. -/
def refuseMode (s : State) (req : Requester) (what : Nat) (modeCode : Nat) : State :=
  let s := s.count 0x1102 (sessionNumber req)
  let s := s.count 0x1100 0x09
  s.event 0x0111 [what, modeCode, sessionNumber req]

end State

/-- The code of a mode (R16). -/
def modeCode : Mode → Nat
  | .dormant => 1 | .watch => 2 | .energize => 3 | .form => 4 | .ride => 5 | .halt => 6

/-- The code of a sub-state (R18). -/
def subCode : SubState → Nat
  | .none => 0 | .connectPending => 1 | .stopping => 2 | .recovering => 3

/-- The code of GUARD_TEST (R26). -/
def guardCode : GuardTest → Nat
  | .pendingOpen => 0 | .pendingClose => 1 | .satisfied => 2

/-- DORMANT, WATCH or HALT. -/
def dwh (m : Mode) : Bool := decide (m = .dormant ∨ m = .watch ∨ m = .halt)

/-- WATCH or HALT (R34). -/
def wh (m : Mode) : Bool := decide (m = .watch ∨ m = .halt)

/-- A write to an entry that has its own checks: role, range, mode and own conditions in the order of R30, then the
effect; the first failing check gives the answer, and a refusal with 0x0401 has the effects of R32. -/
def guarded (req : Requester) (i k : Nat) (who : Writers) (inRange : Bool) (modeOk : Bool) (own : Nat)
    (act : State → State) (s : State) : State :=
  if !s.present req then s
  else if !mayWrite s req who then s.answer req i k 0x0201
  else if !inRange then s.answer req i k 0x0302
  else if !modeOk then (s.refuseMode req (Dict.key i k) (modeCode s.ctl.mode)).answer req i k 0x0401
  else if own ≠ 0 then s.answer req i k own
  else (act s).answer req i k 0

/-! ## Writes of ordinary entries (R30, R488, R489) -/

/-- A value lies in a row's range. -/
def rangeOk (r : Range) (v : DVal) : Bool :=
  match r, v with
  | .any, _ => true
  | .spans l, .num n => l.any fun p => decide (p.1 ≤ n ∧ n ≤ p.2)
  | .whole lo hi, .num n => decide (n % 16777216 = 0 ∧ lo * 16777216 ≤ n ∧ n ≤ hi * 16777216)
  | .signOnly, .num n => decide (n = 16777216 ∨ n = -16777216)
  | .step d lo hi, .num n => decide (n % d = 0 ∧ lo ≤ n ∧ n ≤ hi)
  | _, _ => true

/-- A value has a row's type and length. -/
def typeOk (r : Row) (v : DVal) : Bool :=
  r.ty.holds v && (match r.rng, v with
    | .bytes lo hi, .bytes b => decide (lo ≤ b.length ∧ b.length ≤ hi)
    | .items size lo hi, .bytes b => decide (b.length % size = 0 ∧ size * lo ≤ b.length ∧ b.length ≤ size * hi)
    | _, _ => true)

/-- Set a value outside the beds. -/
def State.putV (s : State) (i k : Nat) (v : DVal) : State := { s with regs := storePut s.regs (Dict.key i k) v }

/-- A window store reaches no slot of these types (R497). -/
def windowless (req : Requester) (t : DType) : Bool :=
  match req with
  | .window _ => [DType.time80, .string, .domain].contains t
  | _ => false

/-- An entry of the dictionary exists in this device: entries 0x1710 to 0x1717 at position 0 only (R573). -/
def State.hasEntry (s : State) (i : Nat) : Bool :=
  Dict.hasEntry i && !decide (0x1710 ≤ i ∧ i ≤ 0x1717 ∧ s.reg 0x1700 0x20 ≠ 0)

/-- A write of an RW or WO row, checked in the order of R30, with the entry's own mode and conditions. -/
def guardedWrite (req : Requester) (i k : Nat) (who : Writers) (modeOk : Bool) (own : Nat) (v : DVal)
    (act : State → State) (s : State) : State :=
  if !s.present req then s
  else if !s.hasEntry i then s.answer req i k 0x0101
  else
    match Dict.find i k with
    | none => s.answer req i k 0x0102
    | some r =>
      if !mayWrite s req who then s.answer req i k 0x0201
      else if r.acc ≠ .rw ∧ r.acc ≠ .wo then s.answer req i k 0x0202
      else if windowless req r.ty || !typeOk r v then s.answer req i k 0x0301
      else if !rangeOk r.rng v then s.answer req i k 0x0302
      else guarded req i k who true modeOk own act s

end Sys2Proof.Machine
end

