-- ==== Sys2Proof/Machine/Bed.lean ====
section
/-! DEFINITION. What a bed says: the Trellis configuration of R82 to R98 and R111 to R113 read from one bed's store. -/

namespace Sys2Proof.Machine.Bed

/-- A number of the bed. -/
def num (bed : Store) (i k : Nat) : Int := numOf (storeGet bed (Dict.key i k))

def nat (bed : Store) (i k : Nat) : Nat := (num bed i k).toNat

def bytes (bed : Store) (i k : Nat) : Bytes := bytesOf (storeGet bed (Dict.key i k))

/-- The entry of block instance b of engine e (R111). -/
def inst (e b : Nat) : Nat := 0x3000 + e * 0x100 + b

/-- The entry of loop slot l of engine e (R111). -/
def slot (e l : Nat) : Nat := 0x30F0 + e * 0x100 + l

/-- Engine status and control (R111). -/
def status (e : Nat) : Nat := 0x30FE + e * 0x100
def ctl (e : Nat) : Nat := 0x30FF + e * 0x100

/-- TYPE of an instance. -/
def type (bed : Store) (e b : Nat) : Nat := nat bed (inst e b) 0x01

/-- A block parameter: the one listed, else its type's default (R122). -/
def par (bed : Store) (e b s : Nat) : Int :=
  match look (Dict.key (inst e b) s) bed with
  | some v => numOf v
  | none => match Dict.findParam (type bed e b) s with
    | some r => r.dflt
    | none => 0

/-- A whole-number parameter (R121). -/
def whole (bed : Store) (e b s : Nat) : Nat := (par bed e b s / onePu).toNat

/-- The value of sub-index k of entry i in a bed: a block parameter not written reads its type's default (R122). -/
def value (bed : Store) (i k : Nat) : DVal :=
  match look (Dict.key i k) bed with
  | some v => v
  | none =>
    if 0x3000 ≤ i ∧ i < 0x4000 ∧ i % 0x100 < 0xF0 ∧ 0x10 ≤ k then
      .num (par bed ((i - 0x3000) / 0x100) (i % 0x100) k)
    else storeGet bed (Dict.key i k)

/-- Two beds hold equal values at sub-indices lo to hi of an entry. -/
def same (a b : Store) (i lo hi : Nat) : Bool :=
  (List.range (hi + 1 - lo)).all fun k => decide (value a i (lo + k) = value b i (lo + k))

/-- INPUTk of an instance: a signal reference (R88). -/
def input (bed : Store) (e b k : Nat) : Nat := nat bed (inst e b) (0x03 + k)

/-- LOOP of an instance: a slot, or none. -/
def loop (bed : Store) (e b : Nat) : Option Nat :=
  let l := nat bed (inst e b) 0x0B
  if l < 8 then some l else none

/-- The words of a block list up to its end word: CHECKED and INSTANCE (R95). -/
def listWords : Bytes → List (Bool × Nat)
  | a :: b :: r => if a = 0xFF#8 then [] else (decide (128 ≤ b.toNat), a.toNat) :: listWords r
  | _ => []

/-- The block list of an engine (R95). -/
def list (bed : Store) (e : Nat) : List (Bool × Nat) := listWords (bytes bed (ctl e) 0x04)

/-- An engine is in use. -/
def enabled (bed : Store) (e : Nat) : Bool := decide (num bed (ctl e) 0x01 = 1)

/-- BEAT in cycles (R83). -/
def beat (bed : Store) : Nat := nat bed 0x1210 0x01

/-- DIV and CADENCE_OFFSET of a cadence (R83, R85). -/
def div (bed : Store) (c : Nat) : Nat := nat bed 0x1210 (0x02 + c)
def cadenceOffset (bed : Store) (c : Nat) : Nat := nat bed 0x1210 (0x06 + c)

/-- The period of an engine in cycles (R83). -/
def period (bed : Store) (e : Nat) : Nat := beat bed / div bed (nat bed (ctl e) 0x02)

/-- OUTPUT_PHASE of an engine (R97). -/
def outputPhase (bed : Store) (e : Nat) : Nat := nat bed (ctl e) 0x03

/-- Number of inputs a HEDGE, SUM or TAP instance names. -/
def nin (bed : Store) (e b : Nat) : Nat :=
  if type bed e b = 31 then whole bed e b 0x11 else whole bed e b 0x10

/-- The cycle cost of a listed instance (R96). -/
def cost (bed : Store) (e : Nat) (w : Bool × Nat) : Nat :=
  let c := blockCost (type bed e w.2) (nin bed e w.2)
  if w.1 then 2 * c + 4 else c

/-- SCHEDULE_LENGTH of an engine (R96). -/
def length (bed : Store) (e : Nat) : Nat := ((list bed e).map (cost bed e)).sum

/-- Every listed instance of every enabled engine, in engine and list order. -/
def listed (bed : Store) : List (Nat × Nat) :=
  (List.range 16).flatMap fun e => if enabled bed e then (list bed e).map fun w => (e, w.2) else []

/-- Every instance of a type in the bed, listed or not. -/
def ofType (bed : Store) (t : Nat) : List (Nat × Nat) :=
  bed.filterMap fun x =>
    let i := x.1 / 256
    if x.1 % 256 = 1 ∧ 0x3000 ≤ i ∧ i < 0x4000 ∧ i % 0x100 < 0xF0 ∧ numOf x.2 = t then
      some ((i - 0x3000) / 0x100, i % 0x100)
    else none

/-- The MOD2L that drives a pair: TARGET 0 a local pair, TARGET 1 a remote pair (R159, R287, R321). -/
def mod2l (bed : Store) (remote : Bool) (lane pair : Nat) : Option (Nat × Nat) :=
  (ofType bed 28).find? fun w => decide ( whole bed w.1 w.2 0x10 = remote.toNat ∧ whole bed w.1 w.2 0x12 = pair ∧ (remote = false ∨ whole bed w.1 w.2 0x11 = lane))

/-- The NLC that feeds an arm (R160, R325). -/
def nlc (bed : Store) (arm : Nat) : Option (Nat × Nat) :=
  (listed bed).find? fun w => decide (type bed w.1 w.2 = 29 ∧ whole bed w.1 w.2 0x10 = arm)

/-- FRESH, SPACE and ADDRESS of a signal reference (R88). -/
def refFresh (r : Nat) : Bool := decide (0x8000 ≤ r)
def refSpace (r : Nat) : Nat := r / 0x1000 % 8
def refAddr (r : Nat) : Nat := r % 0x1000

/-- The instance whose output k is written to word a of an engine's signal memory (R97). -/
def writer (bed : Store) (e a : Nat) : Option (Nat × Nat) :=
  ((list bed e).filterMap fun w =>
    let o := nat bed (inst e w.2) 0x02
    if o ≤ a ∧ a < o + blockOutputs (type bed e w.2) then some (w.2, a - o) else none).head?

/-- The instance and port a SPACE 2 reference names (R194, R222, R245). -/
def refWriter (bed : Store) (r : Nat) : Option (Nat × Nat × Nat) :=
  if refSpace r = 2 then
    (writer bed (refAddr r / 0x100) (refAddr r % 0x100)).map fun w => (refAddr r / 0x100, w.1, w.2)
  else none

end Sys2Proof.Machine.Bed
end

