-- ==== Sys2Proof/Machine/Pwm.lean ====
section
/-! DEFINITION. Local PWM: Furrows, carriers, compares, pair logic, the fault matrix and the pins of a pair (R274 to R304
and R686). Instants inside a carrier are counted in ST64 counts; a fine step is 10 counts, a counter clock 640. -/

namespace Sys2Proof.Machine

/-! ## Carriers and patterns -/

/-- A carrier: counting mode, the level it turns or wraps at, F, and the instant the counter entered 0 (R275, R278). The
turning level differs from F only in a carrier that turned down before PERIOD (R289). -/
structure Carrier where
  updown : Bool
  half : Nat
  fine : Nat
  zero : ST64
deriving DecidableEq, Repr

/-- The carrier period C. -/
def Carrier.len (c : Carrier) : Nat := if c.updown then 2 * c.half else c.half

/-- Counts since the carrier's zero. -/
def Carrier.pos (c : Carrier) (t : ST64) : Nat := if c.len = 0 then 0 else (sdiff t c.zero % (c.len : Int)).toNat

/-- The instant the present carrier began. -/
def Carrier.begin (c : Carrier) (t : ST64) : ST64 := later t (-(c.pos t : Int))

/-- The counter's level in counts (R275). -/
def Carrier.level (c : Carrier) (pos : Nat) : Nat := if pos ≤ c.half then pos else 2 * c.half - pos

/-- 0x3FFF_FFFF: always on (R278). -/
def alwaysOn : Nat := 0x3FFFFFFF

/-- A compare that is on for the whole carrier, whose other levels end at top. -/
def wholeOn (top cmp : Nat) : Bool := decide (cmp = alwaysOn ∨ top ≤ cmp * 10)

/-- H is commanded on (R278); an edge takes effect at its crossing. -/
def highOn (c : Carrier) (a pos : Nat) : Bool :=
  if a = 0 then false
  else if wholeOn c.half a then true
  else if c.updown then decide (pos < a * 10 ∨ 2 * c.half - a * 10 ≤ pos)
  else decide (pos < a * 10)

/-- L is commanded on: the inverse of H in complementary mode, from CMPB in independent mode (R278, R280). -/
def lowOn (c : Carrier) (indep : Bool) (a b pos : Nat) : Bool :=
  if indep then
    if b = 0 then false
    else if wholeOn c.fine b then true
    else if c.updown then decide (c.fine - b * 10 ≤ pos ∧ pos < 2 * c.half - (c.fine - b * 10))
    else decide (c.fine - b * 10 ≤ pos)
  else !highOn c a pos

/-- A switch's command. -/
def cmdOn (c : Carrier) (indep : Bool) (a b : Nat) (low : Bool) (pos : Nat) : Bool :=
  if low then lowOn c indep a b pos else highOn c a pos

/-- Counts from a position inside an on-interval to its end; none when it never ends under these compares. -/
def cmdEnd (c : Carrier) (indep : Bool) (a b : Nat) (low : Bool) (pos : Nat) : Option Nat :=
  if low then
    if indep then
      if wholeOn c.fine b then none
      else if c.updown then some (2 * c.half - (c.fine - b * 10) - pos) else some (c.half - pos)
    else if a = 0 then none
    else if c.updown then some (2 * c.half - a * 10 - pos) else some (c.half - pos)
  else if wholeOn c.half a then none
  else if c.updown then some (if pos < a * 10 then a * 10 - pos else 2 * c.half - pos + a * 10)
  else some (a * 10 - pos)

/-! ## The logic of one switch -/

/-- A switch is on after stages 2 and 3 at instant t. -/
def switchNow (w : SwitchLogic) (t : ST64) : Bool :=
  match w.onAt with
  | none => false
  | some on => decide (sdiff on t ≤ 0) && (match w.offAt with | none => true | some o => decide (0 < sdiff o t))

/-- The pulse a switch gave before its present record, once that record is of a pulse that is over or running at t. -/
def lastPulse (w : SwitchLogic) (t : ST64) : Option (ST64 × ST64) :=
  match w.onAt, w.offAt with
  | some on, some off => if sdiff on t ≤ 0 then some (on, off) else w.last
  | _, _ => w.last

/-- A decided turn-on that is taken back: the pulse before it stands. -/
def takeBack (w : SwitchLogic) : SwitchLogic :=
  match w.last with
  | some p => ⟨some p.1, some p.2, false, false, none⟩
  | none => SwitchLogic.off

/-- The later of two instants. -/
def laterOf (a b : ST64) : ST64 := if sdiff a b < 0 then b else a

/-- The outcome of a turn-on decision (R281, R282). -/
structure TurnOn where
  me : SwitchLogic
  overlap : Bool
  drop : Bool
deriving DecidableEq, Repr

/-- The earliest instant the switch may turn on: DEADTIME after the complementary switch is off (R280), and after the
first of an overlap is off (R282); none while the complementary switch never goes off. -/
def turnOnAt (c : Carrier) (indep : Bool) (a b dead : Nat) (low overlap : Bool) (other : SwitchLogic) (t : ST64) :
    Option ST64 :=
  if overlap then (cmdEnd c indep a b (!low) (c.pos t)).map fun e => later t ((e : Int) + dead)
  else match other.onAt, other.offAt with
    | none, _ => some t
    | some _, some o => some (laterOf t (later o dead))
    | some _, none => none

/-- A turn-on decided at instant t through stages 2 and 3: interlock, then minimum pulse; dead and minPulse in counts. -/
def turnOn (c : Carrier) (indep : Bool) (a b dead minPulse : Nat) (low : Bool) (me other : SwitchLogic) (t : ST64) :
    TurnOn :=
  let pos := c.pos t
  if !cmdOn c indep a b low pos then ⟨me, false, false⟩
  else
    let before := c.pos (later t (-1))
    let overlap := indep && cmdOn c indep a b (!low) pos && (low || cmdOn c indep a b (!low) before)
    match turnOnAt c indep a b dead low overlap other t with
    | none => ⟨{ me with held := overlap }, overlap, false⟩
    | some on =>
      match cmdEnd c indep a b low pos with
      | none => ⟨⟨some on, none, false, overlap, lastPulse me t⟩, overlap, false⟩
      | some e =>
        let off := later t e
        let width := sdiff off on
        if width ≤ 0 then ⟨{ me with held := overlap }, overlap, false⟩
        else if width < minPulse then ⟨{ me with dropped := true, held := overlap }, overlap, true⟩
        else ⟨⟨some on, some off, false, overlap, lastPulse me t⟩, overlap, false⟩

/-- A switch forced off at t: a pulse in progress ends there, one decided for later is not started. -/
def cutNow (w : SwitchLogic) (t : ST64) : SwitchLogic :=
  match w.onAt with
  | none => w
  | some on =>
    if 0 < sdiff on t then takeBack w
    else match w.offAt with
      | some o => if 0 < sdiff o t then { w with offAt := some t } else w
      | none => { w with offAt := some t }

/-- A pulse in progress takes the turn-off instant that new live compares give it. -/
def replan (c : Carrier) (indep : Bool) (a b : Nat) (low : Bool) (w : SwitchLogic) (t : ST64) : SwitchLogic :=
  match w.onAt with
  | none => w
  | some on =>
    let ended := match w.offAt with | none => false | some o => decide (sdiff o t ≤ 0)
    if ended then w
    else if cmdOn c indep a b low (c.pos t) then
      { w with offAt := (cmdEnd c indep a b low (c.pos t)).map fun e => later t e }
    else if sdiff on t ≤ 0 then { w with offAt := some t } else takeBack w

/-- The compare a duty gives with F fine steps (R279). -/
def dutyCompare (duty : Int) (fine : Nat) : Nat :=
  if duty ≤ 0 then 0 else if onePu ≤ duty then alwaysOn else (roundShift (duty * fine) 24).toNat

namespace State

/-! ## Settings in force -/

/-- A Furrow or local-pair setting in force (R296). -/
def pcfg (s : State) (i k : Nat) : Nat := (numOf (storeGet s.pwm (Dict.key i k))).toNat

def furrow (s : State) (f : Nat) : Furrow := vget s.furrows f Furrow.stopped
def pair (s : State) (p : Nat) : LocalPair := vget s.pairs p LocalPair.idle
def modFurrow (s : State) (f : Nat) (g : Furrow → Furrow) : State := { s with furrows := vmod s.furrows f g }
def modPair (s : State) (p : Nat) (g : LocalPair → LocalPair) : State := { s with pairs := vmod s.pairs p g }

/-- Entries of one store with the indices of a set taken from another. -/
def overlay (set : Nat → Bool) (src dst : Store) : Store :=
  (src.filter fun e => set (e.1 / 256)).foldl (fun d e => ins e.1 e.2 d) (dst.filter fun e => !set (e.1 / 256))

/-- The settings of the named entries take effect from the active bed (R296). -/
def takePwm (s : State) (set : Nat → Bool) : State := { s with pwm := overlay set s.active s.pwm }

/-- The pairs on a Furrow under the settings in force. -/
def pairsOn (s : State) (f : Nat) : List Nat :=
  (List.range 24).filter fun p => decide (s.pcfg (0x5020 + p) 0x01 = 1 ∧ s.pcfg (0x5020 + p) 0x02 = f)

/-- PERIOD_SH (R301). -/
def periodSh (s : State) (f : Nat) : Nat := (s.furrow f).periodSh.getD (s.cfgN (0x5000 + f) 0x03)

/-- The carrier the Furrow counts, turning at its PERIOD. -/
def wholeCarrier (s : State) (f : Nat) : Carrier :=
  ⟨decide (s.pcfg (0x5000 + f) 0x02 = 1), s.regN (0x5000 + f) 0x22 * 640, s.regN (0x5000 + f) 0x22 * 640,
    (s.furrow f).zeroAt⟩

/-- The Furrow's carrier now. One that turned down early lasts until its count reaches 0 (R289). -/
def carrier (s : State) (f : Nat) : Carrier :=
  let c := s.wholeCarrier f
  match (s.furrow f).turn with
  | none => c
  | some t =>
    let z := later c.zero ((2 * t : Nat) : Int)
    if 0 ≤ sdiff s.now z then { c with zero := z } else { c with half := t }

/-- The latest instant at or before t on the grid of R276. -/
def gridZero (s : State) (f : Nat) (len : Nat) (t : ST64) : ST64 :=
  if len = 0 then t else later t (-((s.sinceOrigin t - (s.pcfg (0x5000 + f) 0x06 * 640 : Nat)) % (len : Int)))

/-- A pair's live compares (R302). -/
def liveA (s : State) (p : Nat) : Nat := s.regN (0x5020 + p) 0x22
def liveB (s : State) (p : Nat) : Nat := s.regN (0x5020 + p) 0x23

/-- The compare in use in DIRECT mode (R289), and whether the clamp acts. -/
def clampCompare (s : State) (f p cmp : Nat) : Nat × Bool :=
  let fine := s.regN (0x5000 + f) 0x22 * 64
  if s.pcfg (0x5000 + f) 0x07 = 1 ∧ cmp ≠ alwaysOn ∧ fine < cmp then (fine - s.pcfg (0x5020 + p) 0x05, true)
  else (cmp, false)

/-- A pulse in progress follows the pair's live compares. -/
def replanPair (s : State) (f p : Nat) : State :=
  let c := s.carrier f
  let indep := decide (s.pcfg (0x5020 + p) 0x03 = 1)
  s.modPair p fun q =>
    { q with h := replan c indep (s.liveA p) (s.liveB p) false q.h s.now
             l := replan c indep (s.liveA p) (s.liveB p) true q.l s.now }

/-- CLAMP, and CLAMP_COUNT once per carrier (R289). -/
def recordClamp (s : State) (f p : Nat) : State :=
  let s := s.flag (0x5020 + p) 0x24 1
  let z := (s.carrier f).begin s.now
  if (s.pair p).clampAt = some z then s
  else (s.count (0x5020 + p) 0x28).modPair p fun q => { q with clampAt := some z }

/-- Live compares put, with the clamp of DIRECT mode (R285, R289); the pair's pattern applies from here (R686). -/
def putLive (s : State) (f p a b : Nat) : State :=
  let ca := s.clampCompare f p a
  let cb := s.clampCompare f p b
  let s := (s.put (0x5020 + p) 0x22 ca.1).put (0x5020 + p) 0x23 cb.1
  let s := if ca.2 || cb.2 then s.recordClamp f p else s
  s.modPair p fun q => { q with patternOn := true }

/-- Live compares set, and the pulse in progress follows them. -/
def setLive (s : State) (f p a b : Nat) : State := (s.putLive f p a b).replanPair f p

/-- A pair's shadow compares. -/
def shadowA (s : State) (p : Nat) : Nat := s.regN (0x5020 + p) 0x20
def shadowB (s : State) (p : Nat) : Nat := s.regN (0x5020 + p) 0x21

/-- Every pair of a DIRECT Furrow uses its shadows. -/
def directPairs (s : State) (f : Nat) : State :=
  (s.pairsOn f).foldl (fun s p => s.setLive f p (s.shadowA p) (s.shadowB p)) s

/-! ## Fault matrix (R290 to R292) -/

/-- Pulses are possible: ENERGIZE, FORM or RIDE with the Cloche's permission. -/
def pulsing (s : State) : Bool :=
  s.ctl.permission && decide (s.ctl.mode = .energize ∨ s.ctl.mode = .form ∨ s.ctl.mode = .ride)

/-- A Shears block of a switch of local leg p: stopped, blocked as complement, leg blocked, or an ALL reaction (R350, R352,
R355). -/
def shearsBlocks (s : State) (p : Nat) (low : Bool) : Bool :=
  let g := vget s.shears.legs p Leg.clear
  (if low then g.lStopped || g.lBlocked else g.hStopped || g.hBlocked) || g.legBlock || s.shears.allActive

/-- LOW_CLAMP turns L on once H has been off for DEADTIME (R290). -/
def lowClampAt (s : State) (p : Nat) : ST64 :=
  let q := s.pair p
  match q.h.onAt, q.h.offAt with
  | some _, some o => laterOf q.faultAt (later o ((s.pcfg (0x5020 + p) 0x04 * 10 : Nat) : Int))
  | _, _ => q.faultAt

/-- LOW_CLAMP holds L on now: with permission, and with no Shears block of L (R292). -/
def lowClampOn (s : State) (p : Nat) : Bool :=
  let q := s.pair p
  s.pulsing && q.fault && decide (q.action = 1 ∧ 0 ≤ sdiff s.now (s.lowClampAt p)) && !s.shearsBlocks p true

/-- A mapped source becomes active on a pair: its fault action is taken and queued. H goes off at once, and so does L,
which LOW_CLAMP turns on again. -/
def pairFault (s : State) (p src : Nat) : State :=
  if (s.pair p).sources.contains src then s
  else
    let act := s.pcfg (0x5020 + p) 0x0A
    let s := s.modPair p fun q =>
      { q with fault := true, action := act, sources := q.sources ++ [src]
               h := if q.fault then q.h else cutNow q.h s.now
               l := if q.fault then q.l else cutNow q.l s.now
               faultAt := if q.fault then q.faultAt else s.now }
    (s.flag (0x5020 + p) 0x24 3).event 0x0911 [p, src, act]

/-- A pair's fault is released: it resumes at the next reload (R291), through the interlock after L's clamp. -/
def pairRelease (s : State) (p : Nat) : State :=
  let l : SwitchLogic := if s.lowClampOn p then ⟨some (s.lowClampAt p), some s.now, false, false, none⟩ else (s.pair p).l
  (s.modPair p fun q => { q with fault := false, waitReload := true, l := l }).event 0x0912 [p]

/-- A mapped source is no longer active; automatic release acts when none is left (R291). -/
def pairSourceGone (s : State) (p src : Nat) : State :=
  if (s.pair p).sources.contains src then
    let s := s.modPair p fun q => { q with sources := q.sources.filter fun x => decide (x ≠ src) }
    if (s.pair p).fault ∧ (s.pair p).sources = [] ∧ s.pcfg (0x5020 + p) 0x0B = 1 then s.pairRelease p else s
  else s

/-- Every pair that maps fault input n. -/
def fltPairs (s : State) (n : Nat) : List Nat := (List.range 24).filter fun p => bitOf (s.pcfg (0x5020 + p) 0x08) n

/-- Every local leg whose GROUP_MASK holds group g (R344). -/
def groupPairs (s : State) (g : Nat) : List Nat := (List.range 24).filter fun p => bitOf (s.pcfg (0x5020 + p) 0x09) g

/-- The sources active now that an enabled pair maps (R290). -/
def mappedSources (s : State) (p : Nat) : List Nat :=
  if s.pcfg (0x5020 + p) 0x01 = 1 then
    (s.fltActive.filter fun n => bitOf (s.pcfg (0x5020 + p) 0x08) n) ++
      (((List.range 16).filter fun g => (vget s.shears.groups g ShearsGroup.clear).tripped &&
        bitOf (s.pcfg (0x5020 + p) 0x09) g).map fun g => 0x10 + g)
  else []

/-- A pair under new settings: it takes its action for a source active now that it maps, and loses one it maps no more. -/
def syncFaults (s : State) (p : Nat) : State :=
  let l := s.mappedSources p
  let s := ((s.pair p).sources.filter fun x => !l.contains x).foldl (fun s x => s.pairSourceGone p x) s
  l.foldl (fun s x => s.pairFault p x) s

/-! ## Start and stop of the Furrow clock (R274, R276, R686) -/

/-- The entries of a Furrow and of the pairs the active bed puts on it. -/
def furrowSet (s : State) (f i : Nat) : Bool :=
  decide (i = 0x5000 + f ∨ (0x5020 ≤ i ∧ i ≤ 0x5037 ∧ s.cfgN i 0x02 = f))

/-- The settings of a Furrow and of its pairs take effect, and the pairs' fault mapping with them (R290, R296). -/
def takeFurrow (s : State) (f : Nat) : State :=
  (List.range 24).foldl (fun s p => s.syncFaults p) (s.takePwm (s.furrowSet f))

/-- The counter placed afresh: on the grid with ALIGN = 1, else at 0 (R276, R296). -/
def placeCounter (s : State) (f : Nat) : State :=
  let zero := if s.pcfg (0x5000 + f) 0x05 = 1 then s.gridZero f (s.wholeCarrier f).len s.now else s.now
  s.modFurrow f fun g => { g with zeroAt := zero, turn := none }

/-- A Furrow starts: its live values under UPDATE, its counter on the grid or at 0. -/
def startFurrow (s : State) (f : Nat) : State :=
  if s.cfg (0x5000 + f) 0x01 ≠ 1 then s.takeFurrow f
  else
    let s := s.takeFurrow f
    let direct := decide (s.pcfg (0x5000 + f) 0x07 = 1)
    let s := s.put (0x5000 + f) 0x22 (if direct then s.periodSh f else s.pcfg (0x5000 + f) 0x03 : Nat)
    let s := (s.modFurrow f fun g => { Furrow.stopped with running := true, periodSh := g.periodSh }).placeCounter f
    let s := (s.pairsOn f).foldl (fun s p =>
      ((s.put (0x5020 + p) 0x22 0).put (0x5020 + p) 0x23 0).modPair p fun q =>
        { q with h := .off, l := .off, patternOn := false }) s
    if direct then s.directPairs f else s

/-- A Furrow stops: requests and hand-overs not yet transferred are discarded (R686). -/
def stopFurrow (s : State) (f : Nat) : State :=
  let s := s.modFurrow f fun g =>
    { g with running := false, requests := [], duties := [], remoteDuties := [], newSettings := false, turn := none }
  (s.pairsOn f).foldl (fun s p => s.modPair p fun q => { q with h := .off, l := .off, patternOn := false }) s

def startFurrows (s : State) : State := (List.range 12).foldl (fun s f => s.startFurrow f) s
def stopFurrows (s : State) : State := (List.range 12).foldl (fun s f => s.stopFurrow f) s

/-! ## Reload (R277, R285 to R287, R296, R298) -/

/-- An event of the counter is a reload event of the Furrow's RELOAD choice (R277). -/
def isReload (s : State) (f : Nat) (atPeriod : Bool) : Bool :=
  let r := s.pcfg (0x5000 + f) 0x04
  decide (s.pcfg (0x5000 + f) 0x02 = 0 ∨ r = 2 ∨ (r = 1 ∧ atPeriod = true) ∨ (r = 0 ∧ atPeriod = false))

/-- A request that completed at t transfers at a reload at now (R286). -/
def reloadDue (now t : ST64) : Bool := decide ((2560 : Int) ≤ sdiff now t)

/-- The counter settings whose change starts a new carrier (R296). -/
def counterSettings (s : State) (f : Nat) : List Nat :=
  [0x02, 0x03, 0x04, 0x05, 0x06, 0x07].map fun k => s.pcfg (0x5000 + f) k

/-- A swap's settings take effect at this reload, and whether they start a new carrier (R296). -/
def takeSettings (s : State) (f : Nat) : State × Bool :=
  let old := s.counterSettings f
  let s := (s.takeFurrow f).modFurrow f fun g => { g with newSettings := false }
  if s.pcfg (0x5000 + f) 0x01 ≠ 1 then (s.stopFurrow f, false)
  else if s.counterSettings f = old then (s, false)
  else if old.getD 1 0 ≠ s.pcfg (0x5000 + f) 0x03 then
    ((s.put (0x5000 + f) 0x22 (s.pcfg (0x5000 + f) 0x03 : Nat)).modFurrow f fun g => { g with periodSh := none }, true)
  else (s, true)

/-- The counter stands at its zero or at PERIOD at the event's instant; a carrier that turned down early has raised its
PERIOD event already and keeps its count (R277, R289). -/
def phaseAt (s : State) (f : Nat) (atPeriod : Bool) : State :=
  let c := s.wholeCarrier f
  if c.updown && atPeriod then
    if decide ((s.carrier f).half ≠ c.half) then s
    else s.modFurrow f fun g => { g with zeroAt := later s.now (-(c.half : Int)), turn := none }
  else s.modFurrow f fun g => { g with zeroAt := s.now, turn := none }

/-- The latest duty handed over for a pair (R287). -/
def latestDuty (p : Nat) (l : List (Nat × Int × ST64)) : Option Int :=
  ((l.filter fun r => decide (r.1 = p)).getLast?).map fun r => r.2.1

/-- A pair takes what is due at a reload: CMPA from the latest duty with the F in effect (R279), else from its shadow where
a mask names it and no MOD2L owns it, and CMPB from its shadow where a mask names it (R285, R287). -/
def transferPair (s : State) (f p : Nat) (named : Bool) (duty : Option Int) : State :=
  if !named && duty.isNone then s
  else
    let a := match duty with
      | some d => dutyCompare d (s.regN (0x5000 + f) 0x22 * 64)
      | none => if (Bed.mod2l s.active false 0 p).isSome then s.liveA p else s.shadowA p
    s.putLive f p a (if named then s.shadowB p else s.liveB p)

/-- Pairs released since the last reload resume from their pattern, through the interlock (R291, R358). -/
def resumePairs (s : State) (f : Nat) : State :=
  (s.pairsOn f).foldl (fun s p =>
    if (s.pair p).waitReload && !(s.pair p).fault then
      s.modPair p fun q => { q with waitReload := false }
    else s) s

/-- The local part of a reload event: settings of a swap first, then every transfer due in one counter clock, and the
pulses in progress follow. -/
def reloadLocal (s : State) (f : Nat) (atPeriod : Bool) : State :=
  let placed := if (s.furrow f).newSettings then s.takeSettings f else (s, false)
  let s := placed.1
  if !(s.furrow f).running then s
  else
    let s := s.putT (0x5000 + f) 0x27 s.now
    let g := s.furrow f
    let due := g.requests.filter fun r => reloadDue s.now r.2
    let dueD := g.duties.filter fun r => reloadDue s.now r.2.2
    let late := (g.requests.filter fun r => !reloadDue s.now r.2).length +
      (g.duties.filter fun r => !reloadDue s.now r.2.2).length
    let s := s.countBy 32 (0x5000 + f) 0x26 late
    let s := s.modFurrow f fun g =>
      { g with requests := g.requests.filter fun r => !reloadDue s.now r.2
               duties := g.duties.filter fun r => !reloadDue s.now r.2.2 }
    let mask : BitVec 25 := due.foldl (fun m r => m ||| r.1) 0
    let s := if mask.getLsbD 24 then s.put (0x5000 + f) 0x22 (s.periodSh f : Nat) else s
    let s := if placed.2 then s.placeCounter f else s.phaseAt f atPeriod
    let s := (s.pairsOn f).foldl (fun s p => s.transferPair f p (mask.getLsbD p) (latestDuty p dueD)) s
    let s := (s.pairsOn f).foldl (fun s p => s.replanPair f p) s
    let remote := g.remoteDuties.any fun r => reloadDue s.now r.2.2
    let s := if due.isEmpty && dueD.isEmpty && !remote then s else s.count (0x5000 + f) 0x25
    let s := (s.pairsOn f).foldl (fun s p =>
      if (s.clampCompare f p (s.shadowA p)).2 || (s.clampCompare f p (s.shadowB p)).2 then s.recordClamp f p else s) s
    s.resumePairs f

/-! ## Pins (R19, R280, R292, R294) -/

/-- The Shears holds a switch's pattern off: every block, but a switch blocked as complement completes the pulse it was in
(R350). -/
def shearsHolds (s : State) (p : Nat) (low : Bool) : Bool :=
  let g := vget s.shears.legs p Leg.clear
  let w := if low then (s.pair p).l else (s.pair p).h
  let stopped := if low then g.lStopped else g.hStopped
  let blocked := if low then g.lBlocked else g.hBlocked
  let same := match w.onAt with | none => false | some on => decide (sdiff on g.blockedAt ≤ 0)
  stopped || g.legBlock || s.shears.allActive || (blocked && !(same && switchNow w s.now))

/-- The levels of H and L after stage 5. -/
def pairLevels (s : State) (p : Nat) : Bool × Bool :=
  let q := s.pair p
  if q.fault then (false, s.lowClampOn p)
  else if !s.pulsing || q.waitReload then (false, false)
  else (q.patternOn && switchNow q.h s.now && !s.shearsHolds p false,
        q.patternOn && switchNow q.l s.now && !s.shearsHolds p true)

/-- PIN_STATE: the levels after SWAP and INVERT, or high-impedance (R302). -/
def pinState (s : State) (p : Nat) : Nat :=
  if s.ctl.mode = .dormant ∨ s.pcfg (0x5020 + p) 0x01 ≠ 1 then 4
  else
    let v := s.pairLevels p
    let v := if s.pcfg (0x5020 + p) 0x06 = 1 then (v.2, v.1) else v
    let inv := decide (s.pcfg (0x5020 + p) 0x07 = 1)
    (v.1 != inv).toNat + 2 * (v.2 != inv).toNat

/-- FAULT_STATE (R302). -/
def faultState (s : State) (p : Nat) : Nat :=
  let g := vget s.shears.legs p Leg.clear
  let all := g.legBlock || s.shears.allActive
  ofBits [(s.pair p).fault, g.hStopped || g.hBlocked || all, g.lStopped || g.lBlocked || all, !s.ctl.permission]

/-- COUNTER: the present count in counter clocks (R301). -/
def counter (s : State) (f : Nat) : Nat :=
  if (s.furrow f).running then let c := s.carrier f; c.level (c.pos s.now) / 640 else 0

/-- PWM_XCOND, at most once per pair per carrier (R282). -/
def recordXcond (s : State) (f p : Nat) (low : Bool) : State :=
  let s := (s.flag (0x5020 + p) 0x24 2).count (0x5020 + p) 0x27
  let z := (s.carrier f).begin s.now
  if (s.pair p).xcondAt = some z then s
  else (s.modPair p fun q => { q with xcondAt := some z }).event 0x0910 [p, low.toNat]

/-! ## DIRECT writes (R285, R289) -/

/-- The events an early wrap or turn raises: the counter counts up and stands at or above the PERIOD written. -/
def directEvents (s : State) (f v : Nat) : List Nat :=
  let c := s.carrier f
  let pos := c.pos s.now
  if pos < c.half ∧ v * 640 ≤ pos then (if c.updown then [1] else [0, 1]) else []

/-- A direct write of PERIOD. Counting up and at or above it, the counter wraps, or turns down from its present count;
counting down, it goes on to 0; at a reload's own instant the new period governs from there (R289, R298). -/
def directPeriod (s : State) (f v : Nat) : State :=
  let c := s.carrier f
  let pos := c.pos s.now
  let s := s.put (0x5000 + f) 0x22 (v : Int)
  let s := if pos < c.half then
      if v * 640 ≤ pos then
        s.modFurrow f fun g =>
          if c.updown then { g with zeroAt := c.begin s.now, turn := some pos } else { g with zeroAt := s.now, turn := none }
      else s.modFurrow f fun g => { g with zeroAt := c.begin s.now, turn := none }
    else if decide (pos = c.half) && s.isReload f true then
      s.modFurrow f fun g => { g with zeroAt := later s.now (-((v * 640 : Nat) : Int)), turn := none }
    else s.modFurrow f fun g => { g with zeroAt := c.begin s.now, turn := some c.half }
  s.directPairs f

end State

/-! ## Commands -/

/-- COMMIT: a transfer of the named shadows at the next reload (R285); accepted with no effect in DIRECT mode (R289). -/
def execCommit (req : Requester) (f : Fin 12) (mask : Nat) (s : State) : Host.Outcome State Fault Refusal :=
  let off := (List.range 24).any fun p => bitOf mask p && decide (s.cfgN (0x5020 + p) 0x02 ≠ f.val)
  .next (guarded req (0x5000 + f) 0x21 engineers (decide (mask < 2 ^ 25) && !off) true 0
    (fun s => if (s.furrow f).running && decide (s.pcfg (0x5000 + f) 0x07 = 0) then
        s.modFurrow f fun g => { g with requests := g.requests ++ [(BitVec.ofNat 25 mask, s.now)] }
      else s) s)

/-- A switch turn-on is decided through interlock and minimum pulse from the live compares (R280 to R282). Under a fault
action no switch turns on, and an overlap is still recorded (R298). -/
def execPairTurnOn (p : Fin 24) (low : Bool) (atT : ST64) (s : State) : Host.Outcome State Fault Refusal :=
  let f := s.pcfg (0x5020 + p) 0x02
  let q := s.pair p
  if s.pcfg (0x5020 + p) 0x01 = 1 ∧ (s.furrow f).running ∧ q.patternOn then
    let indep := decide (s.pcfg (0x5020 + p) 0x03 = 1)
    let me := if low then q.l else q.h
    let other := if low then q.h else q.l
    let r := turnOn (s.carrier f) indep (s.liveA p) (s.liveB p) (s.pcfg (0x5020 + p) 0x04 * 10)
      (s.pcfg (0x5020 + p) 0x05 * 10) low me other atT
    let s := if q.fault || q.waitReload then s
      else s.modPair p fun q => if low then { q with l := r.me } else { q with h := r.me }
    let s := if r.overlap then s.recordXcond f p low else s
    .next (if r.drop then s.flag (0x5020 + p) 0x24 0 else s)
  else .next s

/-- A calibration slot of a pair: the spare takes over from the line calibrated longest ago, or the swap is skipped when
no counter clock without an edge came within the slot (R283). -/
def execCalSlot (p : Fin 24) (edgeFree : Bool) (s : State) : Host.Outcome State Fault Refusal :=
  if s.ctl.fastClocks ∧ s.pcfg (0x5020 + p) 0x01 = 1 then
    if edgeFree then
      .next ((s.count (0x5020 + p) 0x29).modPair p fun q => { q with calOldest := 1 - q.calOldest })
    else .next ((s.count (0x5020 + p) 0x2A).flag (0x5020 + p) 0x24 4)
  else .next s

/-- A fault input goes inactive: automatic-release pairs resume (R290, R291). -/
def execFltInactive (n : Fin 8) (s : State) : Host.Outcome State Fault Refusal :=
  let s := s.setFlt (s.fltActive.filter fun k => decide (k ≠ n.val))
  .next ((List.range 24).foldl (fun s p => s.pairSourceGone p n) s)

/-- FAULT_CLEAR of a pair (R291). -/
def execFaultClear (req : Requester) (p : Fin 24) (value : Int) (s : State) : Host.Outcome State Fault Refusal :=
  .next (guarded req (0x5020 + p) 0x26 engineers (decide (value = 1)) true
    (if (s.pair p).sources = [] then 0 else 0x0C93)
    (fun s => if (s.pair p).fault then s.pairRelease p else s) s)

end Sys2Proof.Machine
end

