-- ==== Sys2Proof/Machine/GateLink.lean ====
section
/-! DEFINITION. Gate lanes, gate nodes, time-scheduled edges, remote pairs and the Rake (R305 to R342). -/

namespace Sys2Proof.Machine

/-! ## What a lane carries (R308): each item by the byte of the special character that opens it -/

def glIdle : Nat := 0xBC       -- K28.5, then D16.2
def glCyc : Nat := 0x5C        -- K28.2
def glSob : Nat := 0xFB        -- K27.7
def glEob : Nat := 0xFD        -- K29.7
def glMgmt : Nat := 0x7C       -- K28.3, then 9 data characters
def glStatus : Nat := 0x3C     -- K28.1, then 8 data characters; up
def glStop : Nat := 0x1C       -- K28.0, then D(channel)
def glInhibit : Nat := 0x9C    -- K28.4, then D21.5
def glEchoReply : Nat := 0xDC  -- K28.6, then D(node); up
def glEdge : Nat := 0          -- the 8 data characters of an edge command inside a block

/-- D16.2 and D21.5 (R308). -/
def dIdle : Nat := 0x50
def dInhibit : Nat := 0xB5

/-- CRC-8 of R310: polynomial 0x07, initial 0, most significant bit first. -/
def crc8Step : Nat → Nat → Nat
  | 0, c => c
  | k + 1, c => crc8Step k (if 128 ≤ c then ((c * 2) % 256) ^^^ 0x07 else c * 2)

def crc8 (b : Bytes) : Nat := b.foldl (fun c x => crc8Step 8 (c ^^^ x.toNat)) 0

/-- The eight data characters of an edge command (R311). -/
def edgeBytes (level : Bool) (channel : Nat) (time : ST32) (seq : Nat) : Bytes :=
  let b := BitVec.ofNat 8 (128 * level.toNat + channel) :: (toBe 4 time.toNat ++ toBe 2 (seq % 65536))
  b ++ [BitVec.ofNat 8 (crc8 b)]

/-- The nine data characters of a management frame: NODE, TYPE, payload with unused bytes zero, CRC (R312). -/
def mgmtBytes (n type : Nat) (payload : Bytes) : Bytes :=
  let b := BitVec.ofNat 8 n :: BitVec.ofNat 8 type :: (payload ++ List.replicate 6 0#8).take 6
  b ++ [BitVec.ofNat 8 (crc8 b)]

/-- Data characters as a message's fields. -/
def dataChars (b : Bytes) : List Int := b.map fun x => (x.toNat : Int)

/-- The commands up to the first turn-on of a list. -/
def upToOn : List (Bool × ST64) → List (Bool × ST64)
  | [] => []
  | c :: r => if c.1 then [c] else c :: upToOn r

namespace State

def lane (s : State) (l : Nat) : GateLane := vget s.lanes l GateLane.idle
def node (s : State) (l n : Nat) : GateNode := if n < 24 then vget s.nodes (l * 24 + n) GateNode.absent else GateNode.absent
def remote (s : State) (l p : Nat) : RemotePair := vget s.remotes (l * 24 + p) RemotePair.idle
def modLane (s : State) (l : Nat) (g : GateLane → GateLane) : State := { s with lanes := vmod s.lanes l g }
def modNode (s : State) (l n : Nat) (g : GateNode → GateNode) : State := { s with nodes := vmod s.nodes (l * 24 + n) g }
def modRemote (s : State) (l p : Nat) (g : RemotePair → RemotePair) : State :=
  { s with remotes := vmod s.remotes (l * 24 + p) g }

/-- Entries of a lane, a remote pair and a node (R335, R337, R339). -/
def laneEntry (l : Nat) : Nat := 0x6000 + l
def remoteEntry (l p : Nat) : Nat := 0x6100 + 0x20 * l + p
def nodeEntry (l n : Nat) : Nat := 0x6200 + 0x20 * l + n

/-- A lane is in use. -/
def laneEnabled (s : State) (l : Nat) : Bool := decide (s.cfg (laneEntry l) 0x01 = 1)

/-- The node that serves a channel (R306). -/
def nodeOf (s : State) (l ch : Nat) : Option Nat :=
  (List.range (s.cfgN (laneEntry l) 0x02)).find? fun n =>
    let base := s.cfgN (nodeEntry l n) 0x01
    decide (base ≤ ch ∧ ch < base + s.cfgN (nodeEntry l n) 0x02)

/-- The remote pairs a node serves. -/
def nodePairs (s : State) (l n : Nat) : List Nat :=
  (List.range 24).filter fun p => decide (s.nodeOf l (2 * p) = some n)

/-- A special character with its data characters leaves a lane. -/
def laneSend (s : State) (l type : Nat) (fields : List Int) : State := s.send (.gateLink l type fields)

/-- A management frame to a node (R312). -/
def mgmt (s : State) (l n type : Nat) (payload : Bytes) : State :=
  s.laneSend l glMgmt (dataChars (mgmtBytes n type payload))

/-- An open block closes when the lane's queue is empty or the block holds 32 commands (R311). -/
def closeBlock (s : State) (l : Nat) : State :=
  let g := s.lane l
  if g.block ≠ 0 ∧ (g.queue = [] ∨ g.block = 32) then
    (s.laneSend l glEob []).modLane l fun g => { g with block := 0 }
  else s

/-- A block is open, with one more command in it. -/
def openBlock (s : State) (l : Nat) : State :=
  let s := if (s.lane l).block = 0 then s.laneSend l glSob [] else s
  s.modLane l fun g => { g with block := g.block + 1 }

/-! ## STOP, INHIBIT, RELEASE (R309, R350, R352, R379) -/

/-- A pair's commanded level, from the commands sent whose TIME has passed. -/
def cmdLevel (s : State) (cmds : List (Bool × ST64)) : Bool :=
  match cmds.find? fun c => decide (sdiff c.2 s.now ≤ 0) with
  | some c => c.1
  | none => false

/-- TIME of the latest LEVEL = 1 command whose TIME has passed (R347). -/
def cmdOnAt (s : State) (cmds : List (Bool × ST64)) : Option ST64 :=
  (cmds.find? fun c => c.1 && decide (sdiff c.2 s.now ≤ 0)).map (·.2)

/-- The commands whose TIME has passed, back to the latest turn-on among them. -/
def cmdsPassed (s : State) (cmds : List (Bool × ST64)) : List (Bool × ST64) :=
  upToOn (cmds.filter fun c => decide (sdiff c.2 s.now ≤ 0))

/-- The commands still to come, and those passed that R347 and R349 look at. -/
def cmdsKept (s : State) (cmds : List (Bool × ST64)) : List (Bool × ST64) :=
  (cmds.filter fun c => decide (0 < sdiff c.2 s.now)) ++ s.cmdsPassed cmds

/-- STOP naming a channel (R309, R316, R350): the switch goes off; its commands and the turn-ons of its complement are
discarded, at the node and in the lane's queue; both switches are held until a release. -/
def sendStop (s : State) (l ch : Nat) : State :=
  let p := ch / 2
  let low := decide (ch % 2 = 1)
  let s := (s.laneSend l glStop [ch]).count (laneEntry l) 0x28
  let s := s.flag (remoteEntry l p) 0x24 0
  let s := s.modLane l fun g =>
    { g with queue := g.queue.filter fun c => decide (c.channel ≠ ch ∧ (c.channel / 2 ≠ p ∨ c.level = false)) }
  let stopped (c : List (Bool × ST64)) : List (Bool × ST64) := (false, s.now) :: s.cmdsPassed c
  let blocked (c : List (Bool × ST64)) : List (Bool × ST64) := c.filter fun c => !c.1 || decide (sdiff c.2 s.now ≤ 0)
  (s.modRemote l p fun q =>
    { q with hStop := q.hStop || !low, lStop := q.lStop || low
             hCmds := if low then blocked q.hCmds else stopped q.hCmds
             lCmds := if low then stopped q.lCmds else blocked q.lCmds }).closeBlock l

/-- The switch logic of a remote pair after a stop: a pulse that the node has ended is over now. -/
def stoppedLogic (s : State) (w : SwitchLogic) (cmds : List (Bool × ST64)) : SwitchLogic :=
  if s.cmdLevel cmds then w else cutNow w s.now

/-- RELEASE naming both channels of a pair (R358). -/
def sendRelease (s : State) (l p : Nat) : State :=
  let s := s.modRemote l p fun q =>
    { q with hStop := false, lStop := false, h := s.stoppedLogic q.h q.hCmds, l := s.stoppedLogic q.l q.lCmds }
  match s.nodeOf l (2 * p) with
  | some n =>
    let k := 2 * p - s.cfgN (nodeEntry l n) 0x01
    s.mgmt l n 0x07 [BitVec.ofNat 8 ((1 <<< k) + (1 <<< (k + 1)))]
  | none => s

/-- INHIBIT on one lane: every switch off, commands queued and pending discarded, not counted as refused (R320); the Rake's
record starts again (R327). -/
def inhibitLane (s : State) (l : Nat) : State :=
  let s := if s.laneEnabled l then s.laneSend l glInhibit [(dInhibit : Int)] else s
  let s := (s.modLane l fun g => { g with inhibit := true, queue := [] }).closeBlock l
  (List.range 24).foldl (fun s p => s.modRemote l p fun q =>
    { q with h := cutNow q.h s.now, l := cutNow q.l s.now, hCmds := (false, s.now) :: s.cmdsPassed q.hCmds
             lCmds := (false, s.now) :: s.cmdsPassed q.lCmds, record := false, inserted := false }) s

def inhibitLanes (s : State) : State := (List.range 8).foldl (fun s l => s.inhibitLane l) s

/-- Gate lanes may send edge commands again: the INHIBIT gives way to IDLE (R316, R378). -/
def upliftLanes (s : State) : State :=
  (List.range 8).foldl (fun s l =>
    let s := if s.laneEnabled l then s.laneSend l glIdle [(dIdle : Int)] else s
    s.modLane l fun g => { g with inhibit := false }) s

/-- Every lane takes a rate: full or drip (R307). -/
def laneRates (s : State) (full : Bool) : State :=
  (List.range 8).foldl (fun s l => s.modLane l fun g => { g with fullRate := full }) s

/-! ## The command queue (R311, R319, R320) -/

/-- An edge command enters its lane's queue; PEAK_BACKLOG follows. None is queued while pulses are withheld or while the
pair is held by a STOP (R320, R350). -/
def queueEdge (s : State) (l ch : Nat) (level : Bool) (t : ST64) (rake : Bool) : State :=
  let q := s.remote l (ch / 2)
  if !s.pulsing || q.hStop || q.lStop then s
  else
    let s := s.modLane l fun g => { g with queue := g.queue ++ [⟨ch, level, BitVec.ofNat 32 t.toNat, none, rake⟩] }
    let n := (s.lane l).queue.length
    if s.regN (laneEntry l) 0x29 < n then s.put (laneEntry l) 0x29 n else s

/-- A command refused under R319 or R320 restores a Rake submodule's previous record (R327). -/
def refuseEdge (s : State) (l : Nat) (c : EdgeCmd) : State :=
  if c.fromRake then
    let p := c.channel / 2
    let a := s.cfgN (remoteEntry l p) 0x06
    let s := s.modRemote l p fun q => { q with inserted := q.previous.1, record := q.previous.2 }
    if a < 6 then s.flag (0x6300 + a) 0x28 3 else s
  else s

/-- The lead of a command (R319). -/
def leadOf (s : State) (c : EdgeCmd) : Int := (c.time - BitVec.ofNat 32 s.now.toNat).toInt

/-- Lead from 1.5 us to 8 ms inclusive. -/
def leadOk (lead : Int) : Bool := decide ((384000 : Int) ≤ lead ∧ lead ≤ 2048000000)

/-- Commands outstanding at a node: sent and TIME not passed (R320). -/
def outstanding (s : State) (l n : Nat) : Nat :=
  ((s.node l n).sent.filter fun t => decide (0 < (t - BitVec.ofNat 32 s.now.toNat).toInt)).length

/-- The ST64 an ST32 execution time names, seen from now (R9). -/
def timeOf32 (s : State) (t : ST32) : ST64 := later s.now ((t - BitVec.ofNat 32 s.now.toNat).toInt)

/-- A command leaves the lane, in a block: the lane's command count, the node's sent times and the pair's commands
follow. -/
def departEdge (s : State) (l : Nat) (c : EdgeCmd) : State :=
  let p := c.channel / 2
  let s := match c.resend with
    | some _ => s.count (laneEntry l) 0x27
    | none => s.countBy 64 (laneEntry l) 0x24 1
  let seq := c.resend.getD ((s.regN (laneEntry l) 0x24) % 65536)
  let s := ((s.openBlock l).laneSend l glEdge (dataChars (edgeBytes c.level c.channel c.time seq))).closeBlock l
  let t := s.timeOf32 c.time
  let s := match s.nodeOf l c.channel with
    | some n => s.modNode l n fun g => { g with sent := c.time :: g.sent }
    | none => s
  let s := s.count (remoteEntry l p) 0x27
  s.modRemote l p fun q =>
    if c.channel % 2 = 0 then { q with hCmds := (c.level, t) :: s.cmdsKept q.hCmds }
    else { q with lCmds := (c.level, t) :: s.cmdsKept q.lCmds }

/-- GL_LEAD_REFUSED, at most once per lane per 1 ms (R319). -/
def leadEvent (s : State) (l ch : Nat) (lead : Int) : State :=
  let due := match (s.lane l).lastLeadEvent with
    | none => true
    | some t => decide ((ms 1 : Int) ≤ sdiff s.now t)
  if due then
    (s.modLane l fun g => { g with lastLeadEvent := some s.now }).event 0x0A12 [l, ch, lead]
  else s

/-- The command at the head of a lane's queue departs, or is refused. -/
def tryEdge (s : State) (l : Nat) (c : EdgeCmd) : State :=
  let lead := s.leadOf c
  let full := match s.nodeOf l c.channel with
    | some n => decide (1 <<< (s.node l n).depth ≤ s.outstanding l n)
    | none => false
  if !leadOk lead then
    ((((s.count (laneEntry l) 0x25).flag (laneEntry l) 0x2A 2).leadEvent l c.channel lead).refuseEdge l c).closeBlock l
  else if full then
    (((s.count (laneEntry l) 0x26).flag (laneEntry l) 0x2A 3).refuseEdge l c).closeBlock l
  else s.departEdge l c

/-! ## The edge generator (R322) -/

end State

/-- The edge generator at work on one pair: its switches and the transitions found, oldest first. -/
structure EdgeGen where
  h : SwitchLogic
  l : SwitchLogic
  out : List (Bool × Bool × ST64)     -- low, level, instant
  overlap : Option Bool               -- an overlap, with the switch held
  drop : Bool
deriving DecidableEq, Repr

/-- A switch's pulse is in progress or decided for later. -/
def pulseLive (w : SwitchLogic) (t : ST64) : Bool :=
  match w.onAt with
  | none => false
  | some _ => match w.offAt with | none => true | some o => decide (0 < sdiff o t)

/-- A turn-off at an instant of the interval. -/
def edgeOff (c : Carrier) (indep : Bool) (a b : Nat) (low : Bool) (t : ST64) (g : EdgeGen) : EdgeGen :=
  let w := if low then g.l else g.h
  if cmdOn c indep a b low (c.pos t) then g
  else match w.onAt with
    | none => g
    | some on =>
      let ends := match w.offAt with | none => true | some o => decide (0 ≤ sdiff o t)
      if !ends then g
      else
        let started := decide (sdiff on t < 0)
        let w' : SwitchLogic := if started then { w with offAt := some t } else takeBack w
        let g := if low then { g with l := w' } else { g with h := w' }
        if started then { g with out := g.out ++ [(low, false, t)] } else g

/-- A turn-on at an instant of the interval; an on-edge that falls at or after the interval's end is left to the next. -/
def edgeOn (c : Carrier) (indep : Bool) (a b dead minp : Nat) (low : Bool) (endT t : ST64) (g : EdgeGen) : EdgeGen :=
  let me := if low then g.l else g.h
  let other := if low then g.h else g.l
  if !cmdOn c indep a b low (c.pos t) || pulseLive me t then g
  else
    let r := turnOn c indep a b dead minp low me other t
    let g := if low then { g with l := r.me } else { g with h := r.me }
    let g := { g with overlap := if r.overlap then some low else g.overlap, drop := g.drop || r.drop }
    if pulseLive r.me t then
      match r.me.onAt with
      | some on => if sdiff on endT < 0 then { g with out := g.out ++ [(low, true, on)] } else g
      | none => g
    else g

/-- An on-edge an earlier interval left to this one. -/
def edgePending (low : Bool) (endT t : ST64) (g : EdgeGen) : EdgeGen :=
  match (if low then g.l else g.h).onAt with
  | some on =>
    if 0 ≤ sdiff on t ∧ sdiff on endT < 0 ∧ pulseLive (if low then g.l else g.h) t then
      { g with out := g.out ++ [(low, true, on)] }
    else g
  | none => g

/-- One instant: turn-offs act first; of two turn-ons H is decided first, so that a tie holds L (R282). -/
def edgeStep (c : Carrier) (indep : Bool) (a b dead minp : Nat) (endT : ST64) (g : EdgeGen) (t : ST64) : EdgeGen :=
  let g := edgeOff c indep a b false t g
  let g := edgeOff c indep a b true t g
  let g := edgeOn c indep a b dead minp false endT t g
  edgeOn c indep a b dead minp true endT t g

/-- A number put into a rising list without repeats. -/
def insertNat (n : Nat) : List Nat → List Nat
  | [] => [n]
  | m :: r => if n = m then m :: r else if n < m then n :: m :: r else m :: insertNat n r

/-- The instants inside the interval at which a command changes, as offsets from its start. -/
def crossings (c : Carrier) (indep : Bool) (a b pos len : Nat) : List Nat :=
  let cs := [a * 10, 2 * c.half - a * 10, c.half] ++
    (if indep then [c.fine - b * 10, 2 * c.half - (c.fine - b * 10)] else [])
  (cs.map fun (x : Nat) => if c.len = 0 then 0 else (x + c.len - pos) % c.len).foldl
    (fun (l : List Nat) x => if 0 < x ∧ x < len then insertNat x l else l) []

/-- The transitions of the interval that starts at t. A pulse carried into it ends as the new compares say (R281, R322). -/
def edgeInterval (c : Carrier) (indep : Bool) (a b dead minp : Nat) (q : RemotePair) (t : ST64) (len : Nat) : EdgeGen :=
  let endT := later t len
  let g : EdgeGen := ⟨replan c indep a b false q.h t, replan c indep a b true q.l t, [], none, false⟩
  let g := edgePending true endT t (edgePending false endT t g)
  let g := edgeStep c indep a b dead minp endT g t
  (crossings c indep a b (c.pos t) len).foldl (fun g (o : Nat) => edgeStep c indep a b dead minp endT g (later t (o : Int))) g

namespace State

/-- The remote pairs a Furrow carries. -/
def remotesOn (s : State) (f : Nat) : List (Nat × Nat) :=
  (List.range 192).filterMap fun i =>
    let l := i / 24
    let p := i % 24
    if s.cfg (remoteEntry l p) 0x01 = 1 ∧ s.cfgN (remoteEntry l p) 0x02 = f then some (l, p) else none

/-- The span from a reload to the Furrow's next reload. -/
def reloadSpan (s : State) (f : Nat) : Nat :=
  let c := s.carrier f
  if c.updown && decide (s.pcfg (0x5000 + f) 0x04 = 2) then c.half else c.len

/-- GL_XCOND, with XCOND in the pair entry (R322). -/
def remoteXcond (s : State) (f l p : Nat) (low : Bool) : State :=
  let s := (s.flag (remoteEntry l p) 0x24 2).count (remoteEntry l p) 0x25
  let z := (s.carrier f).begin s.now
  if (s.remote l p).xcondAt = some z then s
  else (s.modRemote l p fun q => { q with xcondAt := some z }).event 0x0A14 [l, p, low.toNat]

/-- The remote compares in use: CMPA_LIVE, and CMPB as last transferred. -/
def remoteA (s : State) (l p : Nat) : Nat := s.regN (remoteEntry l p) 0x22
def remoteB (s : State) (l p : Nat) : Nat := (s.remote l p).liveB

/-- The latest firmware value due for CMPA or CMPB of a remote pair. -/
def latestWrite (isB : Bool) (l : List (Bool × Nat × ST64)) : Option Nat :=
  ((l.filter fun w => w.1 == isB).getLast?).map fun w => w.2.1

/-- A remote pair takes the requests due at this reload (R321), then its edges of the interval are generated (R322). -/
def reloadRemote (s : State) (f : Nat) (lp : Nat × Nat) : State :=
  let l := lp.1
  let p := lp.2
  let q := s.remote l p
  let duties := (s.furrow f).remoteDuties.filter fun r => decide (r.1 = l * 24 + p)
  let dueD := duties.filter fun r => reloadDue s.now r.2.2
  let dueW := q.shadowWrites.filter fun w => reloadDue s.now w.2.2
  let late := (duties.filter fun r => !reloadDue s.now r.2.2).length +
    (q.shadowWrites.filter fun w => !reloadDue s.now w.2.2).length
  let s := s.countBy 32 (0x5000 + f) 0x26 late
  let s := if dueW.isEmpty && dueD.isEmpty then s
    else
      let a := match latestDuty (l * 24 + p) dueD with
        | some d => dutyCompare d (s.regN (0x5000 + f) 0x22 * 64)
        | none => (latestWrite false dueW).getD (s.remoteA l p)
      (s.put (remoteEntry l p) 0x22 (a : Nat)).modRemote l p fun q =>
        { q with patternOn := true, liveB := (latestWrite true dueW).getD q.liveB
                 shadowWrites := q.shadowWrites.filter fun w => !reloadDue s.now w.2.2 }
  let q := s.remote l p
  if q.patternOn && s.pulsing && !q.hStop && !q.lStop then
    let indep := decide (s.cfg (remoteEntry l p) 0x03 = 1)
    let g := edgeInterval (s.carrier f) indep (s.remoteA l p) (s.remoteB l p)
      (s.cfgN (remoteEntry l p) 0x04 * 10) (s.cfgN (remoteEntry l p) 0x05 * 10) q s.now (s.reloadSpan f)
    let shift := ns (s.cfgN (laneEntry l) 0x03)
    let s := s.modRemote l p fun q => { q with h := g.h, l := g.l }
    let s := g.out.foldl (fun s e => s.queueEdge l (2 * p + e.1.toNat) e.2.1 (later e.2.2 shift) false) s
    let s := match g.overlap with
      | some low => s.remoteXcond f l p low
      | none => s
    if g.drop then s.flag (remoteEntry l p) 0x24 1 else s
  else s

/-- The remote part of a reload event. -/
def reloadRemotes (s : State) (f : Nat) : State :=
  let s' := (s.remotesOn f).foldl (fun s lp => s.reloadRemote f lp) s
  s'.modFurrow f fun g => { g with remoteDuties := g.remoteDuties.filter fun r => !reloadDue s.now r.2.2 }

/-- Remote pairs lose their pattern when the Furrow clock stops (R686). -/
def clearRemotes (s : State) : State :=
  (List.range 192).foldl (fun s i => s.modRemote (i / 24) (i % 24) fun q =>
    { q with h := .off, l := .off, patternOn := false, shadowWrites := [] }) s

/-- The live compares of every remote pair on a Furrow are 0 when the Furrow clock starts (R686). -/
def startRemotes (s : State) : State :=
  (List.range 12).foldl (fun s f => (s.remotesOn f).foldl (fun s x =>
    (s.put (remoteEntry x.1 x.2) 0x22 0).modRemote x.1 x.2 fun q => { q with liveB := 0, patternOn := false }) s) s

/-! ## The Rake (R325 to R330) -/

end State

/-- One submodule as a run sees it. -/
structure Submodule where
  slot : Nat          -- global slot
  vcap : Nat
  inserted : Bool
deriving DecidableEq, Repr

/-- The order of R326: by VCAP, ascending or descending, ties to the lower slot. -/
def rakeBefore (asc : Bool) (x y : Submodule) : Bool :=
  if x.vcap = y.vcap then decide (x.slot ≤ y.slot)
  else if asc then decide (x.vcap < y.vcap) else decide (y.vcap < x.vcap)

def rakeInsert (asc : Bool) (x : Submodule) : List Submodule → List Submodule
  | [] => [x]
  | y :: r => if rakeBefore asc x y then x :: y :: r else y :: rakeInsert asc x r

def rakeSort (asc : Bool) (l : List Submodule) : List Submodule := l.foldr (rakeInsert asc) []

/-- The slot's record changed in an ordered list. -/
def rakeSet (slot : Nat) (v : Bool) (l : List Submodule) : List Submodule :=
  l.map fun x => if x.slot = slot then { x with inserted := v } else x

/-- Step 3: the first removed ones are inserted, or the last inserted ones removed. -/
def rakeStep3 (n : Nat) (l : List Submodule) : List Submodule :=
  let ins := l.filter (·.inserted)
  let rem := l.filter fun x => !x.inserted
  if ins.length < n then (rem.take (n - ins.length)).foldl (fun l x => rakeSet x.slot true l) l
  else (ins.drop n).foldl (fun l x => rakeSet x.slot false l) l

/-- Step 4: at most k swaps of the latest inserted with the earliest removed; the list and the number of swaps made. -/
def rakeSwaps (asc : Bool) (hyst : Nat) : Nat → List Submodule × Nat → List Submodule × Nat
  | 0, r => r
  | k + 1, r =>
    match (r.1.filter (·.inserted)).getLast?, (r.1.filter fun x => !x.inserted).head? with
    | some i, some o =>
      let diff : Int := if asc then (i.vcap : Int) - o.vcap else (o.vcap : Int) - i.vcap
      if (hyst : Int) < diff then rakeSwaps asc hyst k (rakeSet o.slot true (rakeSet i.slot false r.1), r.2 + 1) else r
    | _, _ => r

namespace State

def arm (s : State) (a : Nat) : RakeArm := vget s.arms a RakeArm.idle
def modArm (s : State) (a : Nat) (g : RakeArm → RakeArm) : State := { s with arms := vmod s.arms a g }

/-- The enabled remote pairs of an arm: lane, pair and slot (R325). -/
def armPairs (s : State) (a : Nat) : List (Nat × Nat × Nat) :=
  (List.range 192).filterMap fun i =>
    let l := i / 24
    let p := i % 24
    if s.cfg (remoteEntry l p) 0x01 = 1 ∧ s.cfgN (remoteEntry l p) 0x06 = a then
      some (l, p, s.cfgN (remoteEntry l p) 0x07)
    else none

/-- VCAP of a pair's node. -/
def pairVcap (s : State) (l p : Nat) : Nat :=
  match s.nodeOf l (2 * p) with
  | some n => s.regN (nodeEntry l n) 0x23
  | none => 0

/-- Every health condition of R326 but the freshness of VCAP, and that one. -/
def pairHealth (s : State) (l p : Nat) : Bool × Bool :=
  match s.nodeOf l (2 * p) with
  | some n =>
    let g := s.node l n
    let q := s.remote l p
    (g.present && !g.bypassed && !g.linkFault && !q.hStop && !q.lStop, decide (g.vcapAge < 4))
  | none => (false, false)

def pairHealthy (s : State) (l p : Nat) : Bool := (s.pairHealth l p).1 && (s.pairHealth l p).2

/-- A published output word a SPACE 2 reference names (R88, R100). -/
def published (s : State) (ref : Nat) : BitVec 32 :=
  if Bed.refSpace ref = 2 then
    peek (Bed.refAddr ref % 0x100) (vget s.engines (Bed.refAddr ref / 0x100) Engine.idle).published
  else 0#32

/-- One submodule takes the state a run gives it: two edges on a change, one on-edge at the first run after pulsing
begins (R326, R327). A run while pulses are withheld commands nothing and records nothing. -/
def rakeCommand (s : State) (a : Nat) (t : ST64) (l p : Nat) (want : Bool) : State :=
  if !s.pulsing then s
  else
  let q := s.remote l p
  let at0 := later t (ns (s.cfgN (0x6300 + a) 0x05))
  let at1 := later at0 ((s.cfgN (remoteEntry l p) 0x04 * 10 : Nat) : Int)
  let s := s.modRemote l p fun q =>
    { q with previous := (q.inserted, q.record), inserted := want, record := true }
  if !q.record then s.queueEdge l (2 * p + (!want).toNat) true at0 true
  else if q.inserted = want then s
  else if want then (s.queueEdge l (2 * p + 1) false at0 true).queueEdge l (2 * p) true at1 true
  else (s.queueEdge l (2 * p) false at0 true).queueEdge l (2 * p + 1) true at1 true

/-- Every healthy local submodule takes its part of a set, local slot s being global slot base + s. -/
def rakeApply (s : State) (a : Nat) (t : ST64) (base : Nat) (want : Nat → Bool) : State :=
  (s.armPairs a).foldl (fun s x =>
    if s.pairHealthy x.1 x.2.1 then s.rakeCommand a t x.1 x.2.1 (want (base + x.2.2)) else s) s

/-- The bit map of global slots inserted (R341). -/
def insertedBytes (l : List Nat) : Bytes :=
  (List.range 32).map fun i => BitVec.ofNat 8 (ofBits ((List.range 8).map fun b => l.contains (8 * i + b)))

/-- A bit of a byte string, bit s of byte s / 8. -/
def byteBit (b : Bytes) (n : Nat) : Bool := bitOf (leNat (slice b (n / 8) 1)) (n % 8)

/-- The latest report of each member that arrived before T (R562). -/
def shareLatest (s : State) (a : Nat) (t : ST64) : List ShareReport :=
  let l := (s.arm a).reports.filter fun r => decide (sdiff r.arrived t < 0)
  (List.range 4).filterMap fun m => l.find? fun r => decide (r.member = m)

/-- Submodules of the other members of a shared arm, from their latest reports; one older than 4 us, or of a member that is
not reachable, gives none (R329, R562, R566). -/
def shareSubs (s : State) (a : Nat) (t : ST64) : List Submodule :=
  if s.cfgN (0x6300 + a) 0x06 < 16 then
    (s.shareLatest a t).flatMap fun r =>
      if sdiff t r.stamp ≤ (us 4 : Int) ∧ bitOf (s.regN 0x1700 0x23) r.src then
        (List.range 64).filterMap fun k =>
          if r.health.getD k false then
            let g := r.member * 64 + k
            some ⟨g, r.codes.getD k 0, byteBit (s.regB (0x6300 + a) 0x23) g⟩
          else none
      else []
  else []

/-- The Rake's choice for a count n: the healthy submodules, the count met, the slots inserted and the swaps made (R326,
R329). -/
def rakePlan (s : State) (a n : Nat) (t : ST64) : Nat × Nat × List Nat × Nat :=
  let subs := ((s.armPairs a).filterMap fun x =>
      if s.pairHealthy x.1 x.2.1 then
        some (⟨x.2.2, s.pairVcap x.1 x.2.1, (s.remote x.1 x.2.1).record && (s.remote x.1 x.2.1).inserted⟩ : Submodule)
      else none) ++ s.shareSubs a t
  let cnt := min n subs.length
  let asc := decide (0 ≤ puOf (s.published (s.cfgN (0x6300 + a) 0x02)))
  let r := rakeSwaps asc (s.cfgN (0x6300 + a) 0x03) (s.cfgN (0x6300 + a) 0x04) (rakeStep3 cnt (rakeSort asc subs), 0)
  (subs.length, cnt, (r.1.filter (·.inserted)).map (·.slot), r.2)

/-- A pair of the arm has a stale report. -/
def rakeStale (s : State) (a : Nat) : Bool :=
  (s.armPairs a).any fun x => (s.pairHealth x.1 x.2.1).1 && !(s.pairHealth x.1 x.2.1).2

/-- The slots of unhealthy pairs that stay inserted. -/
def rakeKept (s : State) (a : Nat) : List Nat :=
  ((s.armPairs a).filter fun x => !s.pairHealthy x.1 x.2.1 && (s.remote x.1 x.2.1).inserted).map fun x => x.2.2

/-- NSM of the arm's NLC instance, 0 where it has none. -/
def rakeNsm (s : State) (a : Nat) : Int :=
  match Bed.nlc s.active a with
  | some w => (Bed.par s.active w.1 w.2 0x11 / 65536 : Int)
  | none => 0

/-- The registers of a run (R341). -/
def rakeRegs (s : State) (a : Nat) (t : ST64) (p : Nat × Nat × List Nat × Nat) : State :=
  let e := 0x6300 + a
  let s := ((s.put e 0x20 p.2.1).put e 0x21 p.1).put e 0x22 (satS 16 ((p.1 : Int) - s.rakeNsm a))
  let s := (s.putB e 0x23 (insertedBytes (p.2.2.1 ++ s.rakeKept a))).countBy 32 e 0x25 p.2.2.2
  (s.countBy 64 e 0x26 1).putT e 0x27 t

/-- A shared arm's master tells the members which of their slots are inserted (R329, R562). -/
def shareSets (s : State) (a : Nat) (t : ST64) (now : List Nat) : State :=
  if s.cfgN (0x6300 + a) 0x06 < 16 then
    (s.shareLatest a t).foldl (fun s r =>
      s.send (.runner r.src 0x21 [s.cfg (0x6300 + a) 0x06, r.member, ((s.toArray t).toNat : Int),
        (ofBits ((List.range 64).map fun k => now.contains (r.member * 64 + k)) : Nat)])) s
  else s

/-- The Rake's run on an arm at output phase t with a count (R326, R329). -/
def rakeRun (s : State) (a n : Nat) (t : ST64) : State :=
  let s := if s.rakeStale a then s.flag (0x6300 + a) 0x28 1 else s
  let p := s.rakePlan a n t
  let s := if p.1 < n then (s.flag (0x6300 + a) 0x28 0).event 0x0A16 [a, n, p.1] else s
  let s := s.rakeApply a t 0 fun g => p.2.2.1.contains g
  (s.rakeRegs a t p).shareSets a t p.2.2.1

/-- STALE_VCAP: a pair of an enabled arm fails the freshness of VCAP alone (R326). -/
def staleVcap (s : State) : State :=
  (List.range 6).foldl (fun s a =>
    if s.cfg (0x6300 + a) 0x01 = 1 ∧ s.rakeStale a then s.flag (0x6300 + a) 0x28 1 else s) s

/-! ## Nodes: link faults (R314, R315) -/

/-- A node's link fault begins: LINK_FAULT in the node (LINK_STATE), its pairs and the lane, counters and GL_LINK_FAULT. The
Shears takes its report from the caller. -/
def linkFaultOn (s : State) (l n cause : Nat) : State :=
  let s := s.modNode l n fun g => { g with linkFault := true, goodRun := 0 }
  let s := (s.flag (laneEntry l) 0x2A 0).count (nodeEntry l n) 0x29
  let s := (s.nodePairs l n).foldl (fun s p => s.flag (remoteEntry l p) 0x24 3) s
  s.event 0x0A10 [l, n, cause]

/-- A node's link fault ends (R314). -/
def linkFaultOff (s : State) (l n : Nat) : State :=
  (s.modNode l n fun g => { g with linkFault := false }).event 0x0A11 [l, n]

/-- The nodes a lane's chain holds. -/
def laneNodes (s : State) (l : Nat) : List Nat := (List.range 24).filter fun n => (s.node l n).present

/-- Upstream lock is lost (R336). -/
def upstreamLost (s : State) (l : Nat) : State :=
  (s.modLane l fun g => { g with upLock := false }).flag (laneEntry l) 0x2A 4

/-! ## Bring-up (R317, R318, R324) -/

/-- CONFIG to a node, from its entry; its commands are counted from here (R312, R315). -/
def configNode (s : State) (l n : Nat) : State :=
  (s.mgmt l n 0x04 [BitVec.ofNat 8 (s.cfgN (nodeEntry l n) 0x01), BitVec.ofNat 8 (s.cfgN (nodeEntry l n) 0x02)]).modNode l n
    fun g => { g with sent := [], sentOld := 0, ackMismatch := 0 }

/-- A step of the chain procedure begins: its frame goes to every node. CONFIG has no answer; the status of every node is
awaited after it. -/
def chainStep (s : State) (l kind step : Nat) : State :=
  let nodes := s.laneNodes l
  let s := nodes.foldl (fun s n =>
    match step with
    | 2 => s.mgmt l n 0x08 []
    | 3 => s.mgmt l n 0x03 []
    | _ => s.configNode l n) s
  s.modLane l fun g => { g with chain := some ⟨kind, if step = 4 then 5 else step, nodes⟩ }

/-- A node has answered: when it was the last, the next step begins. -/
def chainAnswered (s : State) (l n : Nat) : State :=
  match (s.lane l).chain with
  | none => s
  | some c =>
    let left := c.left.filter fun k => decide (k ≠ n)
    let s := s.modLane l fun g => { g with chain := some { c with left := left } }
    if left = [] ∧ c.left ≠ [] ∧ (c.step = 2 ∨ c.step = 3) then s.chainStep l c.kind (c.step + 1) else s

/-- Steps 3 and 4 begin again (R324, R540). -/
def chainResync (s : State) (l kind : Nat) : State := s.chainStep l kind 3

/-- DELAY + 4 x SETUP ns above 1300 ns at some node (R318); SETUP is in units of 4 ns. -/
def chainTooLong (s : State) (l : Nat) : Bool :=
  (s.laneNodes l).any fun n =>
    decide ((ns 1300 : Nat) < s.regN (nodeEntry l n) 0x20 + ns (4 * (s.node l n).setup))

/-- Every step is done and every node has sent status; a chain of no nodes has nothing to do (R324). -/
def chainDone (s : State) (l : Nat) (c : ChainRun) : Bool :=
  (decide (c.step = 5) || decide (s.regN (laneEntry l) 0x23 = 0 ∧ s.cfgN (laneEntry l) 0x02 = 0)) && c.left.isEmpty

/-- CHAIN_RESULT of a procedure that has ended: silent where a node has not answered, its status included. -/
def chainOutcome (s : State) (l : Nat) (c : ChainRun) (refused : Bool) : Nat :=
  if s.regN (laneEntry l) 0x23 ≠ s.cfgN (laneEntry l) 0x02 then 3
  else if refused then 4
  else if !s.chainDone l c then 5
  else if s.chainTooLong l then 6
  else 2

end State

/-! ## Commands -/

/-- The first character of the lane's next edge command is due to leave (R319, R320). A command cut short by a STOP or
an INHIBIT waits at the head of the queue with its sequence number (R309). -/
def execEdgeCmdDeparture (l : Fin 8) (cut : Bool) (s : State) : Host.Outcome State Fault Refusal :=
  match (s.lane l).queue with
  | [] => .next s
  | c :: r =>
    if !s.pulsing || (s.lane l).inhibit then .next s
    else if cut then
      let seq := c.resend.getD ((s.regN (State.laneEntry l) 0x24 + 1) % 65536)
      let s := if c.resend.isNone then s.countBy 64 (State.laneEntry l) 0x24 1 else s
      .next ((s.openBlock l).modLane l fun g => { g with queue := { c with resend := some seq } :: r })
    else .next ((s.modLane l fun g => { g with queue := r }).tryEdge l c)

/-- A node's answer to IDENT, DISCOVER or ECHO (R312, R317, R324). A frame whose CRC fails, or that is not of the node named,
is no answer (R310). -/
def execNodeMgmtResponse (l : Fin 8) (n : Fin 24) (r : NodeAnswer) (s : State) : Host.Outcome State Fault Refusal :=
  match (s.lane l).chain, r with
  | some c, .frame b =>
    let ok := decide (b.length = 9 ∧ crc8 (slice b 0 8) = leNat (slice b 8 1) ∧ leNat (slice b 0 1) = n.val)
    let type := leNat (slice b 1 1)
    if ok && decide (type = 0x89 ∧ c.kind = 1 ∧ leNat (slice b 2 1) = n.val) then
      let s := s.modNode l n fun _ => { GateNode.absent with present := true, judged := (s.lane l).cycles }
      let found := (s.laneNodes l).length
      let s := s.put (State.laneEntry l) 0x23 found
      .next (if c.step = 1 ∧ found = s.cfgN (State.laneEntry l) 0x02 then s.chainStep l 1 2 else s)
    else if ok && decide (type = 0x88 ∧ c.step = 2) && (s.node l n).present then
      let s := (s.putB (State.nodeEntry l n) 0x21 (slice b 2 6)).modNode l n fun g =>
        { g with turnaround := leNat (slice b 4 1), setup := leNat (slice b 5 1), depth := leNat (slice b 7 1) }
      .next (s.chainAnswered l n)
    else .next s
  | some c, .echoReply rt =>
    if c.step = 3 ∧ (s.node l n).present then
      let d := satU 32 (roundDiv ((rt : Int) - ns (s.node l n).turnaround) 2)
      .next (((s.put (State.nodeEntry l n) 0x20 d).mgmt l n 0x02 (toBe 4 d)).chainAnswered l n)
    else .next s
  | none, _ => .next s

/-- CHAIN_CMD = BRING_UP (R324). -/
def execBringUp (req : Requester) (l : Fin 8) (s : State) : Host.Outcome State Fault Refusal :=
  .next (guarded req (State.laneEntry l) 0x21 engineers true (wh s.ctl.mode) 0
    (fun s =>
      let s := (List.range 24).foldl (fun s n => s.modNode l n fun _ => GateNode.absent) s
      let s := (s.put (State.laneEntry l) 0x22 1).put (State.laneEntry l) 0x23 0
      (s.modLane l fun g => { g with chain := some ⟨1, 1, []⟩ }).mgmt l 0x1F 0x09 [0#8]) s)

/-- CHAIN_CMD = RESYNC: steps 3 and 4 again (R324). -/
def execResync (req : Requester) (l : Fin 8) (s : State) : Host.Outcome State Fault Refusal :=
  .next (guarded req (State.laneEntry l) 0x21 engineers true (wh s.ctl.mode) 0
    (fun s => (s.put (State.laneEntry l) 0x22 1).chainResync l 2) s)

/-- The chain procedure ends: its last step is done, a node has refused CONFIG, or 100 us have passed since a frame without
its answer (late); before that it goes on (R324). -/
def execChainComplete (l : Fin 8) (refused late : Bool) (s : State) : Host.Outcome State Fault Refusal :=
  match (s.lane l).chain with
  | none => .next s
  | some c =>
    if c.kind = 3 ∨ !(refused || late || s.chainDone l c) then .next s
    else .next ((s.put (State.laneEntry l) 0x22 (s.chainOutcome l c refused)).modLane l fun g => { g with chain := none })

/-- A BYPASS command frame leaves for a node, with its event (R312, R328, R333). -/
def State.bypass (s : State) (l n action cause : Nat) : State :=
  let s := s.mgmt l n 0x06 [if action = 1 then 1#8 else 0#8]
  let s := if action = 1 then s
    else (s.nodePairs l n).foldl (fun s p =>
      s.modShears fun v => { v with legs := vmod v.legs (24 + 24 * l + p) fun g => { g with bypassSent := false } }) s
  (s.modNode l n fun g => { g with bypassed := decide (action = 1) }).event 0x0A15 [l, n, action, cause]

/-- BYPASS = 1 of a node, in any mode (R328). -/
def execBypassClose (req : Requester) (l : Fin 8) (n : Fin 24) (s : State) : Host.Outcome State Fault Refusal :=
  .next (guarded req (State.nodeEntry l n) 0x2B engineers true true
    (if (s.node l n).present then 0 else 0x0CA2) (fun s => s.bypass l n 1 2) s)

/-- BYPASS = 2 of a node, in WATCH and HALT (R328). -/
def execBypassOpen (req : Requester) (l : Fin 8) (n : Fin 24) (s : State) : Host.Outcome State Fault Refusal :=
  .next (guarded req (State.nodeEntry l n) 0x2B engineers true (wh s.ctl.mode)
    (if (s.node l n).present then 0 else 0x0CA2) (fun s => s.bypass l n 2 2) s)

/-- A SHARE_REPORT from a position reaches the master of a shared arm (R329, R557, R562). -/
def execShareReportRx (shareId : Fin 16) (head : ShareHead) (vcaps : List Nat) (health : List Bool) (s : State) :
    Host.Outcome State Fault Refusal :=
  let member := head.member.val
  .next ((List.range 6).foldl (fun s a =>
    if s.cfg (0x6300 + a) 0x01 = 1 ∧ s.cfgN (0x6300 + a) 0x06 = shareId.val ∧ (Bed.nlc s.active a).isSome then
      s.modArm a fun g =>
        let before := (g.reports.filter fun r => decide (r.member = member ∧ sdiff r.arrived s.now < 0)).take 1
        { g with reports := ⟨member, head.src, s.now, s.fromArray head.instant, vcaps.take 64, health.take 64⟩ :: before ++
                   g.reports.filter fun r => decide (r.member ≠ member) }
    else s) s)

/-- The share-group master is heard again: this member's own ARRAY cause ends (R566). -/
def State.masterHeard (s : State) : State :=
  let s := s.modRunner fun r => { r with masterLost := false }
  if s.runner.origins = [] then s.dropCause .array else s

/-- The registers of a member's part of a run: its own slots by their global numbers, the count it applies and its healthy
submodules. A member has no NLC, so H - N takes N = 0 there (DESIGN CHOICE, log entry 114; R329, R341). -/
def State.memberRegs (s : State) (a member : Nat) (t : ST64) : State :=
  let e := 0x6300 + a
  let ins := ((s.armPairs a).filter fun x => (s.remote x.1 x.2.1).inserted).map fun x => member * 64 + x.2.2
  let healthy := ((s.armPairs a).filter fun x => s.pairHealthy x.1 x.2.1).length
  let s := ((s.put e 0x20 ins.length).put e 0x21 healthy).put e 0x22 (satS 16 ((healthy : Int) - s.rakeNsm a))
  ((s.putB e 0x23 (State.insertedBytes ins)).countBy 64 e 0x26 1).putT e 0x27 t

/-- A SHARE_SET reaches a member: it sends the commands for its part (R329). A set later than T + RAKE_SHIFT - 1600 ns is
not applied: the member has kept its present states (R330). -/
def execShareSetRx (shareId : Fin 16) (t : BitVec 64) (part : SharePart) (s : State) :
    Host.Outcome State Fault Refusal :=
  let t := s.fromArray t
  .next ((List.range 6).foldl (fun s a =>
    if s.cfg (0x6300 + a) 0x01 = 1 ∧ s.cfgN (0x6300 + a) 0x06 = shareId.val ∧ (Bed.nlc s.active a).isNone then
      let s := (s.modArm a fun g => { g with missed := 0 }).masterHeard
      if (ns (s.cfgN (0x6300 + a) 0x05) : Int) - ns 1600 < sdiff s.now t then s
      else
        let s := s.modArm a fun g => { g with setArrived := true, runAt := t }
        (s.rakeApply a t 0 fun g => part.insert.getLsbD g).memberRegs a part.member t
    else s) s)

/-- T + RAKE_SHIFT - 1600 ns at a member: without a set it keeps its present states (R330). -/
def execShareSetDeadline (a : Fin 6) (s : State) : Host.Outcome State Fault Refusal :=
  if s.cfg (0x6300 + a) 0x01 = 1 ∧ s.cfgN (0x6300 + a) 0x06 < 16 ∧ (Bed.nlc s.active a).isNone then
    if (s.arm a).setArrived then .next (s.modArm a fun g => { g with setArrived := false })
    else
      .next (((s.flag (0x6300 + a) 0x28 2).modArm a fun g => { g with missed := g.missed + 1 }).event 0x0A17
        [a.val, s.cfg (0x6300 + a) 0x06])
  else .next s

/-- Every 1 us a member reports its VCAP codes and health to the group master (R557, R562). -/
def execShareReportTx (a : Fin 6) (member : Fin 4) (s : State) : Host.Outcome State Fault Refusal :=
  if s.cfg (0x6300 + a) 0x01 = 1 ∧ s.cfgN (0x6300 + a) 0x06 < 16 then
    let slot (k : Nat) : Option (Nat × Nat × Nat) := (s.armPairs a).find? fun x => decide (x.2.2 = k)
    let health := ofBits ((List.range 64).map fun k =>
      match slot k with | some x => s.pairHealthy x.1 x.2.1 | none => false)
    let codes := (List.range 64).map fun k => match slot k with | some x => (s.pairVcap x.1 x.2.1 : Int) | none => 0
    .next (s.send (.runner 0xFE 0x20 ([s.cfg (0x6300 + a) 0x06, (member.val : Int), ((s.toArray s.now).toNat : Int), (health : Int)] ++ codes)))
  else .next s

end Sys2Proof.Machine
end

