-- ==== Sys2Proof/Machine/Harvest.lean ====
section
/-! DEFINITION. Harvest: triggers and disturbance capture (R440 to R459). -/

namespace Sys2Proof.Machine

namespace State

def hunit (s : State) (u : Nat) : HarvestUnit := vget s.harvest u HarvestUnit.idle
def modHunit (s : State) (u : Nat) (g : HarvestUnit → HarvestUnit) : State := { s with harvest := vmod s.harvest u g }

/-- A sensing channel as an engine or the Harvest reads it: the delivered sample as PU32, a comparator as 1.0 or 0
(R88, R442). -/
def sensed (s : State) (ch : Nat) : BitVec 32 :=
  if 192 ≤ ch then flagWord (decide (s.reg (0x2000 + ch) 0x20 = 1)) else ofPu (roundShift (s.reg (0x2000 + ch) 0x20) 7)

/-- A sensing channel as a latch takes it: word, stamp, and whether its status allows it to be new. A bitstream sample
that was not VALID or SUBSTITUTED when it was delivered stays so after the channel settles (R47, R90). -/
def sensedNow (s : State) (ch : Nat) : BitVec 32 × ST64 × Bool :=
  if 192 ≤ ch then (s.sensed ch, later s.now (-320), decide (s.cfg (0x2000 + ch) 0x01 = 1))
  else
    let st := s.reg (0x2000 + ch) 0x22
    (s.sensed ch, s.regT (0x2000 + ch) 0x21,
      decide (st = 2 ∨ st = 4) && (decide (48 ≤ ch) || (vget s.sieve.channels ch SieveChannel.idle).good))

/-- What a sensing channel gives before it changes is kept for the readers of this instant. -/
def noteSample (s : State) (ch : Nat) : State :=
  match look ch s.prior.samples with
  | some _ => s
  | none => s.modPrior fun p => { p with samples := ins ch (s.sensedNow ch) p.samples }

/-- The published copy of an engine before it changes. -/
def noteCopy (s : State) (e : Nat) : State :=
  match look e s.prior.copies with
  | some _ => s
  | none =>
    let n := vget s.engines e Engine.idle
    s.modPrior fun p => { p with copies := ins e (n.published, n.pubCount) p.copies }

/-- A shared sample before it changes. -/
def noteShared (s : State) (a : Nat) : State :=
  match look a s.prior.shared with
  | some _ => s
  | none => s.modPrior fun p => { p with shared := ins a (look a s.shared) p.shared }

/-- A sensing channel strictly before the present instant (R89). -/
def sensedBefore (s : State) (ch : Nat) : BitVec 32 × ST64 × Bool := (look ch s.prior.samples).getD (s.sensedNow ch)

/-- An engine's published copy and its count strictly before the present instant (R89). -/
def copyBefore (s : State) (e : Nat) : List (Nat × BitVec 32) × Nat :=
  (look e s.prior.copies).getD ((vget s.engines e Engine.idle).published, (vget s.engines e Engine.idle).pubCount)

/-- A shared sample strictly before the present instant (R89). -/
def sharedBefore (s : State) (a : Nat) : Option (BitVec 32 × ST64) :=
  match look (a % 512) s.prior.shared with
  | some v => v
  | none => look (a % 512) s.shared

/-- The value of a SPACE 1, 2 or 3 reference strictly before the present instant; own names the engine whose publication
at this instant counts (R441). -/
def sourceWord (s : State) (own : Option Nat) (ref : Nat) : BitVec 32 :=
  let a := Bed.refAddr ref
  match Bed.refSpace ref with
  | 1 => (s.sensedBefore a).1
  | 2 => if own = some (a / 0x100) then s.published ref else peek (a % 0x100) (s.copyBefore (a / 0x100)).1
  | 3 => match s.sharedBefore a with
    | some v => v.1
    | none => 0#32
  | _ => 0#32

/-- A published word is an angle. -/
def refAngle (s : State) (ref : Nat) : Bool :=
  match Bed.refWriter s.active ref with
  | some w => outputAngle (Bed.type s.active w.1 w.2.1) w.2.2
  | none => false

end State

/-! ## Layout of a frame (R442 to R446) -/

/-- A recorded channel: gain, width in bits and source. -/
structure HarvestChannel where
  gain : Nat
  bits : Nat
  source : Nat
deriving DecidableEq, Repr

/-- The recorded channels of a unit in ascending order, from one store. -/
def harvestChannels (st : Store) (u : Nat) : List HarvestChannel :=
  (List.range 64).filterMap fun k =>
    let w := Bed.nat st (0x9010 + u) (k + 1)
    let width := w / 0x10000 % 4
    if width = 0 then none else some ⟨w / 0x100000 % 16, 8 * (width + 1), w % 0x10000⟩

/-- FRAME_BYTES. -/
def frameBytes (st : Store) (u : Nat) : Nat :=
  let n := ((harvestChannels st u).map fun c => c.bits / 8).sum
  (n + 3) / 4 * 4

/-- LENGTH. -/
def harvestLength (st : Store) (u : Nat) : Nat :=
  let fb := frameBytes st u
  if fb = 0 then 0 else (Bed.nat st (0x9000 + u) 0x03 * 65536 - 64) / fb

/-- The recorded word of a channel: mean and gain, or the angle's top bits; the word and whether it saturated. -/
def harvestCode (angle : Bool) (c : HarvestChannel) (sum : Int) (n : Nat) : Int × Bool :=
  if angle then (((sum + (if c.bits = 32 then 0 else p2 (31 - c.bits))) % p2 32) / p2 (32 - c.bits), false)
  else
    let v := roundDiv (sum * p2 c.gain) (n * (1 <<< (32 - c.bits)))
    (satS c.bits v, decide (satS c.bits v ≠ v))

/-- A frame padded to a multiple of 4 bytes. -/
def padFrame (b : Bytes) : Bytes := b ++ List.replicate ((4 - b.length % 4) % 4) 0#8

/-- The codes of the states (R458). -/
def harvestCodeOf : HarvestState → Nat
  | .idle => 0 | .filling => 1 | .ready => 2 | .triggered => 3 | .done => 4

namespace State

/-- A number of a unit's settings in force. -/
def hset (s : State) (u k : Nat) : Int := Bed.num (s.hunit u).settings (0x9000 + u) k
def hsetN (s : State) (u k : Nat) : Nat := (s.hset u k).toNat

/-- LENGTH of the capture in force. -/
def hlen (s : State) (u : Nat) : Nat := harvestLength (s.hunit u).settings u

/-- FRAMES_WRITTEN. -/
def hwritten (s : State) (u : Nat) : Nat := s.regN (0x9020 + u) 0x06

/-- The unit's state is shown in its entry. -/
def hstate (s : State) (u : Nat) (st : HarvestState) : State :=
  (s.modHunit u fun h => { h with state := st }).put (0x9020 + u) 0x01 (harvestCodeOf st)

/-- The unit holds a capture in progress. -/
def hbusy (s : State) (u : Nat) : Bool :=
  decide ((s.hunit u).state = .filling ∨ (s.hunit u).state = .ready ∨ (s.hunit u).state = .triggered)

/-- Clock spacing under the active bed in ST64 counts (R441). -/
def harvestSpacing (s : State) (kind sel : Nat) : Nat :=
  match kind with
  | 0 => Bed.period s.active sel * 320
  | 1 =>
    let k := s.cfgN 0x2101 (0x01 + sel / 6)
    if sel < 48 then k * s.cfgN (0x2000 + sel) 0x03 * s.cfgN (0x2000 + sel) 0x05 * 320 else 0
  | _ => sel * 320

/-! ## Ending a record (R447, R451 to R453) -/

/-- The 64-byte header (R452). -/
def harvestHeader (s : State) (u : Nat) (seq : BitVec 32) : Bytes :=
  let h := s.hunit u
  let chans := harvestChannels h.settings u
  let first := s.hwritten u - h.frames.length
  let firstTime : ST64 := match h.frames.getLast? with | some f => f.1 | none => 0#64
  let widths := (List.range 16).map fun i => BitVec.ofNat 8 (((List.range 4).map fun j =>
    (Bed.nat h.settings (0x9010 + u) (4 * i + j + 1) / 0x10000 % 4) * 4 ^ j).sum)
  toLe 4 seq.toNat ++ [BitVec.ofNat 8 u, BitVec.ofNat 8 h.recFlags, BitVec.ofNat 8 h.trigSource,
    BitVec.ofNat 8 chans.length] ++ toLe 8 (match h.trigAt with | some t => (t.toNat : Int) | none => 0) ++
  toLe 8 firstTime.toNat ++ toLe 8 h.interval ++ toLe 4 h.frames.length ++
  toLe 4 (match h.trigFrame with | some k => (k : Int) - first | none => 0xFFFFFFFF) ++
  toLe 2 (frameBytes h.settings u) ++ toLe 2 (s.hsetN u 0x06) ++ toLe 4 h.ignored ++ widths

/-- A record is complete: header, RECORDS, HARVEST_DONE (R447). -/
def harvestDone (s : State) (u : Nat) : State :=
  let seq := nextSeq (s.hunit u).seq
  let s := s.putB (0x9020 + u) 0x09 (s.harvestHeader u seq)
  let s := s.modHunit u fun h => { h with seq := seq, streamNext := if s.hsetN u 0x0F = 1 then 0 else h.streamNext }
  let s := (s.hstate u .done).count (0x9020 + u) 0x08
  s.event 0x0E11 [u, (seq.toNat : Int), (s.hunit u).frames.length, (s.hunit u).recFlags]

/-- A capture ends early (R453). -/
def harvestTruncate (s : State) (u : Nat) : State :=
  if s.hbusy u then
    ((s.modHunit u fun h => { h with recFlags := h.recFlags ||| 1 }).flag (0x9020 + u) 0x0C 2).harvestDone u
  else s

/-- Every capture a test picks ends early. -/
def harvestEndWhere (s : State) (p : Nat → Bool) : State :=
  (List.range 4).foldl (fun s u => if p u then s.harvestTruncate u else s) s

/-- The captures clocked by a sensing channel end when it leaves VALID (R453). -/
def harvestChannelLost (s : State) (ch : Nat) : State :=
  s.harvestEndWhere fun u => decide (s.hset u 0x04 = 1 ∧ s.hsetN u 0x05 = ch)

/-- The captures whose clock spacing differs under the active bed end (R453). -/
def harvestSpacingChanged (s : State) : State :=
  s.harvestEndWhere fun u =>
    decide (s.harvestSpacing (s.hsetN u 0x04) (s.hsetN u 0x05) * s.hsetN u 0x06 ≠ (s.hunit u).interval)

/-- A move of the beat origin ends the captures whose clock instants it moves: those of the engines and of an interval
(R441, R453). -/
def harvestOriginMoved (s : State) (by_ : Int) : State :=
  s.harvestEndWhere fun u =>
    let sp : Int := (s.harvestSpacing (s.hsetN u 0x04) (s.hsetN u 0x05) : Nat)
    decide (s.hset u 0x04 ≠ 1 ∧ by_ % sp ≠ 0)

/-! ## Triggers (R447 to R451) -/

/-- The first frame at or after the trigger instant, by index since ARM; one the ring has overwritten is found by the frames'
equal spacing (R445, R451). -/
def trigFrameOf (s : State) (u : Nat) (t : ST64) : Option Nat :=
  let fs := (s.hunit u).frames
  let n := (fs.filter fun f => decide (0 ≤ sdiff f.1 t)).length
  let lost := match fs.getLast? with
    | some f => if n = fs.length ∧ (s.hunit u).interval ≠ 0 then (sdiff f.1 t).toNat / (s.hunit u).interval else 0
    | none => 0
  if n = 0 then none else some (s.hwritten u - n - lost)

/-- A TRIGGERED record whose last frame is written is complete. -/
def harvestFinish (s : State) (u : Nat) : State :=
  match (s.hunit u).state, (s.hunit u).trigFrame with
  | .triggered, some k =>
    let after := s.hlen u - s.hsetN u 0x07 - 1
    if k + after < s.hwritten u then
      let late := decide (k + after + 1 < s.hwritten u)
      let s := if late then
          (s.modHunit u fun h => { h with recFlags := h.recFlags ||| 2 }).flag (0x9020 + u) 0x0C 3
        else s
      s.harvestDone u
    else s
  | _, _ => s

/-- A trigger reaches one unit, with its source and the header flag bits it sets. -/
def harvestFireOne (s : State) (u src flags : Nat) (t : ST64) : State :=
  match (s.hunit u).state with
  | .filling =>
    ((s.modHunit u fun h => { h with ignored := h.ignored + 1 }).count (0x9020 + u) 0x07).flag (0x9020 + u) 0x0C 1
  | .ready =>
    let s := s.modHunit u fun h =>
      { h with trigAt := some t, trigSource := src, recFlags := h.recFlags ||| flags, trigFrame := s.trigFrameOf u t }
    ((s.hstate u .triggered).eventAt 0x0E10 [u, src] t).harvestFinish u
  | .triggered =>
    match (s.hunit u).trigAt with
    | some t0 =>
      if src = 5 ∧ sdiff t t0 < 0 then
        (s.modHunit u fun h => { h with trigAt := some t, trigFrame := s.trigFrameOf u t }).harvestFinish u
      else s
    | none => s
  | _ => s

/-- The units of the local group (R449). -/
def harvestGroup (s : State) : List Nat := (List.range 4).filter fun u => decide (s.cfg (0x9000 + u) 0x0D = 1)

/-- A trigger of unit u: an accepted one fires every linked unit of the device and, with ARRAY_LINK, of the array. -/
def harvestFire (s : State) (u src : Nat) (t : ST64) : State :=
  let ready := decide ((s.hunit u).state = .ready)
  let linked := decide (s.hset u 0x0D = 1)
  let array := decide (s.reg 0x1700 0x21 ≠ 0) && (decide (s.hset u 0x0E = 1) ||
    (linked && (List.range 4).any fun v => decide (s.hset v 0x0D = 1 ∧ s.hset v 0x0E = 1)))
  let s := s.harvestFireOne u src 0 t
  if ready then
    let s := if linked then
        ((List.range 4).filter fun v => decide (v ≠ u ∧ s.hset v 0x0D = 1)).foldl
          (fun s v => s.harvestFireOne v 4 4 t) s
      else s
    if array then s.send (.runner 0xFF 0x31 [((s.toArray t).toNat : Int), u]) else s
  else s

/-- A Furrow event with its Harvest bit fires the units that name it (R448). -/
def harvestFurrow (s : State) (f ev : Nat) : State :=
  (List.range 4).foldl (fun s u =>
    if s.hset u 0x08 = 2 ∧ s.hsetN u 0x09 % 4 = ev ∧ s.hsetN u 0x09 / 256 % 16 = f then s.harvestFire u 2 s.now else s) s

/-- A Shears record fires the units whose TRIG_REF its applied class reaches (R448). -/
def harvestShears (s : State) (applied : Nat) (decision : ST64) : State :=
  (List.range 4).foldl (fun s u =>
    if s.hset u 0x08 = 3 ∧ s.hsetN u 0x09 ≤ applied then s.harvestFire u 3 decision else s) s

/-- The engine that clocks a unit, whose own publication at the instant counts (R441). -/
def clockEngine (s : State) (u : Nat) : Option Nat := if s.hset u 0x04 = 0 then some (s.hsetN u 0x05) else none

/-- The LEVEL trigger at one clock instant (R448). -/
def harvestLevel (s : State) (u : Nat) : State :=
  if s.hset u 0x08 ≠ 1 then s
  else
    let v := (s.sourceWord (s.clockEngine u) (s.hsetN u 0x09)).toInt
    let lvl := s.hset u 0x0B
    let lo := satS 32 (lvl - s.hset u 0x0C)
    let hi := satS 32 (lvl + s.hset u 0x0C)
    let h := s.hunit u
    let below := h.belowLevel || decide (v < lo)
    let above := h.aboveLevel || decide (hi < v)
    if !h.sided then
      s.modHunit u fun h => { h with sided := true, belowLevel := decide (v < lo), aboveLevel := decide (hi < v) }
    else
      let rise := h.belowLevel && decide (lvl < v)
      let fall := h.aboveLevel && decide (v < lvl)
      let s := s.modHunit u fun h =>
        { h with belowLevel := if rise then false else below, aboveLevel := if fall then false else above }
      let e := s.hsetN u 0x0A
      if (rise && decide (e = 1 ∨ e = 3)) || (fall && decide (e = 2 ∨ e = 3)) then s.harvestFire u 1 s.now else s

/-! ## Arming (R447, R449, R450, R453) -/

/-- The capture blocks of a unit under a store. -/
def harvestBlocks (st : Store) (u : Nat) : Nat × Nat :=
  let b := Bed.nat st (0x9000 + u) 0x02
  (b, b + Bed.nat st (0x9000 + u) 0x03)

/-- The new partition overlaps a unit that still runs under older settings (R453). -/
def harvestOverlap (s : State) (u : Nat) : Bool :=
  let n := harvestBlocks s.active u
  (List.range 4).any fun v =>
    decide (v ≠ u) && s.hbusy v &&
      (let o := harvestBlocks (s.hunit v).settings v
       decide (n.1 < o.2 ∧ o.1 < n.2))

/-- ARM of one unit: settings taken, ring emptied, previous record discarded. -/
def harvestArm (s : State) (u : Nat) : State :=
  let h := s.hunit u
  let set := s.active.filter fun e => decide (e.1 / 256 = 0x9000 + u ∨ e.1 / 256 = 0x9010 + u)
  let left := if h.state = .done ∧ Bed.nat h.settings (0x9000 + u) 0x0F = 1 then
      64 + (h.frames.map fun f => f.2.length).sum - h.streamNext
    else 0
  let s := s.countBy 32 (0x9020 + u) 0x0D left
  let s := s.modHunit u fun h => { HarvestUnit.idle with settings := set, seq := h.seq }
  let iv := s.harvestSpacing (s.hsetN u 0x04) (s.hsetN u 0x05) * s.hsetN u 0x06
  let s := s.modHunit u fun h => { h with interval := iv }
  ((s.put (0x9020 + u) 0x06 0).putB (0x9020 + u) 0x09 (List.replicate 64 0#8)).hstate u .filling

/-- The units an ARM of u arms: its group when u is linked, each one that is idle or done. -/
def harvestArmSet (s : State) (u : Nat) : List Nat :=
  let l := if s.cfg (0x9000 + u) 0x0D = 1 then s.harvestGroup else [u]
  l.filter fun v => !s.hbusy v && decide (s.cfg (0x9000 + v) 0x01 = 1)

/-- The own conditions of an ARM, in the order of R454, R449 and R453. -/
def harvestArmCheck (s : State) (u : Nat) : Nat :=
  let pos := s.regN 0x1700 0x20
  if s.hbusy u || (s.hunit u).armAt.isSome then 0x0501
  else if s.cfg (0x9000 + u) 0x0D = 1 ∧ s.harvestGroup.head? ≠ some u then 0x0CE2
  else if s.cfg (0x9000 + u) 0x0E = 1 ∧ pos ≠ 0 then 0x0CE2
  else if s.cfg (0x9000 + u) 0x01 ≠ 1 ∨ (s.harvestArmSet u).any s.harvestOverlap then 0x0CE1
  else 0

/-! ## Frames (R443 to R446) -/

/-- One frame is written to the ring; frames the ring overwrites before they were streamed are lost (R452). -/
def harvestWrite (s : State) (u : Nat) (b : Bytes) : State :=
  let len := s.hlen u
  let old := s.hunit u
  let s := s.countBy 32 (0x9020 + u) 0x06 1
  let s := s.modHunit u fun h => { h with frames := ((s.now, b) :: h.frames).take len, acc := [], accN := 0 }
  let first := s.hwritten u - (s.hunit u).frames.length
  let s := if s.hset u 0x0F = 2 ∧ old.streamNext < first then
      ((s.countBy 32 (0x9020 + u) 0x0D ((first - old.streamNext : Nat) * b.length)).flag (0x9020 + u) 0x0C 4).modHunit u
        fun h => { h with streamNext := first }
    else s
  if (s.hunit u).state = .filling ∧ s.hsetN u 0x07 ≤ s.hwritten u then
    (s.hstate u .ready).event 0x0E12 [u]
  else s

/-- The trigger frame of a TRIGGERED unit is fixed once a frame at or after its instant stands. -/
def harvestFix (s : State) (u : Nat) : State :=
  match (s.hunit u).state, (s.hunit u).trigFrame, (s.hunit u).trigAt with
  | .triggered, none, some t => (s.modHunit u fun h => { h with trigFrame := s.trigFrameOf u t }).harvestFinish u
  | .triggered, some _, _ => s.harvestFinish u
  | _, _, _ => s

/-- One clock instant of a running unit: samples summed, a frame completed at every AVG-th, then the trigger (R456). -/
def harvestInstant (s : State) (u : Nat) : State :=
  let chans := harvestChannels (s.hunit u).settings u
  let vals := chans.map fun c => let w := s.sourceWord (s.clockEngine u) c.source; if s.refAngle c.source then (w.toNat : Int) else w.toInt
  let h := s.hunit u
  let acc := (List.range chans.length).map fun k =>
    let c := chans.getD k ⟨0, 8, 0⟩
    let v := vals.getD k 0
    if s.refAngle c.source then v else h.acc.getD k 0 + v
  let n := h.accN + 1
  let s := s.modHunit u fun h => { h with acc := acc, accN := n }
  let s :=
    if s.hsetN u 0x06 ≤ n then
      let codes := (List.range chans.length).map fun k =>
        let c := chans.getD k ⟨0, 8, 0⟩
        (c, harvestCode (s.refAngle c.source) c (acc.getD k 0) n)
      let s := if codes.any fun x => x.2.2 then s.flag (0x9020 + u) 0x0C 0 else s
      s.harvestWrite u (padFrame (codes.flatMap fun x => toLe (x.1.bits / 8) x.2.1))
    else s
  (s.harvestLevel u).harvestFix u

/-! ## Streaming (R452) -/

/-- One Q11 entry (R452): its first 16 bytes in fields, 48 data bytes. -/
def streamEntry (s : State) (u kind offset : Nat) (b : Bytes) : State :=
  let q := (s.hunit u).seq
  let seq := if (s.hunit u).state = .done then q else nextSeq q
  s.ringAppend 11 ⟨0, [(seq.toNat : Int), u, kind, offset], slice b 0 48, s.now⟩

/-- The bytes of a DONE record, header first. -/
def recordBytes (s : State) (u : Nat) : Bytes :=
  s.regB (0x9020 + u) 0x09 ++ (s.hunit u).frames.reverse.flatMap fun f => f.2

/-- Record bytes posted while Q11 has room, at most k entries. -/
def streamRecord (u : Nat) : Nat → State → State
  | 0, s => s
  | k + 1, s =>
    let b := s.recordBytes u
    let o := (s.hunit u).streamNext
    if o < b.length ∧ s.ringFill 11 < s.ringSize 11 then
      let n := if o < 64 then min 48 (64 - o) else min 48 (b.length - o)
      let s := s.ringAppend 11 ⟨0, [((s.hunit u).seq.toNat : Int), u, (if o < 64 then 1 else 2), o],
        slice ((b.drop o).take n) 0 48, s.now⟩
      streamRecord u k (s.modHunit u fun h => { h with streamNext := o + n })
    else s

/-- Frames posted as they were written while Q11 has room for all of a frame, at most k frames. -/
def streamFrames (u : Nat) : Nat → State → State
  | 0, s => s
  | k + 1, s =>
    let h := s.hunit u
    let first := s.hwritten u - h.frames.length
    let i := h.streamNext
    match h.frames.reverse[i - first]? with
    | none => s
    | some f =>
      let parts := (f.2.length + 47) / 48
      if s.ringFill 11 + parts ≤ s.ringSize 11 then
        let s := (List.range parts).foldl (fun s j => s.streamEntry u 2 (i * f.2.length + 48 * j) (f.2.drop (48 * j))) s
        streamFrames u k (s.modHunit u fun h => { h with streamNext := i + 1 })
      else s

/-- DATA: the whole frames from READ_FRAME onward, up to 4096 bytes (R452). -/
def harvestData (s : State) (u : Nat) : Bytes :=
  let h := s.hunit u
  if h.state = .done then
    let fb := frameBytes h.settings u
    let n := if fb = 0 then 0 else 4096 / fb
    ((h.frames.reverse.drop (s.regN (0x9020 + u) 0x0A)).take n).flatMap fun f => f.2
  else []

end State

/-! ## Commands -/

/-- The writers of COMMAND (R454). -/
def harvestWriters : Writers := ⟨[.operator, .engineer], true⟩

/-- COMMAND = ARM. -/
def execHarvestArm (req : Requester) (u : Fin 4) (s : State) : Host.Outcome State Fault Refusal :=
  .next (guarded req (0x9020 + u) 0x02 harvestWriters true (decide (s.ctl.mode ≠ .dormant)) (s.harvestArmCheck u)
    (fun s => (s.harvestArmSet u).foldl (fun s v => s.harvestArm v) s) s)

/-- COMMAND = TRIGGER: the trigger instant is the acceptance. -/
def execHarvestTriggerCmd (req : Requester) (u : Fin 4) (s : State) : Host.Outcome State Fault Refusal :=
  .next (guarded req (0x9020 + u) 0x02 harvestWriters true true 0 (fun s => s.harvestFire u 0 s.now) s)

/-- COMMAND = ABORT: the record is discarded (R447). -/
def execHarvestAbort (req : Requester) (u : Fin 4) (s : State) : Host.Outcome State Fault Refusal :=
  .next (guarded req (0x9020 + u) 0x02 harvestWriters true true 0
    (fun s => if (s.hunit u).state = .idle then s
      else ((s.modHunit u fun h => { HarvestUnit.idle with seq := h.seq, armAt := h.armAt }).putB (0x9020 + u) 0x09
        (List.replicate 64 0#8)).hstate u .idle) s)

/-- A write of ARM_AT: 0 disarms; a time arms the group of every member at a common instant (R450). -/
def execArmAtWrite (req : Requester) (u : Fin 4) (value : BitVec 64) (s : State) : Host.Outcome State Fault Refusal :=
  let lead := sdiff value s.now
  let own := if value = 0#64 then 0
    else if s.hbusy u || (s.hunit u).armAt.isSome then 0x0501
    else if s.regN 0x1700 0x20 ≠ 0 ∨ s.cfg (0x9000 + u) 0x0E ≠ 1 ∨
      (s.cfg (0x9000 + u) 0x0D = 1 ∧ s.harvestGroup.head? ≠ some u.val) then 0x0CE2
    else if lead < us 10 ∨ (sec 1 : Int) < lead then 0x0CE0 else 0
  .next (guarded req (0x9020 + u) 0x03 engineers true true own
    (fun s =>
      let s := s.putT (0x9020 + u) 0x03 value
      if value = 0#64 then s.modHunit u fun h => { h with armAt := none }
      else (s.modHunit u fun h => { h with armAt := some value }).send (.runner 0xFF 0x30 [((s.toArray value).toNat : Int)])) s)

/-- The ARM_AT instant: the group arms, except in DORMANT (R447, R450). -/
def execArmAtInstant (u : Fin 4) (s : State) : Host.Outcome State Fault Refusal :=
  match (s.hunit u).armAt with
  | none => .next s
  | some _ =>
    let s := (s.modHunit u fun h => { h with armAt := none }).put (0x9020 + u) 0x03 0
    if s.ctl.mode = .dormant ∨ s.hbusy u then .next s
    else .next ((s.harvestArmSet u).foldl (fun s v => s.harvestArm v) s)

/-- HARVEST_ARM over the Runner: the master of the device's linked group arms at the instant (R450). -/
def execHarvestArmMsg (t : BitVec 64) (s : State) : Host.Outcome State Fault Refusal :=
  let units := (List.range 4).filter fun u => decide (s.cfg (0x9000 + u) 0x0E = 1 ∧ s.cfg (0x9000 + u) 0x01 = 1 ∧
    (s.cfg (0x9000 + u) 0x0D ≠ 1 ∨ s.harvestGroup.head? = some u))
  .next (units.foldl (fun s u => s.modHunit u fun h => { h with armAt := some (s.fromArray t) }) s)

/-- HARVEST_FIRE over the Runner: every array-linked unit takes the fire with its instant (R450, R451). -/
def execHarvestFireMsg (t : BitVec 64) (s : State) : Host.Outcome State Fault Refusal :=
  let direct := (List.range 4).filter fun u => decide (s.hset u 0x0E = 1)
  let group := decide (direct.any fun u => decide (s.hset u 0x0D = 1))
  let units := (List.range 4).filter fun u => direct.contains u || (group && decide (s.hset u 0x0D = 1))
  .next (units.foldl (fun s u => s.harvestFireOne u 5 8 (s.fromArray t)) s)

/-- One clock instant of a unit: the AVG-th completes a frame (R441, R443). -/
def execHarvestFrame (u : Fin 4) (s : State) : Host.Outcome State Fault Refusal :=
  if s.hbusy u then .next (s.harvestInstant u) else .next s

/-- Record or frame bytes go to Q11 as room allows, and only within the duty of the CAPTURE task (R452, R584). -/
def execStreamCopy (u : Fin 4) (s : State) : Host.Outcome State Fault Refusal :=
  let n := s.ringSize 11
  if s.reg 0x1314 0x21 = 0 then .next s
  else if s.hset u 0x0F = 1 ∧ (s.hunit u).state = .done then .next (State.streamRecord u n s)
  else if s.hset u 0x0F = 2 then .next (State.streamFrames u n s)
  else .next s

/-- An event of a Furrow's counter: the prescaler counts it, and a raised one goes to the interrupt or the Harvest
(R293, R448). Events are numbered ZERO, PERIOD, EVA, EVB. -/
def State.furrowEvent (s : State) (f ev : Nat) : State :=
  let n := (s.furrow f).occurrences.getD ev 0 + 1
  let s := s.modFurrow f fun g =>
    { g with occurrences := (List.range 4).map fun k => if k = ev then n else g.occurrences.getD k 0 }
  let pre := max 1 (s.pcfg (0x5000 + f) (0x08 + ev))
  if n % pre = 0 then
    let route := s.pcfg (0x5000 + f) 0x0E
    let s := if bitOf route ev then (s.flag (0x5000 + f) 0x24 ev).send (.irq s.activeCore (33 + f)) else s
    if bitOf route (4 + ev) then s.harvestFurrow f ev else s
  else s

/-- A Furrow event at its counter (R293). -/
def execFurrowEvent (f : Fin 12) (ev : Fin 4) (s : State) : Host.Outcome State Fault Refusal :=
  if (s.furrow f).running then .next (s.furrowEvent f ev) else .next s

/-- A write of PERIOD_SH, CMPA_SH or CMPB_SH: the shadow changes, acting at once in DIRECT mode; what the configuration
owns is refused with 0x0C92 (R285, R287, R289, R321). -/
def execPwmShadowWrite (req : Requester) (r : PwmReg) (value : Int) (s : State) : Host.Outcome State Fault Refusal :=
  match r with
  | .period f =>
    .next (guarded req (0x5000 + f) 0x20 engineers (decide (16 ≤ value ∧ value ≤ 16777215)) true
      (if s.cfg (0x5000 + f) 0x05 = 1 then 0x0C92 else 0)
      (fun s =>
        let s := s.modFurrow f fun g => { g with periodSh := some value.toNat }
        if (s.furrow f).running ∧ s.pcfg (0x5000 + f) 0x07 = 1 then
          (s.directEvents f value.toNat).foldl (fun t e => t.furrowEvent f e) (s.directPeriod f value.toNat)
        else s) s)
  | .compare p isB =>
    let sub := if isB then 0x21 else 0x20
    .next (guarded req (0x5020 + p) sub engineers (decide (0 ≤ value ∧ value ≤ 0x3FFFFFFF)) true
      (if !isB ∧ (Bed.mod2l s.active false 0 p).isSome then 0x0C92 else 0)
      (fun s =>
        let s := s.put (0x5020 + p) sub value
        let f := s.pcfg (0x5020 + p) 0x02
        if (s.furrow f).running ∧ s.pcfg (0x5000 + f) 0x07 = 1 ∧ s.pcfg (0x5020 + p) 0x01 = 1 then
          s.setLive f p (s.shadowA p) (s.shadowB p)
        else s) s)
  | .remote l p isB =>
    let sub := if isB then 0x21 else 0x20
    .next (guarded req (State.remoteEntry l p) sub engineers (decide (0 ≤ value ∧ value ≤ 0x3FFFFFFF)) true
      (if !isB ∧ (Bed.mod2l s.active true l p).isSome then 0x0C92 else 0)
      (fun s =>
        let s := s.put (State.remoteEntry l p) sub value
        let f := s.cfgN (State.remoteEntry l p) 0x02
        if (s.furrow f).running then
          s.modRemote l p fun q => { q with shadowWrites := q.shadowWrites ++ [(isB, value.toNat, s.now)] }
        else s) s)

end Sys2Proof.Machine
end

