-- ==== Sys2Proof/Machine/Sieve.lean ====
section
/-! DEFINITION. Sensing: the Sieve's filters, stamps and statuses, synchronisation, the SAR converters and the
comparators (R46 to R81). What the windows, the supervision and the comparators report to the Shears is in the file of
the protection sources. -/

namespace Sys2Proof.Machine

/-! ## Filters (R53 to R55) -/

/-- One modulator bit through the integrators: each adds the one before it, modulo 2^40. -/
def sincStep (x : BitVec 40) : List (BitVec 40) → List (BitVec 40)
  | [] => []
  | i :: r => (i + x) :: sincStep (i + x) r

/-- The combs at the decimated rate: what each takes in, and what the last gives. -/
def combStep (x : BitVec 40) : List (BitVec 40) → List (BitVec 40) × BitVec 40
  | [] => ([], x)
  | c :: r => let n := combStep (x - c) r; (x :: n.1, n.2)

/-- The last integrator. -/
def sincLast (i : List (BitVec 40)) : BitVec 40 := i.getLast?.getD 0#40

/-- A decoded bit: a period without a mid-bit transition repeats the previous one (R51). -/
def bitValue (last : Bool) : Option Bool → Bool
  | some b => b
  | none => last

/-- One modulator bit through the integrators; the bit's edge and the sinc phase pass (R53, R62). -/
def sincBit (c : SieveChannel) (clock : Nat) (b : Option Bool) : SieveChannel :=
  let v := bitValue c.lastBit b
  { c with integ := sincStep (if v then 1#40 else -1#40) c.integ, lastBit := v, edge := later c.edge clock
           sincPhase := c.sincPhase + 1 }

/-- The bit of a synchronisation's first edge starts a new sinc output and a new FIR phase; the integrators and the combs
keep their contents (R62). -/
def phaseStart (c : SieveChannel) : SieveChannel :=
  match c.phaseAt with
  | some p => if 0 ≤ sdiff c.edge p then { c with sincPhase := 0, firPhase := 0, phaseAt := none } else c
  | none => c

/-- A sinc output y normalised to Q1.31: y / M^N (R54); e is the error allowed when M is not a power of two. -/
def sincNormal (y : Int) (n m : Nat) (e : Int) : Int := satS 32 (roundDiv (y * p2 31) (m ^ n) + e)

/-- A tap of FIR_COEFF: Q2.22 sign-extended from bit 23 (R55, R78). -/
def firTap (b : Bytes) (k : Nat) : Int :=
  let n : Nat := leNat (slice b (4 * k) 4) % 16777216
  if n < 8388608 then (n : Int) else (n : Int) - 16777216

/-- The FIR sum over a history, newest sample first: a 56-bit accumulator, then Q1.31; whether it saturated. -/
def firSum (coeff : Bytes) (taps : Nat) (hist : List Int) : Int × Bool :=
  let acc := (List.range taps).foldl (fun a k => satS 56 (a + firTap coeff k * hist.getD k 0)) 0
  let v := roundShift acc 22
  (satS 32 v, decide (satS 32 v ≠ v))

/-- The quick path: a sinc filter of order n and length m over the latest bits, newest first, as Q1.15 (R60). A moving
sum of m is applied n times. -/
def movingSums (m : Nat) : Nat → List Int → List Int
  | 0, l => l
  | k + 1, l => movingSums m k ((List.range (l.length + 1 - m)).map fun i => ((l.drop i).take m).sum)

def quickPath (n m : Nat) (bits : List Bool) : Int :=
  let l := movingSums m n ((bits.take (n * (m - 1) + 1)).map fun b => if b then 1 else -1)
  satS 16 (roundDiv (l.headD 0 * 32768) (m ^ n))

/-- Status codes of R47. -/
def chStatusCode : ChStatus → Nat
  | .off => 0 | .settling => 1 | .valid => 2 | .supvFault => 3 | .substituted => 4 | .unsync => 5 | .lost => 6

namespace State

def chan (s : State) (ch : Nat) : SieveChannel := vget s.sieve.channels ch SieveChannel.idle
def modSieve (s : State) (g : Sieve → Sieve) : State := { s with sieve := g s.sieve }
def modChan (s : State) (ch : Nat) (g : SieveChannel → SieveChannel) : State :=
  s.modSieve fun v => { v with channels := vmod v.channels ch g }

/-! ## The figures of a channel (R48, R56 to R59, R65) -/

/-- K of a channel's group. -/
def chanK (s : State) (ch : Nat) : Nat := s.cfgN 0x2101 (ch / 6 + 1)

/-- The distance of an instant near the present from ST64 = 0, in master time on an array member; it continues across the
ST64 wrap (R49). -/
def gridCount (s : State) (t : ST64) : Int :=
  s.time.wraps * p2 64 + s.now.toNat + sdiff t s.now +
    (if bitOf (s.regN 0x1700 0x22) (s.regN 0x1700 0x20) then s.reg 0x1700 0x26 else 0)

/-- The first rising edge of an MCLK with divider K at or after an instant: a multiple of K * 320 counts (R49). -/
def mclkEdge (s : State) (k : Nat) (t : ST64) : ST64 := later t (-(s.gridCount t) % (k * 320 : Nat))

/-- One modulator clock in ST64 counts. -/
def chanClock (s : State) (ch : Nat) : Nat := s.chanK ch * 320

/-- OUTPUT_PERIOD in cycles. -/
def outputPeriod (s : State) (ch : Nat) : Nat := s.chanK ch * s.cfgN (0x2000 + ch) 0x03 * s.cfgN (0x2000 + ch) 0x05

/-- GROUP_DELAY in ST64 counts. -/
def groupDelay (s : State) (ch : Nat) : Nat :=
  let n := s.cfgN (0x2000 + ch) 0x02
  let m := s.cfgN (0x2000 + ch) 0x03
  let t := s.cfgN (0x2000 + ch) 0x04
  (n * (m - 1) + m * (t - 1)) * s.chanClock ch / 2

/-- AVAIL_LATENCY in ST64 counts. -/
def availLatency (s : State) (ch : Nat) : Nat :=
  let t := s.cfgN (0x2000 + ch) 0x04
  if s.cfg (0x2000 + ch) 0x01 = 2 then 2 * s.chanClock ch + (8 + t) * 320
  else s.chanClock ch + s.cfgN (0x2000 + ch) 0x07 * 320 + (8 + t) * 320

/-- SETTLE_SAMPLES. -/
def settleSamples (s : State) (ch : Nat) : Nat :=
  let d := s.cfgN (0x2000 + ch) 0x05
  if d = 0 then 0 else (s.cfgN (0x2000 + ch) 0x02 + s.cfgN (0x2000 + ch) 0x04 - 1 + d - 1) / d

/-! ## Delivery (R47, R69, R70) -/

/-- STATUS of a channel changes; a channel that leaves VALID ends the captures it clocks (R453). -/
def putStatus (s : State) (ch : Nat) (st : Nat) : State :=
  let was := s.reg (0x2000 + ch) 0x22
  let s := (s.noteSample ch).put (0x2000 + ch) 0x22 st
  if was = 2 ∧ st ≠ 2 then s.harvestChannelLost ch else s

/-- A sample is delivered with its stamp and status. -/
def deliver (s : State) (ch : Nat) (v : Int) (t : ST64) (st : Nat) : State :=
  (((s.noteSample ch).put (0x2000 + ch) 0x20 v).putT (0x2000 + ch) 0x21 t).putStatus ch st

/-- The SV channel a bitstream channel names. -/
def svOf (s : State) (ch : Nat) : Nat := 64 + s.cfgN (0x2000 + ch) 0x12

/-- The latest SV sample is delivered in place of the local one. -/
def deliverSv (s : State) (ch : Nat) (fallback : Bool) : State :=
  let v := 0x2000 + s.svOf ch
  let st := s.regN v 0x22
  let s := s.deliver ch (s.reg v 0x20) (s.regT v 0x21) (if fallback ∧ st = 2 then 4 else st)
  s.modChan ch fun c => { c with good := decide (st = 2) }

/-- The local sample is delivered. -/
def deliverLocal (s : State) (ch : Nat) : State :=
  let c := s.chan ch
  let s := s.deliver ch c.sample c.stamp (chStatusCode c.status)
  s.modChan ch fun c => { c with good := decide (c.status = .valid) }

/-- The delivered source changes: SIEVE_SOURCE with 0 local or 1 SV. -/
def changeSource (s : State) (ch : Nat) (sv : Bool) : State :=
  if (s.chan ch).fromSv = sv then s
  else (s.modChan ch fun c => { c with fromSv := sv }).event 0x0214 [ch, sv.toNat]

/-- A sample boundary of a channel: its own output (local) or a sample of the SV channel it names. -/
def sampleBoundary (s : State) (ch : Nat) (isLocal : Bool) : State :=
  let c := s.chan ch
  match s.cfgN (0x2000 + ch) 0x11 with
  | 0 => if isLocal then s.deliverLocal ch else s
  | 1 => if isLocal then s else s.deliverSv ch false
  | _ =>
    let back := isLocal && decide (c.status = .valid)
    let away := !c.fromSv && !decide (c.status = .valid ∨ c.status = .settling)
    let s := if back then s.changeSource ch false else if away then s.changeSource ch true else s
    if (s.chan ch).fromSv then (if isLocal ∧ !away then s else s.deliverSv ch true)
    else if isLocal then s.deliverLocal ch else s

/-- The channel delivers samples: MODE is not OFF, and the mode is not DORMANT. One whose own path stands still delivers its
SV sample all the same (R70; log entry 110). -/
def chanDelivers (s : State) (ch : Nat) : Bool := decide (s.cfg (0x2000 + ch) 0x01 ≠ 0 ∧ s.ctl.mode ≠ .dormant)

/-- A channel's own status changes; its delivered status follows where the local sample is the delivered one. -/
def chanStatus (s : State) (ch : Nat) (st : ChStatus) : State :=
  let s := s.modChan ch fun c => { c with status := st }
  let src := s.cfgN (0x2000 + ch) 0x11
  if src = 0 ∨ (src = 2 ∧ !(s.chan ch).fromSv) ∨ !s.chanDelivers ch then s.putStatus ch (chStatusCode st) else s

/-! ## Start, stop, settling (R62, R65, R66, R68) -/

/-- The channel settles from now on. -/
def settle (s : State) (ch : Nat) : State :=
  let n := s.settleSamples ch
  (s.modChan ch fun c => { c with settleLeft := n }).chanStatus ch .settling

/-- A channel's main path starts, its integrators cleared, with the first edge from now as phase 0. A supervision fault in
force stays until 64 good bits end it (R51, R62). -/
def startChan (s : State) (ch : Nat) : State :=
  let n := s.cfgN (0x2000 + ch) 0x02
  let s := s.modChan ch fun c =>
    { c with integ := List.replicate n 0#40, comb := List.replicate n 0#40, firHist := [], lastBit := false,
             edge := s.mclkEdge (s.chanK ch) s.now, sincPhase := 0, firPhase := 0, phaseAt := none }
  if (s.chan ch).status = .supvFault then s else s.settle ch

/-- A channel stops. -/
def stopChan (s : State) (ch : Nat) : State :=
  let s := s.modChan ch fun c => { SieveChannel.idle with sample := c.sample, stamp := c.stamp, fromSv := c.fromSv }
  (s.chanStatus ch .off).put (0x2000 + ch) 0x29 0

/-- A channel runs in the present mode (R68). -/
def chanWanted (s : State) (ch : Nat) : Bool :=
  decide (s.cfg (0x2000 + ch) 0x01 ≠ 0 ∧ s.chanK ch ≠ 0 ∧ s.ctl.mode ≠ .dormant) &&
    (decide (s.cfg (0x2000 + ch) 0x10 = 1) || s.ctl.fastClocks)

/-- An enabled Sampled Values stream maps one of its members to SV channel v (R469, R484). -/
def svMapped (s : State) (v : Nat) : Bool :=
  decide (s.cfg (0x2040 + v) 0x01 ≠ 0) && (List.range 16).any fun n =>
    decide (s.cfg (0x1510 + n) 0x01 = 1) &&
      ((s.cfgB (0x1510 + n) 0x09).take (s.cfgN (0x1510 + n) 0x08)).any fun b => decide (b.toNat = v)

/-- A channel of entries 0x2030 to 0x20BF has a source: an AIN that is scanned, an SV channel that is mapped; neither in
DORMANT (R47, R68). -/
def auxWanted (s : State) (ch : Nat) : Bool :=
  decide (s.ctl.mode ≠ .dormant) && (if ch < 64 then decide (s.cfg (0x2000 + ch) 0x01 = 1) else s.svMapped (ch - 64))

/-- Channels start and stop as the mode, the fast clocks and the bed say; a channel without a source reads OFF (R47). -/
def refreshSieve (s : State) : State :=
  let s := (List.range 48).foldl (fun s ch =>
    let on := decide ((s.chan ch).status ≠ .off)
    if s.chanWanted ch && !on then s.startChan ch
    else if !s.chanWanted ch && on then s.stopChan ch
    else if !s.chanDelivers ch && decide (s.reg (0x2000 + ch) 0x22 ≠ 0) then s.putStatus ch 0
    else s) s
  (List.range 144).foldl (fun s j =>
    if s.reg (0x2030 + j) 0x22 ≠ 0 ∧ !s.auxWanted (48 + j) then s.putStatus (48 + j) 0 else s) s

/-- The channels that run move to the MCLK grid in force and settle as after a synchronisation: the admission to an array
brings the master-time grid (R49). -/
def moveGrid (s : State) : State :=
  (List.range 48).foldl (fun s ch =>
    if (s.chan ch).status = .off then s
    else
      let s := s.modChan ch fun c => { c with edge := s.mclkEdge (s.chanK ch) s.now }
      if (s.chan ch).status = .supvFault then s else s.settle ch) s

/-- The main-path settings of a channel and its group's K, in one store. The spec lists no main-path settings: the model
takes sub-indices 0x01 to 0x08 and the K of the group (DESIGN CHOICE, log entry 111). -/
def mainPath (st : Store) (ch : Nat) : List DVal :=
  storeGet st (Dict.key 0x2101 (ch / 6 + 1)) ::
    ((List.range 8).map fun k => storeGet st (Dict.key (0x2000 + ch) (k + 1)))

/-- Where a threshold on its way to a code stands now, in 1/256000 DAC code, and the state with that noted: between its latest
level and the new one, within two codes of the straight line, and otherwise free; the new code from 1 us on (R74). -/
def cmpLevel (s : State) (n : Nat) (code : Int) : Int × State :=
  let new := code * 256000
  match vget s.sieve.cmpMove n none with
  | some m =>
    let dt := sdiff s.now m.since
    if 0 ≤ dt ∧ dt < 256000 then
      let line := m.origin + (new - m.origin) * dt / 256000
      let lo := max (min m.last new) (line - 512000)
      let hi := min (max m.last new) (line + 512000)
      let d := s.draw
      let v := if lo ≤ hi then lo + (d.1 : Int) % (hi - lo + 1) else m.last
      (v, d.2.modSieve fun x => { x with cmpMove := vmod x.cmpMove n fun _ => some { m with last := v } })
    else (new, s)
  | none => (new, s)

/-- A swap changes the threshold of a comparator: the move starts from where the old one stood (R74). -/
def cmpStart (s : State) (old : Store) (n : Nat) : State :=
  if Bed.nat old (0x20C0 + n) 0x02 = s.cfgN (0x20C0 + n) 0x02 then s
  else
    let was := s.cmpLevel n (Bed.num old (0x20C0 + n) 0x02)
    was.2.modSieve fun v =>
      { v with cmpMove := vmod v.cmpMove n fun _ => some ⟨s.now, was.1, was.1⟩ }

/-- A comparator's STATE as it stands. -/
def putCmp (s : State) (n : Nat) (b : Bool) : State := (s.noteSample (192 + n)).put (0x20C0 + n) 0x20 b.toNat

/-- A swap from an old bed: changed main paths restart, thresholds of comparators start to move (R66, R74). -/
def swapSieve (s : State) (old : Store) : State :=
  let s := (List.range 48).foldl (fun s ch =>
    if (s.chan ch).status ≠ .off ∧ mainPath old ch ≠ mainPath s.active ch then
      if s.chanWanted ch then s.startChan ch else s
    else s) s
  let s := s.refreshSieve
  let s := (List.range 16).foldl (fun s n =>
    (if s.cfg (0x20C0 + n) 0x01 = 1 ∨ s.reg (0x20C0 + n) 0x20 = 0 then s else s.putCmp n false).cmpStart old n) s
  s.modSieve fun v => { v with cmpOwn := vmapi v.cmpOwn fun n b => b && decide (s.cfg (0x20C0 + n) 0x01 = 1) }

/-! ## Synchronisation (R62 to R64) -/

/-- One MCLK period of the slowest clocked group, 200 ns with none. -/
def syncPeriod (s : State) : Nat :=
  let k := (List.range 8).foldl (fun m g => max m (s.cfgN 0x2101 (g + 1))) 0
  if k = 0 then 51200 else k * 320

/-- A synchronisation at S joins the waiting ones, in order of S. -/
def syncInsert (x : ST64 × Nat) : List (ST64 × Nat) → List (ST64 × Nat)
  | [] => [x]
  | y :: r => if sdiff x.1 y.1 < 0 then x :: y :: r else y :: syncInsert x r

/-- A synchronisation is started. One within a period after one that took effect counts as that one. -/
def addSync (s : State) (t : ST64) (source : Nat) : State :=
  let merged := match s.sieve.lastSyncAt with
    | none => false
    | some l => decide (0 ≤ sdiff t l ∧ sdiff t l < s.syncPeriod)
  if merged then s else s.modSieve fun v => { v with syncs := syncInsert (t, source) v.syncs }

/-- SYNC_AT no longer waits. -/
def disarmSync (s : State) : State :=
  let t := s.regT 0x2100 0x01
  if t = 0#64 then s
  else (s.modSieve fun v => { v with syncs := v.syncs.filter fun x => decide (x.1 ≠ t ∨ x.2 = 1) }).put 0x2100 0x01 0

end State

/-! ## Commands of the main path -/

namespace State

/-- A main-path sample is complete: the FIR sum, its stamp from the last bit's edge, and its delivery (R55 to R58). Outputs
count towards settling from a synchronisation's phase 0 on (R65). -/
def mainOutput (s : State) (ch : Nat) (c : SieveChannel) (tLast : ST64) : State :=
  let e := 0x2000 + ch
  let f := firSum (s.cfgB e 0x06) (s.cfgN e 0x04) c.firHist
  let s := if f.2 then s.flag e 0x27 3 else s
  let settled := decide (c.status = .settling ∧ c.settleLeft = 0)
  let s := s.modChan ch fun _ =>
    { c with sample := f.1, stamp := later tLast (s.cfg e 0x08 - s.groupDelay ch), firPhase := 0
             settleLeft := if c.phaseAt.isSome then c.settleLeft else c.settleLeft - 1
             status := if settled then .valid else c.status }
  s.sampleBoundary ch true

/-- One modulator bit of a running channel: the integrators take it, the M-th closes a sinc output, and the D-th sinc output
a main-path sample (R53 to R56, R62). -/
def sieveBit (s : State) (ch : Nat) (b : Option Bool) : State :=
  let n := s.cfgN (0x2000 + ch) 0x02
  let m := s.cfgN (0x2000 + ch) 0x03
  let c0 := phaseStart (s.chan ch)
  let c := sincBit c0 (s.chanClock ch) b
  if c.sincPhase < m then s.modChan ch fun _ => c
  else
    let x := combStep (sincLast c.integ) c.comb
    let exact := decide (m = 1 <<< m.log2)
    let d := s.draw
    let e : Int := if exact then 0 else ((d.1 % 3 : Nat) : Int) - 1
    let s := if exact then s else d.2
    let c := { c with comb := x.1, firHist := (sincNormal x.2.toInt n m e :: c.firHist).take 64, sincPhase := 0
                      firPhase := c.firPhase + 1 }
    if c.firPhase < s.cfgN (0x2000 + ch) 0x05 then s.modChan ch fun _ => c else s.mainOutput ch c c0.edge

end State

/-- Modulator bits of a channel and the last one, one for each rising edge of its MCLK from the edge after the latest one;
each main-path sample they complete is stamped and delivered (R53 to R58, R62). -/
def execSieveOutput (ch : Fin 48) (bits : List (Option Bool)) (last : Option Bool) (s : State) :
    Host.Outcome State Fault Refusal :=
  if (s.chan ch).status = .off then .next s
  else .next ((bits.foldl (fun s b => s.sieveBit ch b) s).sieveBit ch last)

/-- SETTLE_SAMPLES outputs have passed: the channel reports VALID; the sample delivered while it settled stays none that an
engine takes as new (R47, R65). -/
def execSettleDone (ch : Fin 48) (s : State) : Host.Outcome State Fault Refusal :=
  if (s.chan ch).status = .settling ∧ (s.chan ch).settleLeft = 0 then .next (s.chanStatus ch .valid) else .next s

/-- A bit period without a mid-bit transition in MANCHESTER mode: the flag alone (R51). -/
def execManchesterErr (ch : Fin 48) (s : State) : Host.Outcome State Fault Refusal :=
  if (s.chan ch).status ≠ .off ∧ s.cfg (0x2000 + ch) 0x01 = 2 then .next (s.flag (0x2000 + ch) 0x27 2) else .next s

/-- An edge on SIEVE_SYNC (R63). -/
def execSieveSyncPin (rising : Bool) (s : State) : Host.Outcome State Fault Refusal :=
  if s.regN 0x2100 0x03 = (if rising then 1 else 2) then .next (s.addSync (later s.now (ns 50)) 1) else .next s

/-- A write of SYNC_AT: 10 us to 1 s ahead, or 0 to disarm (R63). -/
def execSyncAtWrite (req : Requester) (value : BitVec 64) (s : State) : Host.Outcome State Fault Refusal :=
  let d := sdiff value s.now
  .next (guarded req 0x2100 0x01 engineers true true
    (if value = 0#64 ∨ ((us 10 : Int) ≤ d ∧ d ≤ (sec 1 : Nat)) then 0 else 0x0C20)
    (fun s =>
      let s := s.disarmSync
      if value = 0#64 then s
      else
        let array := decide (s.reg 0x2100 0x02 = 1 ∧ s.reg 0x1700 0x20 = 0)
        let s := (s.putT 0x2100 0x01 value).addSync value (if array then 3 else 2)
        if array then s.send (.runner 0xFF 0x32 [((s.toArray value).toNat : Int)]) else s) s)

/-- The earliest waiting synchronisation takes effect, with those within one MCLK period of it: the first edge at or after S
is phase 0 of every running channel, which settles but for a supervision fault (R62, R64, R75). -/
def execSyncTakeEffect (s : State) : Host.Outcome State Fault Refusal :=
  match s.sieve.syncs with
  | [] => .next s
  | (t, source) :: r =>
    let p := s.syncPeriod
    let gone := r.filter fun x => decide (sdiff x.1 t < p)
    let at0 := s.regT 0x2100 0x01
    let s := s.modSieve fun v => { v with syncs := r.filter (fun x => !decide (sdiff x.1 t < p)), lastSyncAt := some t }
    let s := if ((t, source) :: gone).any fun x => decide (x.1 = at0 ∧ x.2 ≠ 1) then s.put 0x2100 0x01 0 else s
    let s := ((s.putT 0x2100 0x04 t).count 0x2100 0x05).eventAt 0x0211 [source] t
    .next ((List.range 48).foldl (fun s ch =>
      if (s.chan ch).status = .off then s
      else
        let s := s.modChan ch fun c => { c with phaseAt := some (s.mclkEdge (s.chanK ch) t) }
        if (s.chan ch).status = .supvFault then s else s.settle ch) s)

/-! ## SAR converters (R71 to R73) -/

/-- A scan round starts: the enabled inputs of each group in index order, one conversion per 250 ns. -/
def execSarScanRound (codes : List Nat) (s : State) : Host.Outcome State Fault Refusal :=
  if s.ctl.mode = .dormant then .next s
  else
    let group (g : Nat) (s : State) : State :=
      let ins := (List.range 8).filter fun k => decide (s.cfg (0x2030 + 8 * g + k) 0x01 = 1)
      ((List.range ins.length).foldl (fun s j =>
        let k := 8 * g + ins.getD j 0
        s.deliver (48 + k) ((codes.getD k 0 % 65536 * 32768 : Nat) : Int) (later s.now (ns (250 * j))) 2) s)
    .next (group 1 (group 0 s))

/-- The two-bit fields of SAR_ROLES with the calibrating converter and a group exchanged. -/
def sarSwap (roles g : Nat) : Nat :=
  let a := roles % 4
  let b := roles / 4 % 4
  let c := roles / 16 % 4
  if g = 0 then c + 4 * b + 16 * a else a + 4 * c + 16 * b

/-- A 10 s slot: the calibrated converter takes over a group when every pair of codes agrees (R72, R73). The code difference
of SAR_MISMATCH is the incoming code less the outgoing one (DESIGN CHOICE, log entry 111). -/
def execSarHandoverSlot (incoming outgoing : List Nat) (s : State) : Host.Outcome State Fault Refusal :=
  if s.ctl.mode = .dormant ∨ s.sieve.sarReady = false then .next s
  else
    let roles := s.regN 0x2100 0x08
    let g := s.sieve.sarStep.val % 2
    let out := if g = 0 then roles % 4 else roles / 4 % 4
    let inc := roles / 16 % 4
    let ins := (List.range 8).filter fun k => decide (s.cfg (0x2030 + 8 * g + k) 0x01 = 1)
    let diff (k : Nat) : Int := (incoming.getD k 0 : Int) - outgoing.getD k 0
    match ins.find? fun k => decide (s.regN 0x2100 0x06 < (diff k).natAbs) with
    | some k =>
      .next (((s.count 0x2100 0x0A).modSieve fun v => { v with sarReady := false }).event 0x0213
        [inc, (8 * g + k : Nat), diff k])
    | none =>
      let s := (s.put 0x2100 0x08 (sarSwap roles g)).count 0x2100 0x09
      .next ((s.modSieve fun v => { v with sarReady := false, sarStep := v.sarStep + 1 }).event 0x0212 [inc, out, g])

/-- A converter's calibration is complete (R584). -/
def execSarCalibrationDone (s : State) : Host.Outcome State Fault Refusal :=
  .next (s.modSieve fun v => { v with sarReady := true })

end Sys2Proof.Machine
end

