-- ==== Sys2Proof/Machine/Sundial.lean ====
section
/-! DEFINITION. Sundial time: the mapping to TAI, disciplining, PTP, timed outputs, captures and references (R409 to
R438). The update of the dividers is in the file of the clock update. -/

namespace Sys2Proof.Machine

/-! ## TIME80 and the mapping (R6, R414) -/

/-- Nanoseconds since the PTP epoch of a TIME80 number: 48 bits of seconds, then 32 bits of nanoseconds. -/
def t80Ns (n : Int) : Int := (n % p2 48) * 1000000000 + n / p2 48

/-- The TIME80 number of a time in nanoseconds. -/
def nsT80 (t : Int) : Int := (t / 1000000000) % p2 48 + (t % 1000000000) * p2 48

/-- A TIME80 number is in range (R6). -/
def t80Ok (n : Int) : Bool := decide (0 ≤ n ∧ n / p2 48 ≤ 999999999)

namespace State

/-- MAP_VALID. -/
def mapValid (s : State) : Bool := decide (s.reg 0x1400 0x08 = 1)

/-- MAP_TIME in nanoseconds. -/
def mapNs (s : State) : Int := t80Ns (s.reg 0x1400 0x07)

/-- An ST64 time as TAI in 1/256 ns (R414 before its rounding). -/
def taiCounts (s : State) (t : ST64) : Int := s.mapNs * 256 + sdiff t (s.regT 0x1400 0x06)

/-- An ST64 time as TAI nanoseconds (R414). -/
def taiNs (s : State) (t : ST64) : Int := s.mapNs + roundDiv (sdiff t (s.regT 0x1400 0x06)) 256

/-- A TAI time in nanoseconds as ST64 (R414). -/
def ofTaiNs (s : State) (t : Int) : ST64 := later (s.regT 0x1400 0x06) ((t - s.mapNs) * 256)

/-- CADENCE_DIV_SH of a cadence: the divisor in force until it is written (R439). -/
def cadenceShadow (s : State) (c : Nat) : Nat :=
  if s.regN 0x1220 (3 + c) = 0 then s.cfgN 0x1210 (2 + c) else s.regN 0x1220 (3 + c)

/-- NOW_TIME. -/
def nowTime (s : State) : Int := if s.mapValid then nsT80 (s.taiNs s.now) else 0

/-! ## The time state (R417) -/

def timeState (s : State) : Nat := s.regN 0x1400 0x03

/-- A change of TIME_STATE: 0 FREE, 1 ACQUIRING, 2 LOCKED, 3 HOLDOVER, 4 FOLLOWER. -/
def toTimeState (s : State) (n : Nat) : State :=
  let old := s.timeState
  if old = n then s
  else
    ((s.put 0x1400 0x03 n).modTime fun t => { t with inLimit := 0, outLimit := 0 }).event 0x0D10
      [old, n, s.reg 0x1400 0x0A]

/-- STEER takes a value; the log keeps what governed it over the last 100 s. -/
def setSteer (s : State) (v : Int) : State :=
  let v := clamp (-50000) 50000 v
  let s := if v.natAbs = 50000 then s.flag 0x1400 0x11 3 else s
  (s.put 0x1400 0x0B v).modTime fun t =>
    let past (e : ST64 × Int) : Bool := decide ((sec 100 : Nat) < sdiff s.now e.1)
    { t with steerLog := (s.now, v) :: (t.steerLog.takeWhile (fun e => !past e) ++ (t.steerLog.dropWhile fun e => !past e).take 1) }

/-- A value of STEER the servo or a reference chooses: the spec bounds it (R411, R418) and leaves it open. -/
def freeSteer (s : State) : State :=
  let d := s.draw
  d.2.setSteer (((d.1 % 100001 : Nat) : Int) - 50000)

/-- The mean of STEER over the last 100 s: each logged value for the time it held. -/
def steerMean (s : State) : Int :=
  let limit := later s.now (-(sec 100 : Nat))
  let r := s.time.steerLog.foldl (fun (a : ST64 × Int × Int) e =>
    let from0 := if sdiff e.1 limit < 0 then limit else e.1
    let d := max 0 (sdiff a.1 from0)
    (from0, a.2.1 + e.2 * d, a.2.2 + d)) (s.now, 0, 0)
  if r.2.2 = 0 then s.reg 0x1400 0x0B else roundQuot r.2.1 r.2.2

/-- Entry to HOLDOVER. -/
def toHoldover (s : State) : State :=
  let s := (s.flag 0x1400 0x11 1).putT 0x1400 0x0F s.now
  let s := if s.reg 0x1400 0x05 = 1 ∧ s.time.ref10m then s.freeSteer else s.setSteer s.steerMean
  s.toTimeState 3

/-- The source of the servo is present. -/
def sourcePresent (s : State) : State :=
  if s.timeState = 0 ∨ s.timeState = 3 then s.toTimeState 1 else s

/-- The source of the servo is lost. -/
def sourceLost (s : State) : State :=
  if s.timeState = 1 ∨ s.timeState = 2 then
    if s.time.everLocked then s.toHoldover else s.toTimeState 0
  else s

/-- The first instant after t whose mapped TIME80 has nanoseconds 0. -/
def nextSecond (s : State) (t : ST64) : ST64 :=
  let c := s.taiCounts t
  later t ((sec 1 : Nat) - c % (sec 1 : Nat))

/-- NEXT of an armed PPS program follows the mapping (R422, R432). -/
def ppsNext (s : State) : State :=
  (List.range 5).foldl (fun s o =>
    let g := vget s.time.outs o TimedOut.idle
    if g.armed && decide (g.mode = 3) then s.putT (0x1410 + o) 0x08 (s.nextSecond s.now) else s) s

/-- A step of MAP_TIME by the offset (R418). -/
def stepMap (s : State) (offset : Int) : State :=
  let s := (s.put 0x1400 0x07 (nsT80 (s.mapNs - roundDiv offset 256))).ppsNext
  ((s.count 0x1400 0x10).flag 0x1400 0x11 0).event 0x0D11 [-offset]

/-- A measurement of the servo: a step, a slew at the limit, or the servo's own choice, then the lock conditions (R417,
R418). That the limit is ±50 000 ppb of STEER is DEDUCED (log entry 57). -/
def discipline (s : State) (offset : Int) : State :=
  let s := s.put 0x1400 0x0A offset
  let s := s.sourcePresent
  if s.timeState = 4 then s
  else
    let big := decide (s.regN 0x1400 0x0C * 256 < offset.natAbs)
    let s := if !big then s.freeSteer
      else if s.reg 0x1400 0x0D = 0 ∨ dwh s.ctl.mode then s.stepMap offset
      else s.setSteer (if 0 < offset then -50000 else 50000)
    let limit := s.regN 0x1400 0x0E * 256
    if s.timeState = 1 then
      let n := if offset.natAbs ≤ limit then s.time.inLimit + 1 else 0
      let s := s.modTime fun t => { t with inLimit := n }
      if 16 ≤ n then
        ((s.put 0x1400 0x08 1).modTime fun t => { t with everLocked := true, lockedAt := some s.now }).toTimeState 2
      else s
    else
      let n := if 4 * limit < offset.natAbs then s.time.outLimit + 1 else 0
      let s := s.modTime fun t => { t with outLimit := n }
      if s.timeState = 2 ∧ 4 ≤ n then s.toTimeState 1 else s

/-! ## PTP (R420, R421) -/

def ptpPort (s : State) (p : Nat) : PtpPort := vget s.time.ports p PtpPort.idle
def modPort (s : State) (p : Nat) (g : PtpPort → PtpPort) : State :=
  s.modTime fun t => { t with ports := vmod t.ports p g }

/-- A frame has arrived on a port: LAN-silence ends (R469). -/
def heardOn (s : State) (p : Nat) (stamp : ST64) : State :=
  let s : State := { s with net := { s.net with lastRx := vmod s.net.lastRx p fun _ => some stamp } }
  if s.reg (0x1501 + p) 0x21 = 1 then (s.put (0x1501 + p) 0x21 0).event 0x0F11 [p, 0] else s

/-- The network protocols of WATCH and later modes run, and the port's link is up (R461). -/
def netLive (s : State) (p : Nat) : Bool := decide (s.ctl.mode ≠ .dormant ∧ s.reg (0x1501 + p) 0x20 ≠ 0)

end State

/-- The dataset comparison of R421, in the field order of IEEE 1588: x is better than y. -/
def betterMaster (x y : MasterData) : Bool :=
  let a := [x.priority1, x.clockClass, x.accuracy, x.variance, x.priority2, x.identity, x.stepsRemoved]
  let b := [y.priority1, y.clockClass, y.accuracy, y.variance, y.priority2, y.identity, y.stepsRemoved]
  match (a.zip b).find? fun p => decide (p.1 ≠ p.2) with
  | some p => decide (p.1 < p.2)
  | none => false

namespace State

/-- The device's own dataset as a master: clockClass 255 for a slave-only clock; the fields the spec gives no value take
the values of a clock of unknown accuracy (log entry 20). -/
def ownData (s : State) : MasterData :=
  ⟨s.regN 0x1401 0x02, if s.reg 0x1401 0x04 = 1 then s.regN 0x1401 0x05 else 255, 0xFE, 0xFFFF, s.regN 0x1401 0x03,
    beNat (s.regB 0x1500 0x01), 0⟩

/-- A port's master, where a master-capable device does not rank better itself (R420, R421). -/
def portMaster (s : State) (p : Nat) : Option MasterData :=
  (s.ptpPort p).master.filter fun m => !(decide (s.reg 0x1401 0x04 = 1) && betterMaster s.ownData m)

/-- The port that disciplines: the better master, ties to ETHA; 0xFF with no master. -/
def bestPort (s : State) : Nat :=
  match s.portMaster 0, s.portMaster 1 with
  | none, none => 0xFF
  | some _, none => 0
  | none, some _ => 1
  | some a, some b => if betterMaster b a then 1 else 0

/-- IEEE 1588 port state codes: 3 DISABLED, 4 LISTENING, 6 MASTER, 7 PASSIVE, 8 UNCALIBRATED, 9 SLAVE. -/
def portState (s : State) (p : Nat) : Nat :=
  if !s.netLive p then 3
  else
    match s.portMaster p with
    | none => if s.reg 0x1401 0x04 = 1 then 6 else 4
    | some _ =>
      if s.regN 0x1402 0x01 = p then (if s.timeState = 2 then 9 else 8)
      else 7

/-- The entries of PTP status follow the ports; moving between masters queues PTP_PORT (R421). -/
def choosePort (s : State) : State :=
  let old := s.regN 0x1402 0x01
  let new := s.bestPort
  let s := s.put 0x1402 0x01 new
  let s := match (s.ptpPort new).master with
    | some m => (s.putB 0x1402 0x03 (toBe 8 m.identity)).put 0x1402 0x04 m.stepsRemoved
    | none => s
  if old ≠ new ∧ old ≠ 0xFF ∧ new ≠ 0xFF then s.event 0x0D14 [new] else s

/-- RX_DELAY and TX_DELAY of a port (R437, R463). -/
def rxDelay (s : State) (p : Nat) : Nat := s.regN 0x1401 (0x08 + 2 * p)
def txDelay (s : State) (p : Nat) : Nat := s.regN 0x1401 (0x09 + 2 * p)

/-- A PTP message leaves a port, with its own content and no PRP trailer (R465, R467). -/
def sendPtp (s : State) (p type : Nat) (fields : List Int) : State :=
  s.send (.frame p 0x88F7 (s.regN 0x1401 0x06) none type fields [])

end State

/-- A PTP message received at a port enters its ring, of a length that no operand tells: event messages Q8, general ones Q7
(R464, R518; log entry 116). -/
def State.postPtp (s : State) (q : Nat) (p : Fin 2) (stamp : ST64) : State :=
  (s.skipDraws 1).postFrame q (64 + s.draw.1 % 64) p (later stamp (-(s.rxDelay p : Int))) []

/-- A Sync of a port's master: its receive stamp at the pin, and the corrected time it left the master, in 1/256 ns of
TAI (R417, R420). -/
def execPtpSyncRx (p : Fin 2) (domain : Nat) (stamp : BitVec 64) (origin : Int) (s : State) :
    Host.Outcome State Fault Refusal :=
  if !s.netLive p ∨ s.regN 0x1401 0x01 ≠ domain then .next s
  else if (s.portMaster p).isNone then .next (((s.heardOn p stamp).postPtp 8 p stamp).count 0x1402 0x08)
  else
    let s := (s.heardOn p stamp).postPtp 8 p stamp
    let rx := later stamp (-(s.rxDelay p : Int))
    let offset := s.taiCounts rx - (origin + (s.ptpPort p).meanDelay * 256)
    let s := (s.count 0x1402 0x08).modPort p fun q => { q with offset := offset }
    if s.regN 0x1402 0x01 ≠ p.val then .next (s.put 0x1402 0x07 offset)
    else if s.reg 0x1400 0x04 = 1 then .next (s.discipline offset)
    else .next s

/-- An Announce updates the best master comparison of its port (R421); the UTC offset is taken while LOCKED (R483). -/
def execPtpAnnounceRx (p : Fin 2) (domain : Nat) (m : MasterInfo) (s : State) : Host.Outcome State Fault Refusal :=
  if !s.netLive p ∨ s.regN 0x1401 0x01 ≠ domain then .next s
  else
    let s := (s.heardOn p s.now).postPtp 7 p s.now
    let d : MasterData := ⟨m.priority1, m.clockClass, m.accuracy, m.variance, m.priority2, m.identity, m.stepsRemoved⟩
    let take := match (s.ptpPort p).master with
      | none => true
      | some old => decide (old.identity = d.identity) || betterMaster d old
    let s := if take then s.modPort p fun q => { q with master := some d } else s
    let s := s.choosePort
    let s := if s.reg 0x1400 0x04 = 1 then s.sourcePresent else s
    .next (if s.timeState = 2 ∧ s.reg 0x1400 0x04 = 1 ∧ s.regN 0x1402 0x01 = p.val then
        s.put 0x1500 0x07 (satS 16 m.utcOffset) else s)

/-- A peer-delay message: a request is answered; a response gives the port's link delay, half the round trip less the
peer's turnaround in nanoseconds (R420, R421). -/
def execPtpPdelayRx (p : Fin 2) (msg : PdelayMsg) (stamp : BitVec 64) (s : State) : Host.Outcome State Fault Refusal :=
  if !s.netLive p then .next s
  else
    let s := (s.heardOn p stamp).postPtp 8 p stamp
    let rx := later stamp (-(s.rxDelay p : Int))
    match msg with
    | .request => .next ((s.sendPtp p 3 [(rx.toNat : Int)]).sendPtp p 10 [(later s.now (s.txDelay p)).toNat])
    | .response turnaround =>
      match (s.ptpPort p).reqAt with
      | none => .next s
      | some t =>
        let d := (max 0 (roundDiv (sdiff rx t - 256 * turnaround) 512)).toNat
        .next ((s.modPort p fun q => { q with meanDelay := d, reqAt := none }).put 0x1402 (0x05 + p.val) (satU 32 d))

/-- A port sends its peer-delay request (R421). -/
def execPtpPdelayReqTx (p : Fin 2) (s : State) : Host.Outcome State Fault Refusal :=
  if !s.netLive p then .next s
  else .next ((s.modPort p fun q => { q with reqAt := some (later s.now (s.txDelay p)) }).sendPtp p 2 [])

/-- As master, a port sends two-step Sync and Announce (R420). -/
def execPtpMasterTx (p : Fin 2) (s : State) : Host.Outcome State Fault Refusal :=
  if s.netLive p && decide (s.portState p = 6) then
    let t := later s.now (s.txDelay p)
    let m := s.ownData
    let seq := s.time.ptpSeq % 65536
    let s := s.sendPtp p 0 [seq]
    let s := s.sendPtp p 8 [seq, nsT80 (s.taiNs t)]
    let s := s.sendPtp p 11 [seq, m.priority1, m.clockClass, m.accuracy, m.variance, m.priority2, m.identity, 0,
      s.reg 0x1500 0x07]
    .next (s.modTime fun t => { t with ptpSeq := t.ptpSeq + 1 })
  else .next s

/-- A rising edge on PPS_IN: the offset against the nearest mapped whole second (R416). -/
def execPpsInEdge (stamp : BitVec 64) (s : State) : Host.Outcome State Fault Refusal :=
  if s.reg 0x1400 0x04 ≠ 2 then .next s
  else
    let s := if s.time.ppsLost then (s.modTime fun t => { t with ppsLost := false }).event 0x0D13 [3, 1] else s
    let s := s.sourcePresent
    if s.mapValid then
      let r := s.taiCounts stamp % (sec 1 : Nat)
      .next (s.discipline (if 2 * r < (sec 1 : Nat) then r else r - (sec 1 : Nat)))
    else .next s

/-- A source times out: a PTP port's Announce or Sync, or PPS_IN (R417, R421). -/
def execTimeSourceLost (src : TimeSource) (s : State) : Host.Outcome State Fault Refusal :=
  match src with
  | .ptp p =>
    let s := (s.modPort p fun q => { q with master := none }).choosePort
    .next (if s.bestPort = 0xFF ∧ s.reg 0x1400 0x04 = 1 then s.sourceLost else s)
  | .pps =>
    if s.reg 0x1400 0x04 = 2 ∧ !s.time.ppsLost then
      .next ((s.modTime fun t => { t with ppsLost := true }).event 0x0D13 [3, 0]).sourceLost
    else .next s

/-- A write of TIME_SET (R415); an entry to LOCKED in the same cycle stands (R432). -/
def execTimeSet (req : Requester) (value : Int) (s : State) : Host.Outcome State Fault Refusal :=
  if windowless req .time80 then .next (s.answer req 0x1400 0x09 0x0301)
  else .next (guarded req 0x1400 0x09 engineers (t80Ok value) true
    (if s.reg 0x1400 0x04 = 1 ∨ s.timeState = 4 ∨ s.time.lockedAt = some s.now then 0x0CD2 else 0)
    (fun s => (((s.putT 0x1400 0x06 s.now).put 0x1400 0x07 value).put 0x1400 0x08 1).ppsNext) s)

/-- A write of TIME_SOURCE: 0 takes TIME_STATE to FREE (R416, R417). -/
def execTimeSourceWrite (req : Requester) (value : Int) (s : State) : Host.Outcome State Fault Refusal :=
  .next (guarded req 0x1400 0x04 engineers (decide (0 ≤ value ∧ value ≤ 2)) (dwh s.ctl.mode)
    (if s.reg 0x1700 0x20 ≠ 0 then 0x0CD2 else 0)
    (fun s =>
      let s := s.put 0x1400 0x04 value
      if value = 0 then s.toTimeState 0
      else if value = 1 ∧ s.bestPort ≠ 0xFF then s.sourcePresent
      else s) s)

/-! ## References (R419, R430, R433) -/

/-- REF_LOSS: source 1 REF10M_IN, 2 LREFCLK, 3 PPS_IN, 4 Aligner; 0 lost, 1 restored. -/
def State.refEvent (s : State) (source kind : Nat) : State := s.event 0x0D13 [source, kind]

/-- REF10M_IN is lost for 10 periods. -/
def execRef10mLoss (s : State) : Host.Outcome State Fault Refusal :=
  if s.time.ref10m then
    .next (((s.modTime fun t => { t with ref10m := false }).flag 0x1400 0x11 2).refEvent 1 0)
  else .next s

/-- REF10M_IN returns: FREQ_REF applies again. -/
def execRef10mReturn (s : State) : Host.Outcome State Fault Refusal :=
  if s.time.ref10m then .next s
  else
    let s := (s.modTime fun t => { t with ref10m := true }).refEvent 1 1
    .next (if s.timeState = 3 ∧ s.reg 0x1400 0x05 = 1 then s.freeSteer else s)

/-- LREFCLK is lost. -/
def execLrefclkLoss (s : State) : Host.Outcome State Fault Refusal :=
  if s.time.lref then .next ((s.modTime fun t => { t with lref := false }).refEvent 2 0) else .next s

/-- LREFCLK returns. -/
def execLrefclkReturn (s : State) : Host.Outcome State Fault Refusal :=
  if s.time.lref then .next s else .next ((s.modTime fun t => { t with lref := true }).refEvent 2 1)

/-- The Aligner loses lock: each output keeps its tap setting. -/
def execAlignerLockLoss (s : State) : Host.Outcome State Fault Refusal :=
  if s.time.aligner then
    .next ((((s.modTime fun t => { t with aligner := false }).flag 0x1400 0x11 4).count 0x1238 0x03).refEvent 4 0)
  else .next s

/-- TAP_FS takes a measurement, which is free (R430). -/
def State.measureTap (s : State) : State :=
  let d := s.draw
  d.2.put 0x1238 0x02 ((d.1 % 65536 : Nat) : Int)

/-- The Aligner regains lock. -/
def execAlignerRelock (s : State) : Host.Outcome State Fault Refusal :=
  if s.time.aligner then .next s else .next ((s.modTime fun t => { t with aligner := true }).measureTap.refEvent 4 1)

/-! ## Timed outputs (R422 to R425) -/

namespace State

def tout (s : State) (o : Nat) : TimedOut := vget s.time.outs o TimedOut.idle
def modOut (s : State) (o : Nat) (g : TimedOut → TimedOut) : State :=
  s.modTime fun t => { t with outs := vmod t.outs o g }

/-- STATE of an output: 0 idle, 1 armed, 2 running. -/
def toutState (s : State) (o : Nat) (n : Nat) : State := s.put (0x1410 + o) 0x07 n

/-- The checks of ARM, in the order of R424. -/
def armCheck (s : State) (o : Nat) : Nat :=
  let mode := s.regN (0x1410 + o) 0x01
  let ahead := sdiff (s.regT (0x1410 + o) 0x02) s.now
  let period := s.regN (0x1410 + o) 0x03
  let width := s.regN (0x1410 + o) 0x04
  if (mode = 1 ∨ mode = 2) ∧ !((us 1 : Int) ≤ ahead ∧ ahead ≤ (sec 1000 : Nat)) then 0x0CD0
  else if width < ns 5 then 0x0CD1
  else if mode = 2 ∧ (period < ns 10 ∨ sec 1000 < period ∨ period < width + ns 5) then 0x0CD1
  else if mode = 3 ∧ ms 999 < width then 0x0CD1
  else 0

/-- The drive of a timed output's pin: its level after POLARITY, or 2, high-impedance, in DORMANT and before firmware has
configured it (R19). -/
def toutDrive (s : State) (o : Nat) : Nat :=
  if s.ctl.mode = .dormant ∨ (s.tout o).configured = false then 2
  else ((s.tout o).active != decide (s.reg (0x1410 + o) 0x05 = 1)).toNat

/-- A timed output's pin takes its drive. -/
def toutPin (s : State) (o : Nat) : State :=
  s.send (.pin (match o with | 0 => "TEV0" | 1 => "TEV1" | 2 => "TEV2" | 3 => "TEV3" | _ => "PPS_OUT") (s.toutDrive o))

/-- The pins of the configured outputs follow a transition into or out of DORMANT (R19). -/
def toutPins (s : State) : State :=
  (List.range 5).foldl (fun s o => if (s.tout o).configured then s.toutPin o else s) s

end State

/-- A write of 1 to ARM: the program as it stands governs, after a pulse in progress (R424). -/
def execTimedOutputArm (req : Requester) (o : Fin 5) (s : State) : Host.Outcome State Fault Refusal :=
  .next (guarded req (0x1410 + o) 0x06 engineers true true (s.armCheck o)
    (fun s =>
      let e := 0x1410 + o.val
      let mode := s.regN e 0x01
      let rise := if mode = 3 then s.nextSecond s.now else s.regT e 0x02
      let s := s.modOut o fun g =>
        { g with mode := mode, start := s.regT e 0x02, period := s.regN e 0x03, width := s.regN e 0x04
                 configured := true, armed := decide (mode ≠ 0), riseAt := rise }
      let s := if mode = 0 then s else s.putT e 0x08 rise
      (s.toutState o (if mode = 0 then 0 else 1)).toutPin o) s)

/-- An edge instant of an output arrives: a falling edge ends the pulse in progress, a rising edge starts the next one
(R422, R423). -/
def execTimedOutputEdge (o : Fin 5) (s : State) : Host.Outcome State Fault Refusal :=
  let g := s.tout o
  let e := 0x1410 + o.val
  if g.active then
    let s := (s.modOut o fun g => { g with active := false }).toutPin o
    .next (if g.armed then s else s.toutState o 0)
  else if !g.armed ∨ (g.mode = 3 ∧ !s.mapValid) then .next s
  else
    let rise := if g.mode = 3 then s.nextSecond (later s.now (-(ms 500 : Nat))) else g.riseAt
    let next := match g.mode with
      | 2 => later rise g.period
      | 3 => later rise (sec 1)
      | _ => rise
    let s := s.modOut o fun g =>
      { g with active := true, fallAt := later rise g.width, riseAt := next, armed := decide (g.mode ≠ 1) }
    let s := ((s.putT e 0x08 next).countBy 64 e 0x09 1).toutState o 2
    .next (s.toutPin o)

/-! ## Captures (R426, R427) -/

/-- A capture of HISTORY: ST64, sequence, edge, three reserved bytes. -/
def captureBytes (c : ST64 × BitVec 32 × Nat) : Bytes := toLe 8 c.1.toNat ++ toLe 4 c.2.1.toNat ++ toLe 4 c.2.2

/-- An edge on TCAPn of the polarity EDGE sets: stamp is its Sundial time at the pin. -/
def execTimeCapture (n : Fin 4) (rising : Bool) (stamp : BitVec 64) (s : State) : Host.Outcome State Fault Refusal :=
  let e := 0x1420 + n.val
  let edge := s.regN e 0x01
  if !bitOf edge (if rising then 0 else 1) then .next s
  else
    let c := vget s.time.caps n ⟨none, []⟩
    let near := match c.lastEdge with
      | none => false
      | some t => decide (sdiff stamp t < (ns 20 : Nat))
    if near then .next (s.count e 0x06)
    else
      let s := s.advance e 0x03
      let t := later stamp (-(s.reg e 0x02))
      let x := (t, BitVec.ofInt 32 (s.reg e 0x03), if rising then 1 else 2)
      let s := s.putT e 0x04 t
      let h := (x :: c.history).take 16
      let b := h.flatMap captureBytes
      let s := s.putB e 0x05 (b ++ List.replicate (256 - b.length) 0#8)
      .next (s.modTime fun u => { u with caps := vmod u.caps n fun _ => ⟨some stamp, h⟩ })

end Sys2Proof.Machine
end

