-- ==== Sys2Proof/Machine/Network.lean ====
section
/-! DEFINITION. The station network: ports, PRP, Sampled Values, GOOSE (R460 to R485). -/

namespace Sys2Proof.Machine

namespace State

def modNet (s : State) (g : NetUnit → NetUnit) : State := { s with net := g s.net }

/-- A port's link is up. -/
def linkUp (s : State) (p : Nat) : Bool := decide (s.reg (0x1501 + p) 0x20 ≠ 0)

/-! ## Sending (R465, R467) -/

/-- A frame leaves on both LANs with one PRP sequence number. -/
def sendBoth (s : State) (etherType tag type : Nat) (fields : List Int) (data : Bytes) : State :=
  let seq := (s.net.seqOut + 1) % 65536
  let s := s.modNet fun n => { n with seqOut := seq }
  let s := if s.linkUp 0 then s.send (.frame 0 etherType tag (some seq) type fields data) else s
  if s.linkUp 1 then s.send (.frame 1 etherType tag (some seq) type fields data) else s

/-! ## Reception (R460, R466 to R469) -/

/-- The VIDs of VID_FILTER admit a frame. -/
def vidOk (s : State) (vid : Option Nat) : Bool :=
  match vid with
  | none => true
  | some v =>
    let l := (List.range 16).map fun k => leNat (slice (s.regB 0x1500 0x06) (2 * k) 2)
    decide (v = 0) || l.all (fun x => decide (x = 0)) || l.contains v

/-- A frame is on time and admitted: its port is up, its size and VID are right; the port has received. -/
def screen (s : State) (h : EthHeader) : Bool × State :=
  let p := h.port.val
  if !s.linkUp p then (false, s)
  else
    let s := s.heardOn p h.stamp
    if 1528 < h.size then (false, s.count (0x1501 + p) 0x28)
    else if !s.vidOk h.vid then (false, s.count 0x1500 0x20)
    else (true, s)

/-- NODES follows the node table. -/
def setNodes (s : State) (l : List NetNode) : State :=
  (s.modNet fun n => { n with nodes := l }).put 0x1503 0x22 l.length

/-- The least recently heard source of a table. -/
def oldestNode : List NetNode → Option NetNode
  | [] => none
  | x :: r => match oldestNode r with
    | none => some x
    | some y => some (if sdiff x.heard y.heard ≤ 0 then x else y)

/-- The table entry of a source, made if the source is new; a full table loses the least recently heard one. -/
def nodeFor (s : State) (mac : Nat) : NetNode × State :=
  match s.net.nodes.find? fun n => decide (n.mac = mac) with
  | some n => (n, s)
  | none =>
    let n : NetNode := ⟨mac, [], s.now, false, false⟩
    if s.net.nodes.length < 512 then (n, s.setNodes (n :: s.net.nodes))
    else
      match oldestNode s.net.nodes with
      | some o => (n, (s.setNodes (n :: s.net.nodes.filter fun x => decide (x.mac ≠ o.mac))).count 0x1503 0x21)
      | none => (n, s)

/-- A table entry replaced. -/
def putNode (s : State) (n : NetNode) : State :=
  s.setNodes (s.net.nodes.map fun x => if x.mac = n.mac then n else x)

/-- PRP duplicate discard: whether the frame is kept (R468). -/
def prpKeep (s : State) (h : EthHeader) : Bool × State :=
  let p := h.port.val
  match h.trailer with
  | none => (true, s.count (0x1501 + p) 0x25)
  | some (seq, lan) =>
    let s := if lan = 0xA + p then s else s.count (0x1501 + p) 0x26
    let r := s.nodeFor h.src
    let n := { r.1 with heard := s.now }
    if n.window.any fun e => decide (e.1 = seq) then (false, (r.2.putNode n).count 0x1503 0x20)
    else (true, r.2.putNode { n with window := ((seq, s.now) :: n.window).take 64 })

/-- Screen and duplicate discard of one frame. -/
def receive (s : State) (h : EthHeader) : Bool × State :=
  let r := s.screen h
  if r.1 then r.2.prpKeep h else r

/-- The receive stamp at the line (R463). -/
def rxStamp (s : State) (h : EthHeader) : ST64 := later h.stamp (-(s.rxDelay h.port.val : Int))

/-! ## Frames about a swap (R480) -/

/-- An entry's configuration differs between two beds. -/
def entryDiffers (a b : Store) (i : Nat) : Bool :=
  (List.range 127).any fun k => decide (storeGet a (Dict.key i (k + 1)) ≠ storeGet b (Dict.key i (k + 1)))

/-- The bed a frame stamped t is processed with, where it is not the active one: that of before the latest swap. -/
def oldBed (s : State) (t : ST64) : Option Store :=
  match s.graft.before with
  | some (beat, old) => if sdiff t beat < 0 then some old else none
  | none => none

/-- A frame stamped t is processed with its bed; streams or subscriptions, base their first entry, that the swap has changed
stay restarted. -/
def underItsBed (s : State) (t : ST64) (base n : Nat) (f : State → State) : State :=
  match s.oldBed t with
  | none => f s
  | some old =>
    let l := (List.range n).filter fun k => entryDiffers old s.active (base + k)
    let r := (l.foldl (fun s k => s.put (base + k) 0x20 2) s).withBed (some old) f
    let r := r.modNet fun u =>
      if base = 0x1510 then { u with svs := l.foldl (fun v k => vmod v k fun x => vget s.net.svs k x) u.svs }
      else { u with subs := l.foldl (fun v k => vmod v k fun x => vget s.net.subs k x) u.subs }
    l.foldl (fun r k => r.put (base + k) 0x20 (s.reg (base + k) 0x20)) r

/-! ## Sampled Values (R470 to R474) -/

/-- An optional address filter: zeros are ignored. -/
def macMatches (b : Bytes) (mac : Nat) : Bool := decide (beNat b = 0 ∨ beNat b = mac)

/-- Samples in 1000 s of a stream (R470). -/
def svRate (s : State) (n : Nat) : Nat :=
  match s.cfgN (0x1510 + n) 0x07 with
  | 0 => 4800000
  | 1 => 14400000
  | 2 => 96000000
  | 3 => 80 * s.cfgN 0x4000 0x03
  | _ => 256 * s.cfgN 0x4000 0x03

/-- The stream a frame matches. -/
def svMatch (s : State) (h : EthHeader) (f : SvFrame) : Option Nat :=
  (List.range 16).find? fun n =>
    decide (s.cfg (0x1510 + n) 0x01 = 1 ∧ beNat (s.cfgB (0x1510 + n) 0x02) = h.dst ∧
      s.cfgN (0x1510 + n) 0x04 = f.appid ∧ s.cfgB (0x1510 + n) 0x05 = f.svId) && macMatches (s.cfgB (0x1510 + n) 0x03) h.src

/-- Bitstream channels that name SV channel v have a sample boundary. -/
def svBoundary (s : State) (v : Nat) : State :=
  (List.range 48).foldl (fun s ch =>
    if s.cfgN (0x2000 + ch) 0x11 ≠ 0 ∧ s.cfgN (0x2000 + ch) 0x12 = v ∧ s.chanDelivers ch then
      s.sampleBoundary ch false
    else s) s

/-- The stamp of an accepted sample, and whether it is synchronised (R473). -/
def svStamp (s : State) (n : Nat) (rx : ST64) (a : SvAsdu) : ST64 × Bool :=
  if bitOf (s.cfgN (0x1510 + n) 0x0A) a.smpSynch && s.mapValid then
    let frac := roundDiv ((a.smpCnt : Int) * 1000000000000) (s.svRate n)
    let sec0 := (s.taiNs rx - frac + 500000000) / 1000000000
    (s.ofTaiNs (sec0 * 1000000000 + frac), true)
  else (later rx (-(us (s.cfgN (0x1510 + n) 0x0B) : Int)), false)

/-- Status of a member from its quality: validity in bits 1 and 0, test in bit 11 (R474). -/
def svStatus (s : State) (n : Nat) (quality : Nat) (synced : Bool) : Nat :=
  let validity := quality % 4
  if validity = 1 ∨ validity = 2 ∨ (bitOf quality 11 ∧ s.cfg (0x1510 + n) 0x0D = 0) ∨
      (validity = 3 ∧ s.cfg (0x1510 + n) 0x0E = 0) then 6
  else if synced then 2 else 5

/-- Member m of stream n delivers one sample. -/
def svMember (s : State) (n m : Nat) (t : ST64) (synced : Bool) (v : Int × Nat) : State :=
  let c := leNat (slice (s.cfgB (0x1510 + n) 0x09) m 1)
  let full := s.cfg (0x2040 + c) 0x01
  if 128 ≤ c ∨ full = 0 then s
  else
    let s := s.deliver (64 + c) (satS 32 (roundQuot (v.1 * p2 31) full)) t (s.svStatus n v.2 synced)
    (s.put (0x2040 + c) 0x23 (v.2 % 4294967296 : Nat)).svBoundary c

/-- One ASDU of a matched frame (R471). -/
def svAsdu (s : State) (n : Nat) (rx : ST64) (a : SvAsdu) : State :=
  let e := 0x1510 + n
  let rate := s.svRate n / 1000
  let st := vget s.net.svs n ⟨none, none⟩
  let gap := match st.lastCnt with
    | none => 1
    | some l => (a.smpCnt + rate - l % rate) % rate
  let back := match st.lastCnt with
    | none => 0
    | some l => (l + rate - a.smpCnt % rate) % rate
  if st.lastCnt = some a.smpCnt then s
  else if 1 ≤ back ∧ back ≤ rate / 2 then s.count e 0x24
  else
    let s := s.modNet fun u => { u with svs := vmod u.svs n fun x => { x with lastCnt := some a.smpCnt } }
    let s := ((s.put e 0x21 (a.smpCnt % 65536 : Nat)).count e 0x22).countBy 32 e 0x23 ((gap : Int) - 1)
    let s := if s.reg e 0x20 = 2 then s else (s.put e 0x20 2).event 0x0F12 [n, 2]
    let t := s.svStamp n rx a
    (List.range (min a.members.length (s.cfgN e 0x08))).foldl
      (fun s m => s.svMember n m t.1 t.2 (a.members.getD m (0, 0))) s

/-- A stream's channels become LOST. -/
def svLose (s : State) (n : Nat) : State :=
  let s := (s.put (0x1510 + n) 0x20 1).event 0x0F12 [n, 1]
  (List.range (s.cfgN (0x1510 + n) 0x08)).foldl (fun s m =>
    let c := leNat (slice (s.cfgB (0x1510 + n) 0x09) m 1)
    if 128 ≤ c then s
    else
      let s := s.putStatus (64 + c) 6
      (List.range 48).foldl (fun s ch =>
        let src := s.cfgN (0x2000 + ch) 0x11
        if s.cfgN (0x2000 + ch) 0x12 = c ∧ (s.chan ch).status ≠ .off ∧ (src = 1 ∨ (src = 2 ∧ (s.chan ch).fromSv)) then
          s.putStatus ch 6
        else s) s) s

/-! ## GOOSE publication (R475 to R477) -/

/-- The members of a publication: source and encoding. -/
def gooseMembers : Bytes → List (Nat × Nat)
  | a :: b :: c :: _ :: r => (leNat [a, b], c.toNat) :: gooseMembers r
  | _ => []

/-- Publication p runs. -/
def pubRuns (s : State) (p : Nat) : Bool := decide (s.cfg (0x1540 + p) 0x01 = 1 ∧ s.ctl.mode ≠ .dormant)

/-- Member values as they stand; a channel without a new sample keeps what was last sent (R89, R476). -/
def pubValues (s : State) (p : Nat) (old : List Int) : List Int :=
  let ms := gooseMembers (s.cfgB (0x1540 + p) 0x09)
  (List.range ms.length).map fun k =>
    let m := ms.getD k (0, 1)
    let w : BitVec 32 := if 0xF000 ≤ m.1 then BitVec.ofNat 32 (leNat (slice (s.regB (0x1540 + p) 0x20) (4 * (m.1 % 16)) 4))
      else s.sourceWord none m.1
    let stale := decide (Bed.refSpace m.1 = 1 ∧ m.1 < 0xF000 ∧ Bed.refAddr m.1 < 192 ∧
      s.reg (0x2000 + Bed.refAddr m.1) 0x22 ≠ 2 ∧ s.reg (0x2000 + Bed.refAddr m.1) 0x22 ≠ 4)
    if stale ∧ k < old.length then old.getD k 0
    else if m.2 = 1 then (if w = 0#32 then 0 else 1) else w.toInt

/-- A publication's members have changed. -/
def pubChanged (s : State) (p : Nat) (new old : List Int) : Bool :=
  let ms := gooseMembers (s.cfgB (0x1540 + p) 0x09)
  (List.range ms.length).any fun k =>
    if (ms.getD k (0, 1)).2 = 1 then decide (new.getD k 0 ≠ old.getD k 0)
    else decide (s.cfgN (0x1540 + p) 0x0A < (new.getD k 0 - old.getD k 0).natAbs)

/-- The frame of a publication leaves; the next follows after the interval in force (R475, R476). -/
def pubSend (s : State) (p : Nat) : State :=
  let e := 0x1540 + p
  let g := vget s.net.pubs p ⟨false, [], 0⟩
  s.sendBoth 0x88B8 (s.cfgN e 0x08) 0
    ([s.cfg e 0x03, s.cfg e 0x05, s.reg e 0x21, s.reg e 0x22, s.cfg e 0x0D * g.interval, s.cfg e 0x0E,
      s.nowTime - (if s.mapValid then s.reg 0x1500 0x07 else 0), s.timeState] ++ g.values)
    (s.cfgB e 0x02 ++ s.cfgB e 0x04 ++ s.cfgB e 0x06 ++ s.cfgB e 0x07)

def modPub (s : State) (p : Nat) (g : GoosePub → GoosePub) : State := s.modNet fun u => { u with pubs := vmod u.pubs p g }

/-- One publication at an evaluation. -/
def pubEvaluate (s : State) (p : Nat) : State :=
  let e := 0x1540 + p
  let g := vget s.net.pubs p ⟨false, [], 0⟩
  if !s.pubRuns p then (if g.started then s.modPub p fun _ => ⟨false, [], 0⟩ else s)
  else
    let new := s.pubValues p g.values
    if !g.started then
      (((s.put e 0x21 1).put e 0x22 0).modPub p fun _ => ⟨true, new, s.cfgN e 0x0B⟩).pubSend p
    else if s.pubChanged p new g.values then
      (((s.advance e 0x21).put e 0x22 0).modPub p fun _ => ⟨true, new, s.cfgN e 0x0B⟩).pubSend p
    else s

/-! ## Start, stop and swap (R461, R480) -/

def modSub (s : State) (n : Nat) (g : GooseSub → GooseSub) : State := s.modNet fun u => { u with subs := vmod u.subs n g }

/-- A stream starts again: its order state is cleared, and it is lost until its first sample. -/
def svRestart (s : State) (n : Nat) : State :=
  let running := decide (s.reg (0x1510 + n) 0x20 = 2)
  let s := s.modNet fun u => { u with svs := vmod u.svs n fun _ => ⟨none, none⟩ }
  if s.cfg (0x1510 + n) 0x01 = 1 then (if running then s.svLose n else s.put (0x1510 + n) 0x20 1)
  else s.put (0x1510 + n) 0x20 0

/-- The same for a subscription. -/
def subRestart (s : State) (n : Nat) : State :=
  let running := decide (s.reg (0x1560 + n) 0x20 = 2)
  let s := s.modSub n fun _ => ⟨none, 0#64⟩
  if s.cfg (0x1560 + n) 0x01 = 1 then
    let s := s.put (0x1560 + n) 0x20 1
    if running then s.event 0x0F13 [n, 1, s.reg (0x1560 + n) 0x23] else s
  else s.put (0x1560 + n) 0x20 0

/-- PTP, Sampled Values and GOOSE start with the entry to WATCH or HALT from DORMANT. -/
def netStart (s : State) : State :=
  let s := (List.range 16).foldl (fun s n => s.svRestart n) s
  (List.range 32).foldl (fun s n => s.subRestart n) s

/-- They stop with the entry to DORMANT. -/
def netStop (s : State) : State :=
  let s := (List.range 16).foldl (fun s n => (s.put (0x1510 + n) 0x20 0).modPub n fun _ => ⟨false, [], 0⟩) s
  let s := (List.range 32).foldl (fun s n => s.put (0x1560 + n) 0x20 0) s
  let s := (s.modPort 0 fun q => { q with master := none }).modPort 1 fun q => { q with master := none }
  let s := s.put 0x1402 0x01 0xFF
  if s.reg 0x1400 0x04 = 1 then s.sourceLost else s

/-- A swap from an old bed: what it changes restarts (R480). -/
def swapNet (s : State) (old : Store) : State :=
  let s := (List.range 16).foldl (fun s n =>
    if entryDiffers old s.active (0x1510 + n) then (if s.ctl.mode = .dormant then s else s.svRestart n) else s) s
  let s := (List.range 32).foldl (fun s n =>
    if entryDiffers old s.active (0x1560 + n) then (if s.ctl.mode = .dormant then s else s.subRestart n) else s) s
  (List.range 16).foldl (fun s p =>
    if entryDiffers old s.active (0x1540 + p) then s.modPub p fun _ => ⟨false, [], 0⟩ else s) s

end State

/-! ## Commands -/

/-- A port's link goes up at a speed in Mb/s, or down with speed 0 (R460). -/
def execNetLinkChange (p : Fin 2) (speed : Nat) (full : Bool) (s : State) : Host.Outcome State Fault Refusal :=
  let e := 0x1501 + p.val
  let mode := s.regN e 0x01
  let ok := full && decide (speed = 1000 ∨ (speed = 100 ∧ mode = 2)) && decide (mode ≠ 0)
  let s := if speed ≠ 0 ∧ !ok ∧ mode ≠ 0 then s.count e 0x27 else s
  let link := if !ok then 0 else if speed = 100 then 1 else 2
  if s.reg e 0x20 = link then .next s
  else .next ((s.put e 0x20 link).event 0x0F10 [p.val, (decide (link ≠ 0)).toNat, if ok then speed else 0])

/-- A Sampled Values frame under the bed in force for it (R470 to R474). -/
def State.svFrame (s : State) (h : EthHeader) (f : SvFrame) : State :=
  match s.svMatch h f with
  | none => s
  | some n =>
    if s.cfgN (0x1510 + n) 0x06 ≠ f.confRev then
      let s := s.count (0x1510 + n) 0x25
      if State.onceASecond s.now (vget s.net.svs n ⟨none, none⟩).confAt then
        (s.modNet fun u => { u with svs := vmod u.svs n fun x => { x with confAt := some s.now } }).event 0x0F12 [n, 3]
      else s
    else
      let rx := s.rxStamp h
      f.asdus.foldl (fun s a => s.svAsdu n rx a) s

/-- A Sampled Values frame arrives (R470 to R474, R480); the cores receive it through Q6 (R464, R518). -/
def execSvFrameRx (h : EthHeader) (f : SvFrame) (s : State) : Host.Outcome State Fault Refusal :=
  let r := s.receive h
  let s := r.2
  if !r.1 ∨ s.ctl.mode = .dormant ∨ f.secured ∨ f.asdus.length = 0 ∨ 8 < f.asdus.length then .next s
  else .next ((s.postFrame 6 h.size h.port (s.rxStamp h) []).underItsBed (s.rxStamp h) 0x1510 16 fun s => s.svFrame h f)

/-- LOSS_SAMPLES intervals pass without an accepted sample (R474). -/
def execSvStreamLost (n : Fin 16) (s : State) : Host.Outcome State Fault Refusal :=
  if s.reg (0x1510 + n) 0x20 = 2 then .next (s.svLose n) else .next s

/-- A GOOSE frame under the bed in force for it (R478, R479). -/
def State.gooseFrame (s : State) (h : EthHeader) (f : GooseFrame) : State :=
  let hit := (List.range 32).find? fun n =>
    decide (s.cfg (0x1560 + n) 0x01 = 1 ∧ beNat (s.cfgB (0x1560 + n) 0x02) = h.dst ∧
      s.cfgN (0x1560 + n) 0x03 = f.appid ∧ s.cfgB (0x1560 + n) 0x04 = f.gocbRef) &&
      State.macMatches (s.cfgB (0x1560 + n) 0x06) h.src
  match hit with
  | none => s
  | some n =>
    let e := 0x1560 + n
    let g := vget s.net.subs n ⟨none, 0#64⟩
    if s.cfgN e 0x05 ≠ f.confRev then (s.count e 0x25).event 0x0F13 [n, 3, f.stNum]
    else if f.sim ∧ s.cfg e 0x07 ≠ 1 then s
    else if g.last = some (f.stNum, f.sqNum) then s
    else
      let rx := s.rxStamp h
      let s := s.modSub n fun _ => ⟨some (f.stNum, f.sqNum), later rx (ms f.tal)⟩
      let s := if s.reg e 0x20 = 2 then s else (s.put e 0x20 2).event 0x0F13 [n, 2, f.stNum]
      let same := match g.last with | some l => decide (l.1 = f.stNum) | none => false
      if same then
        let want := match g.last with | some l => if l.2 = 0xFFFFFFFF then 1 else l.2 + 1 | none => 0
        if f.sqNum = want then s else s.count e 0x24
      else
        let s := ((s.putB e 0x22 (f.data.take 512)).advance e 0x21).put e 0x23 (f.stNum % 4294967296 : Nat)
        s.ringPost 4 ⟨0x01, [n, f.stNum, (rx.toNat : Int)], slice f.data 0 48, s.now⟩

/-- A GOOSE frame arrives (R478 to R480). -/
def execGooseFrameRx (h : EthHeader) (f : GooseFrame) (s : State) : Host.Outcome State Fault Refusal :=
  let r := s.receive h
  let s := r.2
  if !r.1 ∨ s.ctl.mode = .dormant then .next s
  else .next (s.underItsBed (s.rxStamp h) 0x1560 32 fun s => s.gooseFrame h f)

/-- timeAllowedToLive passes without an accepted frame (R479). -/
def execGooseTalExpiry (n : Fin 32) (s : State) : Host.Outcome State Fault Refusal :=
  let e := 0x1560 + n.val
  if s.reg e 0x20 = 2 then .next ((s.put e 0x20 1).event 0x0F13 [n.val, 1, s.reg e 0x23]) else .next s

/-- Every 10 us each publication's members are evaluated (R476, R477). -/
def execGooseEvaluation (s : State) : Host.Outcome State Fault Refusal :=
  .next ((List.range 16).foldl (fun s p => s.pubEvaluate p) s)

/-- The repetition interval of a publication elapses (R476). -/
def execGooseRepeat (p : Fin 16) (s : State) : Host.Outcome State Fault Refusal :=
  let e := 0x1540 + p.val
  if s.pubRuns p && (vget s.net.pubs p ⟨false, [], 0⟩).started then
    let s := s.put e 0x22 (if s.reg e 0x22 = 0xFFFFFFFF then 1 else s.reg e 0x22 + 1)
    .next ((s.modPub p fun g => { g with interval := min (2 * g.interval) (s.cfgN e 0x0C) }).pubSend p)
  else .next s

/-- A write of FW_WORD: a changed word must be a source of the publication (R477, R485). -/
def execFwWordWrite (req : Requester) (p : Fin 16) (data : Bytes) (s : State) : Host.Outcome State Fault Refusal :=
  let e := 0x1540 + p.val
  let ms := State.gooseMembers (s.cfgB e 0x09)
  let old := s.regB e 0x20
  let bad := (List.range 16).any fun k =>
    decide (slice data (4 * k) 4 ≠ slice old (4 * k) 4) && !(ms.any fun m => decide (m.1 = 0xF000 + k))
  if s.present req ∧ mayWrite s req engineers ∧ (data.length ≠ 64 ∨ windowless req .domain) then .next (s.answer req e 0x20 0x0301)
  else .next (guarded req e 0x20 engineers true true (if bad then 0x0CF1 else 0) (fun s => s.putB e 0x20 data) s)

/-- Every LIFE_CHECK a supervision frame leaves on both LANs, TLV type 20 (R469). -/
def execPrpSupervisionTx (s : State) : Host.Outcome State Fault Refusal :=
  .next (s.sendBoth 0x88FB 0xFFFF 20 [0x01154E000100 + s.reg 0x1503 0x02] (s.regB 0x1500 0x01))

/-- A supervision frame marks its source as heard on its port (R469). -/
def execPrpSupervisionRx (h : EthHeader) (s : State) : Host.Outcome State Fault Refusal :=
  let r := s.screen h
  if !r.1 then .next r.2
  else
    let n := r.2.nodeFor h.src
    .next (n.2.putNode { n.1 with heard := s.now, supA := n.1.supA || decide (h.port = 0), supB := n.1.supB || decide (h.port = 1) })

/-- A port receives nothing for LAN_TIMEOUT while the other receives (R469). -/
def execLanSilent (p : Fin 2) (s : State) : Host.Outcome State Fault Refusal :=
  let e := 0x1501 + p.val
  if s.reg e 0x21 = 1 then .next s else .next ((s.put e 0x21 1).event 0x0F11 [p.val, 1])

/-- A window entry is forgotten (R468). -/
def execPrpEntryForget (mac seq : Nat) (s : State) : Host.Outcome State Fault Refusal :=
  .next (s.setNodes (s.net.nodes.map fun n =>
    if n.mac = mac then { n with window := n.window.filter fun e => decide (e.1 ≠ seq) } else n))

/-- A source leaves the node table (R468). -/
def execPrpNodeForget (mac : Nat) (s : State) : Host.Outcome State Fault Refusal :=
  .next (s.setNodes (s.net.nodes.filter fun n => decide (n.mac ≠ mac)))

/-- An ARP request for IP_ADDR is answered (R462). -/
def execArpRequest (h : EthHeader) (ip senderIp : Nat) (s : State) : Host.Outcome State Fault Refusal :=
  let r := s.receive h
  if r.1 ∧ s.regN 0x1500 0x02 = ip then
    .next (r.2.sendBoth 0x0806 (s.regN 0x1500 0x05) 2 [ip, senderIp, h.src] (s.regB 0x1500 0x01))
  else .next r.2

/-- An ICMP echo request to IP_ADDR is answered (R462). -/
def execIcmpEcho (h : EthHeader) (dstIp srcIp : Nat) (data : Bytes) (s : State) : Host.Outcome State Fault Refusal :=
  let r := s.receive h
  if r.1 ∧ s.regN 0x1500 0x02 = dstIp then
    .next (r.2.sendBoth 0x0800 (s.regN 0x1500 0x05) 0 [dstIp, srcIp, h.src] data)
  else .next r.2

/-- A frame is discarded and counted (R460, R462, R464, R466). -/
def execEthFrameDiscard (h : EthHeader) (why : DiscardReason) (s : State) : Host.Outcome State Fault Refusal :=
  let r := s.screen h
  if !r.1 then .next r.2
  else
    match why with
    | .unsupported => .next (r.2.count 0x1500 0x20)
    | .poolFull k => .next (r.2.count (0x1501 + h.port.val) (0x22 + k.val))
    | .pause | .screened => .next r.2

end Sys2Proof.Machine
end

