-- ==== Sys2Proof/Machine/Packets.lean ====
section
/-! DEFINITION. XDP packets and the answers to requests (R499, R500, R503, R504, R521): what every unit that answers a request
later than it took it needs. -/

namespace Sys2Proof.Machine

namespace State

/-! ## Packets (R499, R500) -/

def session (s : State) (n : Nat) : Session := vget s.sessions n Session.closed
def modSession (s : State) (n : Nat) (f : Session → Session) : State := { s with sessions := vmod s.sessions n f }

/-- The 16-byte header. -/
def xdpHeader (type session psn reqId length : Nat) : Bytes :=
  [0x58#8, 0x44#8, 0x01#8] ++ toBe 1 type ++ toBe 2 session ++ toBe 4 psn ++ toBe 2 reqId ++ toBe 2 length ++ [0#8, 0#8]

/-- A datagram: header, payload, and for TYPE 0x04 and above the MAC under the session key. -/
def xdpDatagram (key : Bytes) (type session psn reqId : Nat) (payload : Bytes) : Bytes :=
  let m := xdpHeader type session psn reqId payload.length ++ payload
  if type < 4 then m else m ++ slice (Config.hmac key m) 0 16

/-- The device sends a packet of a session; its PSN advances. -/
def sendXdp (s : State) (n type reqId : Nat) (payload : Bytes) : State :=
  let x := s.session n
  (s.send (.xdp (n + 1) (xdpDatagram x.key type (n + 1) x.psnOut reqId payload))).modSession n fun x =>
    { x with psnOut := x.psnOut + 1 }

/-! ## Answers (R503, R504, R521) -/

/-- What answers a request. -/
structure Reply where
  abort : Nat
  type : Nat
  id : Nat            -- SNAP_ID or SUBSCRIPTION
  total : Nat
  offset : Nat
  data : Bytes
deriving DecidableEq, Repr

/-- The RESPONSE payload, in the byte order of XDP or of a queue entry (R2, R3, R503). -/
def replyBytes (little : Bool) (i k : Nat) (r : Reply) : Bytes :=
  let f (w n : Nat) : Bytes := if little then toLe w n else toBe w n
  f 2 r.abort ++ f 2 i ++ f 1 k ++ f 1 r.type ++ f 2 r.id ++ f 4 r.total ++ f 4 r.offset ++ f 2 r.data.length ++ [0#8, 0#8] ++ r.data

/-- A refusal. -/
def refusal (abort type offset : Nat) : Reply := ⟨abort, type, 0, 0, offset, []⟩

/-- The record of a requester: its session, or the cores' (R521). -/
def record (s : State) (req : Requester) : Session :=
  match req with
  | .session n => s.session n
  | _ => s.coreReq

def modRecord (s : State) (req : Requester) (f : Session → Session) : State :=
  match req with
  | .session n => s.modSession n f
  | _ => s.modCoreReq f

/-- A RESPONSE leaves and is kept with the 15 before it. -/
def respond (s : State) (n reqId : Nat) (payload : Bytes) : State :=
  (s.sendXdp n 0x30 reqId payload).modSession n fun x => { x with kept := (⟨reqId, payload⟩ :: x.kept).take 16 }

/-- A RESPONSE goes to the slot of Q1 reserved for it. -/
def respondQueue (s : State) (reqId i k : Nat) (r : Reply) : State :=
  s.ringAppend 1 ⟨0, [], toLe 2 reqId ++ [0#8, 0#8] ++ replyBytes true i k r, s.now⟩

/-- The answer to a request that was not answered when it was taken (R390, R503): the RESPONSE of the request that waits for
it. Where none waits, its requester gave it as a command of its own, or has gone (R502). -/
def answerLate (s : State) (req : Requester) (i k code : Nat) : State :=
  match (s.record req).waiting.find? fun w => decide (w.index = i ∧ w.sub = k) with
  | some w =>
    let s := s.modRecord req fun x =>
      { x with waiting := x.waiting.filter (fun y => decide (y ≠ w)), outstanding := x.outstanding - 1 }
    let r : Reply := ⟨code, w.type, 0, if code = 0 then w.total else 0, w.offset, []⟩
    match req with
    | .session n => s.respond n w.reqId (replyBytes false i k r)
    | _ => s.respondQueue w.reqId i k r
  | none => if s.present req then s.answer req i k code else s

end State

end Sys2Proof.Machine
end

