-- ==== Sys2Proof/Machine/Cloche.lean ====
section
/-! DEFINITION. The Cloche safety island: permission, the Safe Pulse Stop, safety inputs and outputs, the guard test,
safe frames and faults (R375 to R408). Its firmware update is in the file of live updates. -/

namespace Sys2Proof.Machine

/-! ## CRC-32C (R392): polynomial 0x1EDC6F41, reflected, initial and final all ones -/

def crc32cStep : Nat → BitVec 32 → BitVec 32
  | 0, c => c
  | k + 1, c => crc32cStep k (if c.getLsbD 0 then (c >>> 1) ^^^ 0x82F63B78#32 else c >>> 1)

def crc32c (b : Bytes) : BitVec 32 :=
  (b.foldl (fun c x => crc32cStep 8 (c ^^^ x.zeroExtend 32)) 0xFFFFFFFF#32) ^^^ 0xFFFFFFFF#32

/-- Steps from one SEQ to a later one, in the order from 1 to 0xFFFFFFFF and back to 1 (R392). -/
def seqSteps (a b : Nat) : Nat := (b + 4294967295 - a) % 4294967295

namespace State

def modCloche (s : State) (g : Cloche → Cloche) : State := { s with cloche := g s.cloche }
def sin (s : State) (n : Nat) : SafetyIn := vget s.cloche.ins n SafetyIn.reset
def sout (s : State) (k : Nat) : SafetyOut := vget s.cloche.outs k SafetyOut.reset
def srx (s : State) (c : Nat) : SafeRx := vget s.cloche.rx c SafeRx.reset
def modIn (s : State) (n : Nat) (g : SafetyIn → SafetyIn) : State := s.modCloche fun c => { c with ins := vmod c.ins n g }
def modSo (s : State) (k : Nat) (g : SafetyOut → SafetyOut) : State :=
  s.modCloche fun c => { c with outs := vmod c.outs k g }
def modRx (s : State) (n : Nat) (g : SafeRx → SafeRx) : State := s.modCloche fun c => { c with rx := vmod c.rx n g }

/-- FUNCTION of a safety output: 0 UNUSED, 1 PERMIT, 2 BREAKER, 3 TEST_SOURCE. -/
def soFunction (s : State) (k : Nat) : Nat := s.regN (0x8020 + k) 0x01

/-! ## Demands (R380) -/

/-- An input is evaluated: it has no test source, or its source is driven by its function (R383). -/
def siEvaluable (s : State) (n : Nat) : Bool :=
  let tp := s.regN (0x8010 + n) 0x03
  decide (tp = 0xFF) || (decide (s.soFunction tp = 3) && decide (s.ctl.mode ≠ .dormant))

/-- An input stands in demand (R383, R384). -/
def siDemand (s : State) (n : Nat) : Bool :=
  decide (s.reg (0x8010 + n) 0x01 = 1) && (s.sin n).judged && ((s.sin n).isOpen || (s.sin n).testFailed)

/-- STATE of an input (R406). -/
def siState (s : State) (n : Nat) : Nat :=
  if !(s.sin n).judged then 3 else if (s.sin n).testFailed then 2 else (s.sin n).isOpen.toNat

/-- A receive connection is in use. -/
def rxEnabled (s : State) (c : Nat) : Bool := decide (s.reg (0x8040 + c) 0x01 = 1)

/-- DEMANDS. -/
def demands (s : State) : Nat :=
  ofBits ((List.range 8).map fun n => s.siDemand n) +
    256 * ofBits [(List.range 8).any fun c => s.rxEnabled c && (s.srx c).demand,
      (List.range 8).any fun c => s.rxEnabled c && ((s.srx c).fault || (s.srx c).mismatch.isSome),
      s.cloche.penFault || (List.range 8).any fun k => (s.sout k).fault,
      s.cloche.clockFault, s.cloche.overrunDemand, s.cloche.fault]

/-- The causes whose sources are gone are no longer active (R39, R390, R394); OVERRUN's belongs to the loops. -/
def refreshDemands (s : State) : State :=
  let d := s.demands
  let s := if d % 512 = 0 then s.dropCause .safetyInput else s
  let s := if bitOf d 9 then s else s.dropCause .safeFrame
  let s := if bitOf d 10 then s else s.dropCause .readback
  if bitOf d 11 then s else s.dropCause .clock

/-! ## Permission (R378, R379) -/

/-- Permission is withdrawn: gates closed, PEN released, INHIBIT on every enabled gate lane. -/
def withdraw (s : State) : State := (s.modCtl fun c => { c with permission := false }).inhibitLanes

/-- The mode controller asks for permission; every condition of R378 must hold. -/
def requestPermission (s : State) : State :=
  if decide (s.ctl.mode = .energize ∨ s.ctl.mode = .form ∨ s.ctl.mode = .ride) && decide (s.demands = 0) &&
      decide (s.ctl.guard = .satisfied) && decide (s.cloche.state = .running ∨ s.cloche.state = .updatePause) then
    (s.modCtl fun c => { c with permission := true }).upliftLanes
  else s

/-- PEN is driven active (R382, R389). -/
def penActive (s : State) : Bool := s.ctl.permission && !s.cloche.penFault

/-- The HALT cause a demand bit sets (R380). -/
def demandCause (bit : Nat) : Option HaltCause :=
  if bit ≤ 8 then some .safetyInput
  else match bit with
    | 9 => some .safeFrame
    | 10 => some .readback
    | 11 => some .clock
    | _ => none

/-- A Safe Pulse Stop from a source, whose demand already stands (R379, R380). -/
def sps (s : State) (bit : Nat) : State :=
  let d := s.demands
  let s := s.withdraw.flag 0x8000 0x04 0
  let s := s.count 0x8000 0x05
  let s := s.putB 0x8000 0x06 (toLe 8 s.now.toNat ++ toLe 2 d ++ List.replicate 6 0#8)
  let s := s.event 0x0C10 [d, bit]
  match demandCause bit with
  | some c => s.raiseCause c
  | none => s

/-! ## The guard test (R26, R386) -/

/-- One sample of the guard input moves GUARD_TEST by at most one step. -/
def guardSample (s : State) : State :=
  let n := s.regN 0x8000 0x08
  let i := s.sin n
  if s.reg (0x8010 + n) 0x01 = 1 ∧ i.judged then
    match s.ctl.guard with
    | .pendingOpen => if i.isOpen then s.modCtl fun c => { c with guard := .pendingClose } else s
    | .pendingClose => if i.isOpen then s else s.modCtl fun c => { c with guard := .satisfied }
    | .satisfied => s
  else s

/-- GUARD_TEST returns to PENDING_OPEN. -/
def guardReset (s : State) : State := s.modCtl fun c => { c with guard := .pendingOpen }

/-! ## Safety inputs (R383 to R385) -/

/-- A change of one input; a demand that begins is counted and stops the pulses. -/
def changeIn (s : State) (n : Nat) (g : SafetyIn → SafetyIn) : State :=
  let before := s.siDemand n
  let s := s.modIn n g
  if s.siDemand n && !before then (s.count (0x8010 + n) 0x21).sps n else s.refreshDemands

/-- Inputs that are no longer evaluated read STATE 3 and leave their demand (R383). -/
def refreshInputs (s : State) : State :=
  (List.range 8).foldl (fun s n =>
    if (s.sin n).judged && !s.siEvaluable n then
      (s.modIn n fun i => { i with judged := false, inWindow := false, deferred := false }).refreshDemands
    else s) s

/-- The enabled inputs a test source serves. -/
def sourceInputs (s : State) (k : Nat) : List Nat :=
  (List.range 8).filter fun n => decide (s.reg (0x8010 + n) 0x01 = 1 ∧ s.regN (0x8010 + n) 0x03 = k)

/-! ## Safety outputs and PEN (R387 to R390) -/

/-- The level an output's function commands in HALT; none where the pin is high-impedance (R387). -/
def soHaltLevel (s : State) (k : Nat) : Option Bool :=
  match s.soFunction k with
  | 0 => none
  | 1 => some false
  | 2 => some (decide (s.reg (0x8020 + k) 0x02 = 1))
  | _ => some true

/-- The level an output's function commands now; none where the pin is high-impedance. A fault forces it off. -/
def soCommanded (s : State) (k : Nat) : Option Bool :=
  if s.ctl.mode = .dormant ∨ s.soFunction k = 0 then none
  else if (s.sout k).fault then
    (match (s.sout k).clearTest with
     | some _ => s.soHaltLevel k
     | none => some false)
  else if s.ctl.mode = .halt then s.soHaltLevel k
  else match s.soFunction k with
    | 1 => some s.ctl.permission
    | 2 => some (s.sout k).breaker
    | _ => some true

/-- The level an output drives: its commanded level, low in an off-pulse. -/
def soLevel (s : State) (k : Nat) : Option Bool :=
  (s.soCommanded k).map fun v => v && !(s.sout k).pulse

/-- STATE of an output: commanded, SOB, fault (R406). -/
def soState (s : State) (k : Nat) : Nat :=
  ofBits [(s.soCommanded k).getD false, (s.sout k).sobStuck.getD ((s.soLevel k).getD false), (s.sout k).fault]

/-- PEN_STATE: active, pad high, fault (R404). -/
def penState (s : State) : Nat :=
  ofBits [s.penActive, s.cloche.penStuck.getD s.penActive, s.cloche.penFault]

/-- A read-back failure: output 8 is PEN; reason 1 off-pulse, 2 static (R389). -/
def soFail (s : State) (k reason : Nat) (reading : Bool) : State :=
  let s := if k = 8 then s.modCloche fun c => { c with penFault := true, penStuck := some reading }
    else s.modSo k fun o => { o with fault := true, pulse := false, wait := false, sobStuck := some reading }
  let s := ((s.count 0x8000 0x0D).flag 0x8000 0x04 2).event 0x0C11 [k, reason]
  s.sps 10

/-- An output may start a test off-pulse now (R388, R399). -/
def soTestable (s : State) (k : Nat) : Bool :=
  decide (s.soCommanded k = some true) && !(s.sout k).fault && !(s.sout k).pulse && (s.sout k).clearTest.isNone &&
    decide (s.cloche.state ≠ .updatePause)

/-- A BREAKER command pulse of R210 is in progress on an output. -/
def breakerPulse (s : State) (k : Nat) : Bool := s.gf.pulse.any fun p => decide (p.1 = k)

/-- A breaker command on an output, or its end; an output of another function gives none (R387). -/
def soCommand (s : State) (k : Nat) (on : Bool) : State :=
  if 8 ≤ k then s
  else if s.soFunction k = 2 then s.modSo k fun o => { o with breaker := on }
  else if on then s.event 0x0C11 [k, 3]
  else s.modSo k fun o => { o with breaker := false, wait := false }

/-- A test that waited for a BREAKER pulse starts at its end, or is dropped (R388). -/
def soWaitEnd (s : State) (k : Nat) : State :=
  if (s.sout k).wait then
    let s := s.modSo k fun o => { o with wait := false }
    if s.soTestable k then s.modSo k fun o => { o with pulse := true } else s
  else s

/-! ## Warm resets and Cloche faults (R396, R602) -/

/-- The device is a member of an array. -/
def inArray (s : State) : Bool := decide (s.reg 0x1700 0x21 ≠ 0)

/-- A warm reset is requested by an internal source: its grace begins, or the source joins the reset in progress. -/
def requestWarm (s : State) (bit : Nat) : State :=
  if s.rst.reach ≠ 0 then s.modRst fun r => { r with sources := withBit r.sources bit true }
  else
    let first := s.rst.grace.isEmpty
    let s := s.modRst fun r => { r with grace := if r.grace.contains bit then r.grace else r.grace ++ [bit] }
    if first then
      let s := s.withdraw
      if s.inArray && decide (s.reg 0x1700 0x03 = 1) then s.send (.runner 0xFF 0x50 [s.reg 0x1700 0x20]) else s
    else s

/-- A Cloche fault: 1 SRAM, 2 parity, 3 watchdog, 4 coded checks, 5 start-up test (R396). -/
def clocheFault (s : State) (kind : Nat) : State :=
  if s.cloche.fault then s
  else
    let s := s.modCloche fun c => { c with fault := true, state := .fault }
    if s.ctl.bootComplete then ((s.sps 13).event 0x0C14 [kind]).requestWarm 5
    else ((s.modCtl fun c => { c with bootStopped := true }).event 0x0C14 [kind]).send (.pin "ALARM_N" 0)

/-- A coded-check mismatch an engine reports (R395). -/
def chkReport (s : State) (e : Nat) : State :=
  let l := (e, s.now) :: s.cloche.mismatchTimes.filter fun x => decide (sdiff s.now x.2 < (sec 1 : Nat))
  let s := s.modCloche fun c => { c with mismatchTimes := l }
  if s.regN 0x8000 0x09 < (l.filter fun x => decide (x.1 = e)).length then s.clocheFault 4 else s

/-- An engine's second consecutive overrun with OVERRUN_ACTION 2 (R395). -/
def overrunStop (s : State) : State :=
  if s.cloche.overrunDemand then s
  else (s.modCloche fun c => { c with overrunDemand := true }).sps 12

/-- The OVERRUN cause is gone: DEMANDS bit 12 goes with it (R380). -/
def overrunGone (s : State) : State := (s.modCloche fun c => { c with overrunDemand := false }).dropCause .overrun

/-! ## Safe frames (R391 to R394) -/

/-- SIGNALS as sent. -/
def safeSignals (s : State) : Nat :=
  ofBits (((List.range 8).map fun n => !s.siDemand n) ++ [s.ctl.permission, decide (s.ctl.mode ≠ .halt)])

/-- The PDU of a transmit connection with SEQ q. -/
def safePdu (s : State) (c q : Nat) : Bytes :=
  let t := s.nowTime
  let b := toBe 2 (s.reg (0x8030 + c) 0x02) ++ [0x01#8, 0x00#8] ++ toBe 4 q ++ toBe 6 (t % p2 48) ++ toBe 4 (t / p2 48) ++
    toBe 2 s.safeSignals ++ List.replicate 4 0#8
  b ++ toBe 4 (crc32c b).toNat

/-- STATE of a receive connection: 0 off, 1 waiting, 2 good, 3 fault (R407). -/
def rxState (s : State) (c : Nat) : Nat :=
  if !s.rxEnabled c then 0
  else if (s.srx c).fault || (s.srx c).mismatch.isSome then 3
  else if (s.srx c).good then 2 else 1

/-- A frame fault of a connection: 1 mismatch, 2 watchdog (R394). -/
def rxFault (s : State) (c reason q : Nat) : State :=
  ((s.flag 0x8000 0x04 3).event 0x0C13 [c, reason, q]).sps 9

/-- A SEQ may follow the last matched one. -/
def rxFollows (s : State) (c q : Nat) : Bool :=
  match (s.srx c).lastSeq with
  | none => true
  | some l => decide (1 ≤ seqSteps l q ∧ seqSteps l q ≤ 16)

/-- Two identical copies: a matched pair. -/
def rxMatched (s : State) (c q : Nat) (pdu : Bytes) : State :=
  let e := 0x8040 + c
  let signals := beNat (slice pdu 18 2)
  let mask := s.regN e 0x05
  let demand := decide (signals &&& mask ≠ mask)
  let was := (s.srx c).demand
  let s := s.modRx c fun r => { r with lastSeq := some q, fault := false, mismatch := none, good := true, demand := demand }
  let gone := (List.range 2).filter fun l =>
    match vget (s.srx c).held l none with
    | some h => !s.rxFollows c h.1
    | none => false
  let single := (gone.filter fun l => match vget (s.srx c).held l none with | some h => decide (h.1 ≠ q) | none => false).length
  let s := s.modRx c fun r => { r with held := gone.foldl (fun v l => vmod v l fun _ => none) r.held }
  let s := ((s.put e 0x21 signals).count e 0x22).countBy 32 e 0x23 single
  if demand && !was then (s.event 0x0C13 [c, 3, q]).sps 8 else s.refreshDemands

/-- A copy waits for its partner; one it replaces was single. -/
def rxHold (s : State) (c lan q : Nat) (pdu : Bytes) : State :=
  let single := match vget (s.srx c).held lan none with | some h => decide (h.1 ≠ q) | none => false
  let s := s.modRx c fun r => { r with held := vmod r.held lan fun _ => some (q, pdu) }
  if single then s.count (0x8040 + c) 0x23 else s

/-- A copy for connection c on a LAN (R393). -/
def rxCopy (s : State) (c lan : Nat) (pdu : Bytes) : State :=
  let e := 0x8040 + c
  let q := beNat (slice pdu 4 4)
  if beNat (slice pdu 24 4) ≠ (crc32c (slice pdu 0 24)).toNat then s.count e 0x25
  else if !s.rxFollows c q then s.count e 0x24
  else
    match vget (s.srx c).held (1 - lan) none with
    | some h =>
      if h.1 = q then
        let s := s.modRx c fun r => { r with held := vmod r.held (1 - lan) fun _ => none }
        if h.2 = pdu then s.rxMatched c q pdu
        else ((s.modRx c fun r => { r with mismatch := some s.now, good := false }).count e 0x26).rxFault c 1 q
      else s.rxHold c lan q pdu
    | none => s.rxHold c lan q pdu

/-! ## Configuration (R385, R386, R400) -/

/-- The inconsistencies of the configuration in force: 8 the guard input, n the timing of input n. -/
def clocheBad (s : State) : List Nat :=
  (if s.reg (0x8010 + s.regN 0x8000 0x08) 0x01 = 1 then [] else [8]) ++
  (List.range 8).filter fun n =>
    let tp := s.regN (0x8010 + n) 0x03
    let users := s.sourceInputs tp
    let w := if users = [] then s.regN (0x8010 + n) 0x04
      else users.foldl (fun m u => max m (s.regN (0x8010 + u) 0x04)) 0
    decide (tp ≠ 0xFF ∧ 9850 < s.regN (0x8010 + n) 0x02 + w + 2000)

/-- A configuration sub-index of the Cloche. -/
def clocheConfig (i k : Nat) : Bool :=
  decide ((i = 0x8000 ∧ 0x08 ≤ k ∧ k ≤ 0x0A) ∨ (0x8010 ≤ i ∧ i ≤ 0x8017 ∧ 1 ≤ k ∧ k ≤ 5) ∨
    (0x8020 ≤ i ∧ i ≤ 0x8027 ∧ 1 ≤ k ∧ k ≤ 5) ∨ (0x8030 ≤ i ∧ i ≤ 0x8033 ∧ 1 ≤ k ∧ k ≤ 5) ∨
    (0x8040 ≤ i ∧ i ≤ 0x8047 ∧ 1 ≤ k ∧ k ≤ 5))

/-- What a configuration write brings about beside the value. -/
def clocheApply (s : State) (i k : Nat) (v : DVal) : State :=
  let before := (List.range 8).filter fun n => s.siDemand n
  let s := s.putV i k v
  let s := if 0x8010 ≤ i ∧ i ≤ 0x8017 ∧ (k = 1 ∨ k = 3) then
      s.modIn (i - 0x8010) fun x =>
        { x with judged := x.judged && (decide (k = 1) || decide (v = .num 0xFF))
                 isOpen := x.isOpen || x.deferred, inWindow := false, deferred := false } else s
  let s := if 0x8020 ≤ i ∧ i ≤ 0x8027 ∧ k = 1 then s.modSo (i - 0x8020) fun o => { o with pulse := false, wait := false }
    else s
  let s := if 0x8040 ≤ i ∧ i ≤ 0x8047 ∧ k = 1 then s.modRx (i - 0x8040) fun _ => SafeRx.reset else s
  let s := s.refreshInputs
  let s := (List.range 8).foldl (fun s n =>
    if s.siDemand n && !before.contains n then (s.count (0x8010 + n) 0x21).sps n else s) s
  s.refreshDemands

end State

/-- Writers of the Cloche's entries: SAFETY sessions alone (R400). -/
def safetyOnly : Writers := ⟨[.safety], false⟩

/-! ## Commands -/

/-- The filtered state of a safety input changes (R383, R385, R386). -/
def execSiStateChange (n : Fin 8) (isOpen : Bool) (s : State) : Host.Outcome State Fault Refusal :=
  if !s.siEvaluable n then .next s
  else
    let s := s.guardSample
    if (s.sin n).inWindow && isOpen then .next (s.modIn n fun i => { i with deferred := true })
    else .next (s.changeIn n fun i => { i with judged := true, isOpen := isOpen }).guardSample

/-- TP_INTERVAL elapses: the test source goes low and a window opens for its closed inputs (R384). -/
def execSiTestPulse (k : Fin 8) (s : State) : Host.Outcome State Fault Refusal :=
  if s.soFunction k = 3 ∧ s.soTestable k ∧ s.sourceInputs k ≠ [] then
    let s := s.modSo k fun o => { o with pulse := true }
    .next ((s.sourceInputs k).foldl (fun s n =>
      if (s.sin n).judged && !(s.sin n).isOpen then s.modIn n fun i => { i with inWindow := true, deferred := false }
      else s) s)
  else .next s

/-- One input at the end of its test window. -/
def State.windowEnd (s : State) (n : Nat) (sawLow highNow : Bool) : State :=
  if !(s.sin n).inWindow then s
  else
    let ok := sawLow && highNow
    let opened := (s.sin n).deferred && !highNow
    let s := if ok then s else ((s.count (0x8010 + n) 0x22).flag 0x8000 0x04 1).event 0x0C12 [n]
    let s := if !ok && decide (s.regN 0x8000 0x08 = n) then s.guardReset else s
    (s.changeIn n fun i =>
      { i with testFailed := !ok, isOpen := i.isOpen || opened, inWindow := false, deferred := false }).guardSample

/-- The end of a source's test window judges each input that was tested: which read low inside it, and which read high
now (R384, R385). -/
def execSiTestWindowEnd (k : Fin 8) (sawLow highNow : BitVec 8) (s : State) : Host.Outcome State Fault Refusal :=
  .next ((s.sourceInputs k).foldl (fun s n => s.windowEnd n (sawLow.getLsbD n) (highNow.getLsbD n))
    (s.modSo k fun o => if s.soFunction k = 3 then { o with pulse := false } else o))

/-- TEST_INTERVAL elapses: an output that is commanded on is pulsed low, or waits for its BREAKER pulse (R388). -/
def execSoTestPulse (k : Fin 8) (s : State) : Host.Outcome State Fault Refusal :=
  if (s.soFunction k = 1 ∨ s.soFunction k = 2) ∧ s.reg (0x8020 + k) 0x03 = 1 ∧ s.soTestable k then
    if s.breakerPulse k then .next (s.modSo k fun o => { o with wait := true })
    else .next (s.modSo k fun o => { o with pulse := true })
  else .next s

/-- SOB is judged 100 us after an off-pulse started or ended: ok says that it took the level in time (R388). -/
def execSoPulseCheck (k : Fin 8) (atEnd ok : Bool) (s : State) : Host.Outcome State Fault Refusal :=
  if (s.sout k).fault || (s.sout k).clearTest.isSome then .next s
  else if !atEnd then
    if (s.sout k).pulse ∨ s.soFunction k = 3 then (if ok then .next s else .next (s.soFail k 1 true)) else .next s
  else if (s.sout k).pulse ∨ s.soFunction k = 3 then
    let s := s.modSo k fun o => { o with pulse := false }
    if s.soCommanded k = some true then
      if ok then .next (s.count (0x8020 + k) 0x21) else .next (s.soFail k 1 false)
    else .next s
  else .next s

/-- SOB has differed from the commanded level for 100 us (R389). -/
def execSoReadbackFail (k : Fin 8) (s : State) : Host.Outcome State Fault Refusal :=
  match s.soCommanded k with
  | none => .next s
  | some v => if (s.sout k).fault then .next s else .next (s.soFail k 2 (!v))

/-- The PEN pad has differed from PEN for 1 us (R389). -/
def execPenReadbackFail (s : State) : Host.Outcome State Fault Refusal :=
  if s.cloche.state = .boot ∨ s.cloche.penFault then .next s else .next (s.soFail 8 2 (!s.penActive))

/-- FAULT_CLEAR of an output in HALT starts its clear test; the write is answered when the test ends (R390). -/
def execSoFaultClear (req : Requester) (k : Fin 8) (s : State) : Host.Outcome State Fault Refusal :=
  let e := 0x8020 + k.val
  if !s.present req then .next s
  else if !mayWrite s req safetyOnly then .next (s.answer req e 0x22 0x0201)
  else if s.ctl.mode ≠ .halt then .next ((s.refuseMode req (Dict.key e 0x22) (modeCode s.ctl.mode)).answer req e 0x22 0x0401)
  else if (s.sout k).clearTest.isSome then .next (s.answer req e 0x22 0x0501)
  else
    let on := (s.soHaltLevel k).getD false
    .next (s.modSo k fun o => { o with clearTest := some (req, on), pulse := on })

/-- The clear test of an output ends (R390). -/
def execFaultClearTestDone (k : Fin 8) (pass : Bool) (s : State) : Host.Outcome State Fault Refusal :=
  match (s.sout k).clearTest with
  | none => .next s
  | some (req, pulsed) =>
    let e := 0x8020 + k.val
    let s := s.modSo k fun o => { o with clearTest := none, pulse := false }
    if pass then
      let s := if pulsed then s.count e 0x21 else s
      let s := (s.modSo k fun o => { o with fault := false, sobStuck := none }).refreshDemands
      .next (s.answerLate req e 0x22 0)
    else .next (s.answerLate req e 0x22 0x0C93)

/-- PEN_CLEAR: accepted when the pad reads low (R390). -/
def execPenClear (req : Requester) (padLow : Bool) (s : State) : Host.Outcome State Fault Refusal :=
  .next (guarded req 0x8000 0x0C safetyOnly true (decide (s.ctl.mode = .halt)) (if padLow then 0 else 0x0C93)
    (fun s => (s.modCloche fun c => { c with penFault := false, penStuck := none }).refreshDemands) s)

/-- The Cloche oscillator leaves 2 % of the crystal (R377, R380). -/
def execClockMonitorFault (s : State) : Host.Outcome State Fault Refusal :=
  if s.cloche.clockFault then .next s else .next ((s.modCloche fun c => { c with clockFault := true }).sps 11)

/-- The Cold frame watchdog sees the Cloche clock stopped (R377). -/
def execColdFrameClocheWdt (s : State) : Host.Outcome State Fault Refusal :=
  if s.cloche.clockFault then .next s else .next ((s.modCloche fun c => { c with clockFault := true }).sps 11)

/-- The oscillator is back (R380). -/
def execClockMonitorReturn (s : State) : Host.Outcome State Fault Refusal :=
  .next (s.modCloche fun c => { c with clockFault := false }).refreshDemands

/-- Every PERIOD a transmit connection sends its frame on both LANs, through Q10 (R391, R392, R518). -/
def execSafeFrameTx (c : Fin 4) (s : State) : Host.Outcome State Fault Refusal :=
  let e := 0x8030 + c.val
  if s.reg e 0x01 = 1 ∧ s.ctl.mode ≠ .dormant then
    let s := s.advance e 0x20
    let b := s.regB e 0x03 ++ s.safePdu c (s.regN e 0x20)
    let s := s.ringThrough 10 (State.frameEntries b.length 0 s.now b)
    .next (s.sendBoth (s.regN 0x8000 0x0A) (s.regN e 0x04) 0 [] b)
  else .next s

/-- A safe-frame copy arrives (R393, R399); the cores receive it through Q9 (R464, R518). -/
def execSafeFrameRx (h : EthHeader) (pdu : Bytes) (s : State) : Host.Outcome State Fault Refusal :=
  let r := s.screen h
  let s := if r.1 ∧ r.2.ctl.mode ≠ .dormant then r.2.postFrame 9 h.size h.port (r.2.rxStamp h) [] else r.2
  if !r.1 ∨ s.ctl.mode = .dormant ∨ s.cloche.state = .updatePause ∨ pdu.length ≠ 28 then .next s
  else
    .next ((List.range 8).foldl (fun s c =>
      if s.rxEnabled c && decide (s.regN (0x8040 + c) 0x02 = beNat (slice pdu 0 2) ∧ beNat (s.regB (0x8040 + c) 0x03) = h.src ∧
          slice pdu 2 1 = [0x01#8]) then
        s.rxCopy c h.port pdu
      else s) s)

/-- No matched pair for WATCHDOG (R394); a mismatch of the same connection at this instant is the one Safe Pulse Stop (R401). -/
def execSafeWatchdogExpiry (c : Fin 8) (s : State) : Host.Outcome State Fault Refusal :=
  if !s.rxEnabled c || decide (s.ctl.mode = .dormant) || decide (s.cloche.state = .updatePause) || (s.srx c).fault ||
      decide ((s.srx c).mismatch = some s.now) then .next s
  else
    .next ((s.modRx c fun r => { r with fault := true, good := false }).rxFault c 2 ((s.srx c).lastSeq.getD 0))

/-- An uncorrectable error, a parity error, an excess of coded checks or a failed start-up test of the Cloche (R396). -/
def execClocheFault (kind : Fin 6) (s : State) : Host.Outcome State Fault Refusal :=
  if kind = 0 then .next s else .next (s.clocheFault kind)

/-- The core watchdog of the Cloche expires (R377, R396). -/
def execClocheCoreWdt (s : State) : Host.Outcome State Fault Refusal := .next (s.clocheFault 3)

/-- A write of Cloche configuration (R400); FILTER moves in steps of 10 ns (R383). -/
def execClocheConfigWrite (req : Requester) (i k : Nat) (v : DVal) (s : State) : Host.Outcome State Fault Refusal :=
  let bad := (s.putV i k v).clocheBad
  let now := s.clocheBad
  let step := decide (0x8010 ≤ i ∧ i ≤ 0x8017 ∧ k = 2 ∧ numOf v % 10 ≠ 0) && (match Dict.find i k with
    | some r => typeOk r v
    | none => false)
  if !State.clocheConfig i k then
    .next (if s.present req then
      s.answer req i k (if !Dict.hasEntry i then 0x0101 else if (Dict.find i k).isNone then 0x0102 else 0x0202) else s)
  else if step ∧ s.present req ∧ mayWrite s req safetyOnly then .next (s.answer req i k 0x0302)
  else
    .next (guardedWrite req i k safetyOnly (dwh s.ctl.mode) (if bad.all fun b => now.contains b then 0 else 0x0CC0) v
      (fun s => s.clocheApply i k v) s)

end Sys2Proof.Machine
end

