-- ==== Sys2Proof/Machine/Shears.lean ====
section
/-! DEFINITION. The Shears: sources, attribution, reactions, escalation, release, self-tests and fault records (R343 to
R374), and the gate-link status cycle that feeds it (R313 to R315). -/

namespace Sys2Proof.Machine

/-- The numbers of the source kinds (R345). -/
def kQpHigh : Nat := 1
def kQpLow : Nat := 2
def kCmp : Nat := 3
def kDesat : Nat := 4
def kUv : Nat := 5
def kLink : Nat := 6
def kFlt : Nat := 7
def kEngine : Nat := 8

/-- The mV of a comparator's HYSTERESIS code (R74). -/
def cmpHystMv (code : Nat) : Nat := [0, 10, 20, 40].getD code 0

/-- A report the Shears decides: its source, its leg, the switch a DESAT names (true L), when its condition was seen,
the VALUE of its record, and whether the other switch of the leg reports in the same decision (R355). -/
structure Report where
  kind : Nat
  index : Nat
  leg : Option Nat
  direct : Option Bool
  seen : ST64
  value : Int
  both : Bool
deriving DecidableEq, Repr

/-- What one decision leads to: the switch it concerns, the attribution code, the class applied, the group used, the
escalation count and the actions taken. -/
structure Decision where
  switch : Option Bool
  attribution : Nat
  applied : Nat
  group : Nat
  count : Nat
  actions : Nat
deriving DecidableEq, Repr

namespace State

def leg (s : State) (n : Nat) : Leg := vget s.shears.legs n Leg.clear
def modLeg (s : State) (n : Nat) (g : Leg → Leg) : State := s.modShears fun v => { v with legs := vmod v.legs n g }
def sgroup (s : State) (g : Nat) : ShearsGroup := vget s.shears.groups g ShearsGroup.clear
def modSgroup (s : State) (g : Nat) (h : ShearsGroup → ShearsGroup) : State :=
  s.modShears fun v => { v with groups := vmod v.groups g h }

/-! ## Legs (R343, R344) -/

/-- The leg of a remote pair. -/
def remoteLeg (l p : Nat) : Nat := 24 + 24 * l + p

/-- Lane and pair of a remote leg. -/
def legLane (n : Nat) : Nat := (n - 24) / 24
def legPair (n : Nat) : Nat := (n - 24) % 24

/-- GROUP_MASK of a leg. -/
def legMask (s : State) (n : Nat) : Nat := if n < 24 then s.pcfg (0x5020 + n) 0x09 else s.cfgN (0x7100 + n) 0x03

/-- ESC_GROUP of a leg. -/
def legEsc (s : State) (n : Nat) : Nat := s.cfgN (0x7100 + n) 0x01

/-- The leg's pair is enabled. -/
def legUsed (s : State) (n : Nat) : Bool :=
  if n < 24 then decide (s.pcfg (0x5020 + n) 0x01 = 1) else decide (s.cfg (remoteEntry (legLane n) (legPair n)) 0x01 = 1)

/-- A switch of a leg is commanded on now. -/
def legOn (s : State) (n : Nat) (low : Bool) : Bool :=
  if n < 24 then (s.pair n).patternOn && switchNow (if low then (s.pair n).l else (s.pair n).h) s.now
  else
    let q := s.remote (legLane n) (legPair n)
    s.cmdLevel (if low then q.lCmds else q.hCmds)

/-- T_on of a switch: its latest turn-on not later than now (R347). -/
def legOnAt (s : State) (n : Nat) (low : Bool) : Option ST64 :=
  if n < 24 then
    let w := if low then (s.pair n).l else (s.pair n).h
    match w.onAt with
    | some t => if sdiff t s.now ≤ 0 then some t else w.last.map (·.1)
    | none => none
  else
    let q := s.remote (legLane n) (legPair n)
    s.cmdOnAt (if low then q.lCmds else q.hCmds)

/-- A switch's blanking window contains now (R347). -/
def inBlank (s : State) (n : Nat) (low : Bool) : Bool :=
  match s.legOnAt n low with
  | some t => decide (sdiff s.now t < (ns (s.cfgN (0x7100 + n) 0x02) : Nat))
  | none => false

/-- A group in the leg's GROUP_MASK is tripped. -/
def legGroupHeld (s : State) (n : Nat) : Bool :=
  (List.range 16).any fun g => (s.sgroup g).tripped && bitOf (s.legMask n) g

/-- STATE of a leg (R371). An ALL reaction shows as the block of a local leg. -/
def legState (s : State) (n : Nat) : Nat :=
  let g := s.leg n
  ofBits [g.hStopped, g.lStopped, g.hBlocked, g.lBlocked, g.legBlock || (s.shears.allActive && decide (n < 24)),
    s.legGroupHeld n, g.bypassSent]

/-! ## Sources (R345, R346) -/

/-- The configured class of a source. -/
def srcClass (s : State) (kind index : Nat) : Nat :=
  match kind with
  | 1 => s.cfgN (0x7000 + index) 0x01
  | 2 => s.cfgN (0x7000 + index) 0x04
  | 3 => s.cfgN (0x7030 + index) 0x01
  | 4 => s.cfgN (0x7050 + index / 256) 0x01
  | 5 => s.cfgN (0x7050 + index / 256) 0x02
  | 6 => s.cfgN (0x7050 + index / 256) 0x03
  | 7 => s.cfgN (0x7040 + index) 0x01
  | _ => 2

/-- The LEG a window or a comparator names. -/
def srcLeg (s : State) (kind index : Nat) : Option Nat :=
  let n := match kind with
    | 1 => s.cfgN (0x7000 + index) 0x02
    | 2 => s.cfgN (0x7000 + index) 0x05
    | _ => s.cfgN (0x7030 + index) 0x02
  if n < 216 then some n else none

/-- The group a source uses for class GROUP; 0xFF none. -/
def srcGroup (s : State) (kind index : Nat) (leg : Option Nat) : Nat :=
  match leg with
  | some n => s.legEsc n
  | none =>
    match kind with
    | 1 => s.cfgN (0x7000 + index) 0x03
    | 2 => s.cfgN (0x7000 + index) 0x06
    | 3 => s.cfgN (0x7030 + index) 0x03
    | 7 => s.cfgN (0x7040 + index) 0x02
    | 8 => s.cfgN (Bed.ctl index) 0x09
    | _ => 0xFF

/-- A comparator is under self-test (R362). -/
def cmpTested (s : State) (n : Nat) : Bool :=
  match s.shears.test with
  | some (.comparator k, _) => decide (k = n)
  | _ => false

/-- A source is active: its condition holds (R346). -/
def srcActive (s : State) (kind index : Nat) : Bool :=
  let l := index / 256
  let x := index % 256
  match kind with
  | 1 => bitOf (s.regN (0x2000 + index) 0x29) 0 && bitOf (s.cfgN (0x2000 + index) 0x0E) 0
  | 2 => bitOf (s.regN (0x2000 + index) 0x29) 1 && bitOf (s.cfgN (0x2000 + index) 0x0E) 1
  | 3 => decide (s.reg (0x20C0 + index) 0x20 = 1) && !s.cmpTested index
  | 4 => (match s.nodeOf l x with
    | some n => bitOf (s.node l n).desat (x - s.cfgN (nodeEntry l n) 0x01)
    | none => false)
  | 5 => (match s.nodeOf l x with
    | some n => bitOf (s.node l n).uv ((x - s.cfgN (nodeEntry l n) 0x01) / 2)
    | none => false)
  | 6 => (s.node l x).linkFault
  | 7 => s.fltActive.contains index
  | 8 => (vget s.engines index Engine.idle).slots.toList.any fun w => decide (w.state = .faulted)
  | _ => false

/-- Every source the device has: (kind, index). -/
def allSources : List (Nat × Nat) :=
  ((List.range 48).flatMap fun c => [(1, c), (2, c)]) ++ ((List.range 16).map fun c => (3, c)) ++
  ((List.range 8).flatMap fun l => (List.range 48).map fun c => (4, l * 256 + c)) ++
  ((List.range 8).flatMap fun l => (List.range 24).map fun p => (5, l * 256 + 2 * p)) ++
  ((List.range 8).flatMap fun l => (List.range 24).map fun n => (6, l * 256 + n)) ++
  ((List.range 8).map fun n => (7, n)) ++ ((List.range 16).map fun e => (8, e))

/-! ## Escalation (R354) -/

/-- AFFECTED reactions of a group within the last AFF_WINDOW: AFF_COUNT. -/
def affCount (s : State) (g : Nat) : Nat :=
  ((s.sgroup g).decisions.filter fun t => decide (sdiff s.now t ≤ (us (s.cfgN (0x7200 + g) 0x02) : Nat))).length

/-- The decision of now is counted. -/
def countAff (s : State) (g : Nat) : State :=
  s.modSgroup g fun x =>
    { x with decisions := s.now :: x.decisions.filter fun t => decide (sdiff s.now t ≤ (us (s.cfgN (0x7200 + g) 0x02) : Nat)) }

/-! ## Reactions (R350 to R352) -/

/-- The legs a group stops. -/
def groupLegs (s : State) (g : Nat) : List Nat := (List.range 216).filter fun n => bitOf (s.legMask n) g

/-- An AFFECTED reaction on a switch (R350); actions as R366 numbers them. -/
def reactAffected (s : State) (n : Nat) (low : Bool) (pulsed : Bool) : State × Nat :=
  let s := (s.modLeg n fun g =>
    if low then { g with lStopped := true, hBlocked := true, blockedAt := s.now }
    else { g with hStopped := true, lBlocked := true, blockedAt := s.now }).flag 0x7300 0x05 0
  if n < 24 then (s, 0x05)
  else
    let l := legLane n
    let p := legPair n
    let s := s.sendStop l (2 * p + low.toNat)
    if pulsed ∧ s.cfgN (remoteEntry l p) 0x06 < 6 then
      (s.modLeg n fun g => { g with bypassDue := some (later s.now (us (s.cfgN (laneEntry l) 0x04) : Nat)) }, 0x0E)
    else (s, 0x06)

/-- A group trips, with the actions taken; a source of a group already tripped joins its sources and stops nothing more (R351,
R359). -/
def tripGroup (s : State) (g : Nat) (src : Nat × Nat) : State × Nat :=
  if 16 ≤ g then (s, 0)
  else
    let was := (s.sgroup g).tripped
    let s := s.modSgroup g fun x =>
      { x with tripped := true, sources := if x.sources.contains src then x.sources else x.sources ++ [src] }
    if was then (s, 0x10)
    else
      let legs := s.groupLegs g
      let acts := 0x10 + (legs.any fun n => decide (n < 24) && s.legUsed n).toNat +
        2 * (legs.any fun n => decide (24 ≤ n) && s.legUsed n).toNat
      let s := ((s.count (0x7200 + g) 0x22).flag 0x7300 0x05 1).event 0x0B10 [g, (s.shears.recordSeq.toNat : Int)]
      let s := (s.groupPairs g).foldl (fun s p => if s.legUsed p then s.pairFault p (0x10 + g) else s) s
      ((legs.filter fun n => decide (24 ≤ n) && s.legUsed n).foldl (fun s n =>
        (s.sendStop (legLane n) (2 * legPair n)).sendStop (legLane n) (2 * legPair n + 1)) s, acts)

/-- An ALL reaction (R352). -/
def reactAll (s : State) : State × Nat :=
  let s := s.flag 0x7300 0x05 2
  if s.shears.allActive then (s, 0x21)
  else
    let s := (s.modShears fun v => { v with allActive := true }).event 0x0B11 [(s.shears.recordSeq.toNat : Int)]
    (s.raiseCause .shearsAll, 0x21)

/-- Both switches of a leg have reported (R355). -/
def blockLeg (s : State) (n : Nat) (low : Bool) : State × Nat :=
  let s := (s.modLeg n fun g =>
    { g with legBlock := true, hStopped := g.hStopped || !low, lStopped := g.lStopped || low }).flag 0x7300 0x05 3
  if n < 24 then (s, 0x41) else (s.sendStop (legLane n) (2 * legPair n + low.toNat), 0x42)

/-! ## Attribution and decision (R348, R349, R354 to R356) -/

/-- The switch of a leg a report of class AFFECTED is attributed to, with the attribution code; with both windows open
the latest turn-on governs. -/
def attributed (s : State) (r : Report) (n : Nat) : Option Bool × Nat :=
  match r.direct with
  | some low => (some low, 0)
  | none =>
    let h := r.kind ≠ kLink ∧ s.inBlank n false = true
    let l := r.kind ≠ kLink ∧ s.inBlank n true = true
    let later := match s.legOnAt n false, s.legOnAt n true with
      | some a, some b => decide (sdiff a b < 0)
      | _, _ => true
    if h ∧ l then (some later, 1)
    else if h then (some false, 1)
    else if l then (some true, 1)
    else match s.legOn n false, s.legOn n true with
      | true, false => (some false, 2)
      | false, true => (some true, 2)
      | _, _ => (none, 3)

/-- A leg of a node with a link fault and no switch on: both switches stopped and blocked, not counted (R349). -/
def stopBoth (s : State) (n : Nat) : State :=
  let s := (s.modLeg n fun g =>
    { g with hStopped := true, lStopped := true, hBlocked := true, lBlocked := true, blockedAt := s.now }).flag 0x7300 0x05 0
  (s.sendStop (legLane n) (2 * legPair n)).sendStop (legLane n) (2 * legPair n + 1)

/-- The group of a decision trips as a GROUP reaction. -/
def decideGroup (s : State) (r : Report) (sw : Option Bool) (attr acts g : Nat) : State × Decision :=
  let t := s.tripGroup g (r.kind, r.index)
  (t.1, ⟨sw, attr, 2, g, if g < 16 then t.1.affCount g else 0, acts ||| t.2⟩)

/-- A report of class AFFECTED on leg n. -/
def decideAffected (s : State) (r : Report) (n : Nat) : State × Decision :=
  let g := s.legEsc n
  let a := s.attributed r n
  match a.1 with
  | none =>
    if r.kind = kLink then
      let s := if (s.leg n).hStopped ∧ (s.leg n).lStopped then s else s.stopBoth n
      (s, ⟨none, 3, 1, g, s.affCount g, 0x06⟩)
    else (s.flag 0x7300 0x05 4).decideGroup r none 3 0 g
  | some low =>
    let x := s.leg n
    if (if low then x.lStopped else x.hStopped) then (s, ⟨some low, a.2, 0, g, s.affCount g, 0⟩)
    else if r.both || (if low then x.hStopped else x.lStopped) then
      let b := s.blockLeg n low
      b.1.decideGroup r (some low) a.2 b.2 g
    else
      let pulsed := !dwh s.ctl.mode
      let cnt := s.affCount g + 1
      if pulsed && decide (s.cfgN (0x7200 + g) 0x01 < cnt) then
        let t := s.reactAll
        (t.1, ⟨some low, a.2, 3, g, cnt, t.2⟩)
      else
        let s := if pulsed then s.countAff g else s
        let t := s.reactAffected n low pulsed
        (t.1, ⟨some low, a.2, 1, g, t.1.affCount g, t.2⟩)

/-- A report by its configured class. -/
def decideReport (s : State) (r : Report) : State × Decision :=
  let sw := r.direct
  let attr := if r.direct.isSome then 0 else 3
  match s.srcClass r.kind r.index, r.leg with
  | 0, _ => (s, ⟨sw, attr, 0, 0xFF, 0, 0⟩)
  | 1, some n => s.decideAffected r n
  | 3, _ =>
    let t := s.reactAll
    (t.1, ⟨sw, attr, 3, 0xFF, 0, t.2⟩)
  | _, leg => s.decideGroup r sw attr 0 (s.srcGroup r.kind r.index leg)

/-- The 64 bytes of a record (R366). -/
def shearsRecord (s : State) (r : Report) (cls : Nat) (d : Decision) : Bytes :=
  toLe 8 s.now.toNat ++ toLe 8 r.seen.toNat ++ toLe 1 r.kind ++ [0#8] ++ toLe 2 r.index ++ toLe 2 (r.leg.getD 0xFFFF) ++
  toLe 1 (match d.switch with | none => 0xFF | some low => low.toNat) ++ toLe 1 d.attribution ++ toLe 1 cls ++
  toLe 1 d.applied ++ toLe 1 d.group ++ toLe 1 (min d.count 255) ++ toLe 1 d.actions ++ [0#8] ++ toLe 2 r.value ++
  toLe 4 s.shears.recordSeq.toNat ++ List.replicate 28 0#8

/-- One report is decided now: counted, reacted to, recorded in Q24 and LAST_RECORD. -/
def report (s : State) (r : Report) : State :=
  let cls := s.srcClass r.kind r.index
  let s := s.modShears fun v => { v with recordSeq := nextSeq v.recordSeq }
  let s := if r.kind ≤ 2 then s.count (0x7000 + r.index) 0x20 else s
  let s := match r.leg with
    | some n => (s.count (0x7100 + n) 0x21).modLeg n fun g =>
        { g with reported := if g.reported.contains (r.kind, r.index) then g.reported else g.reported ++ [(r.kind, r.index)] }
    | none => s
  let d := s.decideReport r
  let b := d.1.shearsRecord r cls d.2
  let s := ((d.1.putB 0x7300 0x04 b).count 0x7300 0x03).ringPost 24 ⟨0, [], b, d.1.now⟩
  s.harvestShears d.2.applied s.now

/-- A report put into a list by leg, those without a leg last. -/
def insertReport (r : Report) : List Report → List Report
  | [] => [r]
  | q :: l => if r.leg.getD 216 < q.leg.getD 216 then r :: q :: l else q :: insertReport r l

/-- Reports of one instant are decided in ascending leg order (R354). -/
def reportAll (s : State) (l : List Report) : State :=
  (l.foldl (fun l r => insertReport r l) []).foldl (fun s r => s.report r) s

/-- The reports of a node's link fault, one for each of its legs (R314, R349). -/
def linkReports (s : State) (l n : Nat) : List Report :=
  (s.nodePairs l n).map fun p => ⟨kLink, l * 256 + n, some (remoteLeg l p), none, s.now, 0, false⟩

/-- Link faults begin at nodes of a lane, each with its cause, unless one is in force: pending DESAT reports of the nodes
are dropped (R365), and the Shears decides for their legs. -/
def nodeFaults (s : State) (l : Nat) (faults : List (Nat × Nat)) : State :=
  let new := faults.filter fun x => !(s.node l x.1).linkFault
  let s := new.foldl (fun s x => s.linkFaultOn l x.1 x.2) s
  let s := new.foldl (fun s x => (s.nodePairs l x.1).foldl (fun s p =>
    s.modLeg (remoteLeg l p) fun g => { g with hPending := none, lPending := none }) s) s
  s.reportAll (new.flatMap fun x => s.linkReports l x.1)

/-! ## Status frames (R313, R315, R348) -/

/-- The pending report of a switch. -/
def legPending (s : State) (n : Nat) (low : Bool) : Option ST64 := if low then (s.leg n).lPending else (s.leg n).hPending

/-- DESAT of a channel in a frame is acted on at once: new in this frame, and outside its switch's window. -/
def desatActs (s : State) (l ch : Nat) (was now : Bool) : Bool :=
  let n := remoteLeg l (ch / 2)
  let low := decide (ch % 2 = 1)
  now && !was && (s.legPending n low).isNone && !s.inBlank n low

/-- DESAT of a channel arrives inside its switch's window: it is held pending, and each such frame advances BLANKED. -/
def desatHold (s : State) (l ch : Nat) (was now : Bool) (seen : ST64) : State :=
  let n := remoteLeg l (ch / 2)
  let low := decide (ch % 2 = 1)
  if now && s.inBlank n low && (!was || (s.legPending n low).isSome) then
    (s.count 0x7300 0x06).modLeg n fun g =>
      if low then { g with lPending := some (g.lPending.getD seen) } else { g with hPending := some (g.hPending.getD seen) }
  else s

/-- A DESAT report of one channel. -/
def desatReport (l ch : Nat) (seen : ST64) (both : Bool) : Report :=
  ⟨kDesat, l * 256 + ch, some (remoteLeg l (ch / 2)), some (decide (ch % 2 = 1)), seen, 0, both⟩

/-- The DESAT bits of one pair in a frame: h and l tell each switch's bit before and now. Two that act are one decision
(R355). -/
def desatPair (s : State) (l ch : Nat) (h x : Bool × Bool) (seen : ST64) : State :=
  let actH := s.desatActs l ch h.1 h.2
  let actL := s.desatActs l (ch + 1) x.1 x.2
  let s := (s.desatHold l ch h.1 h.2 seen).desatHold l (ch + 1) x.1 x.2 seen
  let s := if actH then s.report (desatReport l ch seen actL) else s
  if actL then s.report (desatReport l (ch + 1) seen actH) else s

/-- UV of one pair in a frame. -/
def uvBit (s : State) (l ch : Nat) (was now : Bool) (seen : ST64) : State :=
  if now && !was then s.report ⟨kUv, l * 256 + ch, some (remoteLeg l (ch / 2)), none, seen, 0, false⟩ else s

/-- The departure of CYC number j of a lane, while it is kept. -/
def cycStart (s : State) (l j : Nat) : Option ST64 :=
  let g := s.lane l
  if j < g.cycles then g.cycs[g.cycles - 1 - j]? else none

/-- Twice a node's DELAY: how far its cycles lag the CYCs (R313). -/
def cycLag (s : State) (l n : Nat) : Int := ((2 * s.regN (nodeEntry l n) 0x20 : Nat) : Int)

/-- The cycle a frame of a node is attributed to by its arrival (R313). -/
def frameCycle (s : State) (l n : Nat) (arrival : ST64) : Option Nat :=
  let g := s.lane l
  ((List.range g.cycs.length).find? fun i => match g.cycs[i]? with
    | some t => decide (0 ≤ sdiff arrival (later t (s.cycLag l n)))
    | none => false).map fun i => g.cycles - 1 - i

/-- ACK_COUNT of a frame of cycle j against the commands whose time lies 1 us or more before that cycle's CYC; the second
of two consecutive cycles with a mismatch is a link fault of the node. -/
def ackCheck (s : State) (l n j : Nat) (start : ST64) (ack : Nat) : State :=
  let cyc : ST32 := BitVec.ofNat 32 start.toNat
  let past (t : ST32) : Bool := decide ((us 1 : Int) ≤ (cyc - t).toInt)
  let s := s.modNode l n fun g =>
    { g with sentOld := g.sentOld + (g.sent.filter past).length, sent := g.sent.filter fun t => !past t }
  let expected := (s.node l n).sentOld % 65536
  if expected = ack then s.modNode l n fun g => { g with ackMismatch := 0 }
  else
    let s := ((s.flag (nodeEntry l n) 0x2A 2).flag (laneEntry l) 0x2A 1).count (nodeEntry l n) 0x28
    let g := s.node l n
    let again := decide (g.ackMismatch ≠ 0 ∧ g.ackCycle = j)
    let run := if g.ackMismatch ≠ 0 ∧ g.ackCycle + 1 = j then g.ackMismatch + 1 else 1
    if again then s
    else
      let s := s.modNode l n fun g => { g with ackMismatch := run, ackCycle := j }
      if run = 2 then (s.event 0x0A13 [l, n, expected, ack]).nodeFaults l [(n, 3)] else s

/-! ## Release (R358 to R360) -/

/-- A leg loses its stops and blocks; a local leg that was held resumes at the next reload, a remote one gets RELEASE. -/
def freeLeg (s : State) (n : Nat) : State :=
  let g := s.leg n
  let held := g.hStopped || g.lStopped || g.hBlocked || g.lBlocked || g.legBlock
  let s := s.modLeg n fun g =>
    { Leg.clear with bypassSent := g.bypassSent, bypassDue := g.bypassDue, hPending := g.hPending, lPending := g.lPending }
  if n < 24 then
    if held || s.shears.allActive then s.modPair n fun q => { q with waitReload := true } else s
  else s.sendRelease (legLane n) (legPair n)

/-- A DESAT report is held pending on a switch of the leg, and the latest frame still carries its bit. -/
def pendingActive (s : State) (n : Nat) : Bool :=
  [false, true].any fun low => (s.legPending n low).isSome &&
    s.srcActive kDesat (legLane n * 256 + 2 * legPair n + low.toNat)

/-- Why a leg may not be released: 0, or 0x0C93. -/
def legHeldBack (s : State) (n : Nat) : Nat :=
  if ((s.leg n).reported.any fun x => s.srcActive x.1 x.2) || s.pendingActive n || s.legGroupHeld n then 0x0C93 else 0

/-- A group is tripped no more: the pairs lose the source. -/
def clearTrip (s : State) (g : Nat) : State :=
  let s := s.modSgroup g fun x => { x with tripped := false, sources := [] }
  (List.range 24).foldl (fun s p => s.pairSourceGone p (0x10 + g)) s

/-- The leg has a stop or a block of its own. -/
def legStopped (s : State) (n : Nat) : Bool :=
  let x := s.leg n
  x.hStopped || x.lStopped || x.hBlocked || x.lBlocked || x.legBlock

/-- A group's trip ends: a remote leg that nothing else stops gets RELEASE (R353, R359). -/
def endTrip (s : State) (g : Nat) : State :=
  if (s.sgroup g).tripped then
    let s := s.clearTrip g
    ((s.groupLegs g).filter fun n => decide (24 ≤ n) && s.legUsed n && !s.legStopped n && !s.legGroupHeld n).foldl
      (fun s n => s.sendRelease (legLane n) (legPair n)) s
  else s

/-- A group whose trip is in force stops the remote legs that a swap gives it (R351); local pairs follow their Furrow's
settings. -/
def swapShears (s : State) (old : Store) : State :=
  let tripped := (List.range 16).filter fun g => (s.sgroup g).tripped
  let held (bed : Store) (n : Nat) : Bool :=
    decide (Bed.num bed (remoteEntry (legLane n) (legPair n)) 0x01 = 1) &&
      tripped.any fun g => bitOf (Bed.nat bed (0x7100 + n) 0x03) g
  ((List.range 216).filter fun n => decide (24 ≤ n) && held s.active n && !held old n).foldl (fun s n =>
    (s.sendStop (legLane n) (2 * legPair n)).sendStop (legLane n) (2 * legPair n + 1)) s

/-- The result object of a self-test (R364, R374). -/
def testResult (s : State) (target result trip rel : Nat) : State :=
  let s := ((((s.advance 0x7311 0x01).put 0x7311 0x02 1).put 0x7311 0x03 target).put 0x7311 0x04 result).put 0x7311 0x05 trip
  let s := (s.put 0x7311 0x06 rel).putT 0x7311 0x07 s.now
  let s := s.modShears fun v => { v with test := none }
  let s := if result = 0 ∨ result = 5 then s else s.flag 0x7300 0x05 5
  s.event 0x0B13 [target, result]

/-- TARGET of a test. -/
def testTarget : SelfTest → Nat
  | .comparator n => n
  | .node l n c => 0x1000000 + l * 0x10000 + n * 0x100 + c

/-- A node's frame with TEST_DONE ends the test of that node. -/
def nodeTestDone (s : State) (l n : Nat) (pass : Bool) : State :=
  let s := s.modNode l n fun g => { g with underTest := false }
  match s.shears.test with
  | some (.node l' n' c, _) =>
    if l' = l ∧ n' = n then s.testResult (testTarget (.node l n c)) (if pass then 0 else 7) 0 0 else s
  | _ => s

/-- The bits of one status frame. -/
def frameBits (s : State) (l n : Nat) (b1 : Nat) (seen : ST64) : State :=
  let g := s.node l n
  let base := s.cfgN (nodeEntry l n) 0x01
  let cnt := s.cfgN (nodeEntry l n) 0x02
  let desat := if g.underTest then 0 else b1 / 16 % (1 <<< cnt)
  let uv := b1 / 4 % 4 % (1 <<< (cnt / 2))
  let s := s.modNode l n fun g => { g with desat := desat, uv := uv }
  let s := if desat ≠ 0 then s.flag (nodeEntry l n) 0x2A 0 else s
  let s := if uv ≠ 0 then s.flag (nodeEntry l n) 0x2A 1 else s
  let s := if bitOf b1 1 then s.nodeTestDone l n (bitOf b1 0) else s
  (List.range (cnt / 2)).foldl (fun s j =>
    let ch := base + 2 * j
    let s := s.desatPair l ch (bitOf g.desat (2 * j), bitOf desat (2 * j))
      (bitOf g.desat (2 * j + 1), bitOf desat (2 * j + 1)) seen
    s.uvBit l ch (bitOf g.uv j) (bitOf uv j) seen) s

/-- A valid frame of a present node: its contents, the cycle it belongs to, then what it reports. -/
def frameTaken (s : State) (l n : Nat) (b : Bytes) (arrival : ST64) : State :=
  let e := nodeEntry l n
  let b0 := leNat (slice b 0 1)
  let s := (s.putB e 0x22 (b ++ toLe 8 arrival.toNat)).put e 0x23 (beNat (slice b 5 2) : Nat)
  let s := s.put e 0x25 (leInt (slice b 4 1))
  let s := s.modNode l n fun g => { g with vcapAge := 0, bypassed := bitOf b0 0 }
  let s := if bitOf b0 2 then s.flag e 0x2A 4 else s
  let s := if bitOf b0 1 then (s.count e 0x27).flag e 0x2A 3 else s
  let s := match s.frameCycle l n arrival with
    | some j =>
      let s := s.modNode l n fun g => { g with frames := if g.judged ≤ j then insertNat j g.frames else g.frames }
      match s.cycStart l j with
      | some t => s.ackCheck l n j t (beNat (slice b 2 2))
      | none => s
    | none => s
  let s := match (s.lane l).chain with
    | some c => if c.step = 5 then s.chainAnswered l n else s
    | none => s
  s.frameBits l n (leNat (slice b 1 1)) arrival

/-- Every frame that can be attributed to cycle j of a node has arrived: the next cycle has begun there. -/
def cycleOver (s : State) (l n j : Nat) : Bool :=
  match s.cycStart l (j + 1) with
  | some t => decide (0 ≤ sdiff s.now (later t (s.cycLag l n)))
  | none => true

/-- The judgement of cycle j on one node (R314). -/
def judgeCycle (s : State) (l n j : Nat) : State :=
  if !s.cycleOver l n j then s
  else
    let g := s.node l n
    let s := s.modNode l n fun g => { g with judged := j + 1, frames := g.frames.filter fun k => decide (j < k) }
    if g.frames.contains j then
      let s := s.modNode l n fun g => { g with missedRun := 0, goodRun := g.goodRun + 1 }
      if g.linkFault ∧ g.goodRun + 1 = 4 then s.linkFaultOff l n else s
    else
      (s.count (nodeEntry l n) 0x26).modNode l n fun g => { g with missedRun := g.missedRun + 1, goodRun := 0 }

/-- The judgement of the cycles of one node that have ended; the present one, whose CYC has just left, has not. -/
def judgeNode (s : State) (l n : Nat) : State :=
  let from_ := (s.node l n).judged
  (List.range ((s.lane l).cycles - 1 - from_)).foldl (fun s k => s.judgeCycle l n (from_ + k)) s

/-- Upstream lock in the cycle that ends (R314, R336). -/
def cycleLock (s : State) (l : Nat) (up : Bool) : State :=
  let s := if (s.lane l).upLock && !up then s.upstreamLost l else s
  s.modLane l fun g => { g with upLock := up, lockMissed := if up then 0 else g.lockMissed + 1 }

/-- The cycles that have ended are judged: four without upstream lock fault every node, four without a valid frame its own
(R314). -/
def judgeLane (s : State) (l : Nat) (up : Bool) : State :=
  let s := s.cycleLock l up
  let s := (s.laneNodes l).foldl (fun s n => s.judgeNode l n) s
  let lost := if (s.lane l).lockMissed = 4 then (s.laneNodes l).map fun n => (n, 2) else []
  let missing := ((s.laneNodes l).filter fun n => decide (4 ≤ (s.node l n).missedRun)).map fun n => (n, 1)
  s.nodeFaults l (if lost.isEmpty then missing else lost)

/-- A CYC leaves a lane, with TIME at every 64th; the frame's K28.3 leaves one character later (R312, R313). -/
def sendCyc (s : State) (l : Nat) : State :=
  let k := (s.lane l).cycles
  let s := (s.laneSend l glCyc []).modLane l fun g =>
    { g with cycles := g.cycles + 1, cycs := (s.now :: g.cycs).take 8 }
  if k % 64 = 0 then
    let t := later s.now (ns (if (s.lane l).fullRate then 4 else 16) : Nat)
    s.mgmt l 0x1F 0x01 (toBe 4 ((t.toNat % 4294967296 : Nat) : Int))
  else s

/-- A frame's VCAP ages by a cycle. -/
def ageVcaps (s : State) (l : Nat) : State :=
  (s.laneNodes l).foldl (fun s n => s.modNode l n fun g => { g with vcapAge := g.vcapAge + 1 }) s

/-- The cycles so far are not judged: nodes are supervised from WATCH on (R19, R21). -/
def skipCycles (s : State) (l : Nat) : State :=
  (s.laneNodes l).foldl (fun s n => s.modNode l n fun g => { g with judged := (s.lane l).cycles, frames := [] }) s

end State

/-! ## Commands -/

/-- A fault input becomes active: the pairs that map it take their action, then the Shears decides (R290, R345). -/
def execFltActive (n : Fin 8) (seen : BitVec 64) (s : State) : Host.Outcome State Fault Refusal :=
  if s.fltActive.contains n.val then .next s
  else
    let s := s.setFlt (insertNat n s.fltActive)
    let s := (s.fltPairs n).foldl (fun s p => if s.pcfg (0x5020 + p) 0x01 = 1 then s.pairFault p n else s) s
    .next (s.report ⟨kFlt, n, none, none, seen, 0, false⟩)

/-- A CYC leaves a lane, and the cycles that have ended are judged; in DORMANT the lane runs unsupervised, once
Rootstock has loaded its configuration (R19, R312 to R314). -/
def execStatusCycle (l : Fin 8) (upLock : Bool) (s : State) : Host.Outcome State Fault Refusal :=
  if s.laneEnabled l && !(s.lane l).noData && (s.ctl.bootComplete || decide (s.ctl.mode ≠ .dormant)) then
    let s := (s.sendCyc l).ageVcaps l
    .next (if s.ctl.mode = .dormant then s.skipCycles l else (s.judgeLane l upLock).staleVcap)
  else .next s

/-- The eight data characters of a status frame have arrived; a frame whose CRC fails is no frame (R310, R313, R315). -/
def execStatusFrame (l : Fin 8) (data : Bytes) (arrival : BitVec 64) (s : State) : Host.Outcome State Fault Refusal :=
  let n := leNat (slice data 0 1) / 8
  if data.length = 8 ∧ crc8 (slice data 0 7) = leNat (slice data 7 1) ∧ (s.node l n).present then
    .next (s.frameTaken l n data arrival)
  else .next s

/-- BYPASS_DELAY after an AFFECTED STOP the bypass of the submodule is closed (R328, R350). -/
def execShearsBypassDelay (n : Fin 216) (s : State) : Host.Outcome State Fault Refusal :=
  match (s.leg n).bypassDue with
  | none => .next s
  | some _ =>
    let l := State.legLane n
    let s := s.modLeg n fun g => { g with bypassDue := none }
    match s.nodeOf l (2 * State.legPair n) with
    | some k => .next ((s.modLeg n fun g => { g with bypassSent := true }).bypass l k 1 1)
    | none => .next s

/-- The blanking window of a switch ends: a pending report is acted on when the latest frame still carries the bit
(R348). -/
def execBlankWindowEnd (n : Fin 216) (low : Bool) (s : State) : Host.Outcome State Fault Refusal :=
  match s.legPending n low with
  | some seen =>
    let ch := 2 * State.legPair n + low.toNat
    let s := s.modLeg n fun g => if low then { g with lPending := none } else { g with hPending := none }
    if s.srcActive kDesat (State.legLane n * 256 + ch) then
      .next (s.report (State.desatReport (State.legLane n) ch seen false))
    else .next s
  | none => .next s

/-- RELEASE of a leg, in its own entry or in the remote pair's (R358, R361). -/
def execLegRelease (req : Requester) (n : Fin 216) (pairEntry : Bool) (s : State) : Host.Outcome State Fault Refusal :=
  let pe := pairEntry && decide (24 ≤ n.val)
  let i := if pe then State.remoteEntry (State.legLane n) (State.legPair n) else 0x7100 + n.val
  .next (guarded req i (if pe then 0x26 else 0x22) operators true true (s.legHeldBack n)
    (fun s => (s.freeLeg n).event 0x0B12 [1, n.val]) s)

/-- CLEAR of a group (R359, R361). -/
def execGroupClear (req : Requester) (g : Fin 16) (s : State) : Host.Outcome State Fault Refusal :=
  .next (guarded req (0x7200 + g) 0x23 operators true true
    (if (s.sgroup g).sources.any fun x => s.srcActive x.1 x.2 then 0x0C93 else 0)
    (fun s => (s.endTrip g).event 0x0B12 [2, g.val]) s)

/-- CLEAR_ALL (R360, R361). -/
def execClearAll (req : Requester) (s : State) : Host.Outcome State Fault Refusal :=
  .next (guarded req 0x7300 0x01 operators true true
    (if State.allSources.any fun x => s.srcActive x.1 x.2 && decide (s.srcClass x.1 x.2 ≠ 0) then 0x0C93 else 0)
    (fun s =>
      let s := (List.range 16).foldl (fun s g => s.clearTrip g) s
      let s := (List.range 216).foldl (fun s n => s.freeLeg n) s
      ((s.modShears fun v => { v with allActive := false }).dropCause .shearsAll).event 0x0B12 [3, 0]) s)

/-- TEST_CMP: a comparator's self-test starts (R362, R364). -/
def execTestCmp (req : Requester) (n : Fin 16) (s : State) : Host.Outcome State Fault Refusal :=
  .next (guarded req 0x7310 0x01 engineers true (wh s.ctl.mode)
    (if s.shears.test.isSome then 0x0501 else if s.cfg (0x20C0 + n) 0x01 = 1 then 0 else 0x0CB1)
    (fun s => s.modShears fun v => { v with test := some (.comparator n, s.now) }) s)

/-- RESULT of a comparator sweep: the codes at which it tripped and released, none where it did not (R362, R374). -/
def cmpResult (threshold hyst : Nat) (below : Bool) (trip rel : Option Nat) : Nat :=
  match trip, rel with
  | none, _ => 1
  | some t, r =>
    if 8 < ((t : Int) - threshold).natAbs then 2
    else match r with
      | none => 3
      | some c =>
        let d : Int := if below then (c : Int) - threshold else (threshold : Int) - c
        if 8 * 1500 < (d * 1500 - cmpHystMv hyst * 1024).natAbs then 4 else 0

/-- A code of the sweep of a comparator's test: THRESHOLD - 64 to THRESHOLD + 64, clamped to 0 to 1023 (R362). -/
def inSweep (threshold code : Nat) : Bool := decide (threshold ≤ code + 64 ∧ code ≤ threshold + 64 ∧ code ≤ 1023)

/-- TEST_NODE: SELFTEST leaves for a node comparator (R363, R364). -/
def execTestNode (req : Requester) (value : BitVec 32) (s : State) : Host.Outcome State Fault Refusal :=
  let v := value.toNat
  let l := v / 0x10000 % 256
  let n := v / 0x100 % 256
  .next (guarded req 0x7310 0x02 engineers true (wh s.ctl.mode)
    (if s.shears.test.isSome then 0x0501
     else if v < 0x1000000 ∧ l < 8 ∧ n < 24 ∧ (s.node l n).present then 0 else 0x0CB1)
    (fun s =>
      let s := (s.mgmt l n 0x05 [BitVec.ofNat 8 v]).modNode l n fun g => { g with underTest := true, desat := 0 }
      s.modShears fun x => { x with test := some (.node l n (v % 256), s.now) }) s)

/-- No TEST_DONE within 10 ms (R363). -/
def execNodeTestTimeout (s : State) : Host.Outcome State Fault Refusal :=
  match s.shears.test with
  | some (.node l n c, _) => .next (s.testResult (State.testTarget (.node l n c)) 6 0 0)
  | _ => .next s

end Sys2Proof.Machine
end

