-- ==== Sys2Proof/Machine/Windows.lean ====
section
/-! DEFINITION. What the Sieve and the comparators report to the Shears: bitstream supervision, quick-path windows and
comparators with their self-test (R51, R52, R60, R61, R74, R362). -/

namespace Sys2Proof.Machine

namespace State

/-! ## Quick-path windows (R60, R61) -/

/-- The quick-path value the latest bits of a channel give, newest first. -/
def qpValue (s : State) (ch : Nat) (bits : List Bool) : Int :=
  quickPath (s.cfgN (0x2000 + ch) 0x09) (s.cfgN (0x2000 + ch) 0x0A) bits

/-- A value lies beyond the window's threshold. -/
def qpBeyond (s : State) (ch : Nat) (high : Bool) (v : Int) : Bool :=
  if high then decide (s.cfg (0x2000 + ch) 0x0B < v) else decide (v < s.cfg (0x2000 + ch) 0x0C)

/-- A value lies past the window's hysteresis point. -/
def qpBack (s : State) (ch : Nat) (high : Bool) (v : Int) : Bool :=
  let h := s.cfg (0x2000 + ch) 0x0D
  if high then decide (v < satS 16 (s.cfg (0x2000 + ch) 0x0B - h)) else decide (satS 16 (s.cfg (0x2000 + ch) 0x0C + h) < v)

/-- QP_ENABLE names the window. -/
def qpEnabled (s : State) (ch : Nat) (high : Bool) : Bool := bitOf (s.cfgN (0x2000 + ch) 0x0E) (!high).toNat

/-- The supervision fault holds the window tripped (R52). -/
def qpHeld (s : State) (ch : Nat) (high : Bool) : Bool :=
  decide ((s.chan ch).status = .supvFault) && decide (s.cfg (0x2000 + ch) 0x0F = 1) && s.qpEnabled ch high

/-- The window's state by the quick-path values alone. -/
def qpOwn (s : State) (ch : Nat) (high : Bool) : Bool := if high then (s.chan ch).qpHigh else (s.chan ch).qpLow

/-- QP_STATE follows the windows. A window whose quick-path value lies inside the hysteresis band when the fault ends has the
state it tracked during the hold (DESIGN CHOICE, log entry 111; R52). -/
def putQpState (s : State) (ch : Nat) : State :=
  s.put (0x2000 + ch) 0x29 (ofBits [s.qpOwn ch true || s.qpHeld ch true, s.qpOwn ch false || s.qpHeld ch false] : Nat)

/-- A window trips: its flag, and its report when it is enabled and was not tripped before. -/
def qpTripped (s : State) (ch : Nat) (high : Bool) (was : Bool) (seen : ST64) (v : Int) : State × List Report :=
  let s := (s.flag (0x2000 + ch) 0x27 (if high then 4 else 5)).putQpState ch
  let kind := if high then kQpHigh else kQpLow
  (s, if s.qpEnabled ch high && !was then [⟨kind, ch, s.srcLeg kind ch, none, seen, v, false⟩] else [])

/-- The window was tripped. -/
def qpWas (s : State) (ch : Nat) (high : Bool) : Bool := bitOf (s.regN (0x2000 + ch) 0x29) (!high).toNat

/-! ## Supervision (R51, R52) -/

/-- A window that the fault holds trips with a value of the quick path; its report joins those before it. -/
def holdWindow (x : State × List Report) (ch : Nat) (high : Bool) (was : Bool) (v : Int) : State × List Report :=
  if x.1.qpHeld ch high then
    let y := x.1.qpTripped ch high was x.1.now v
    (y.1, x.2 ++ y.2)
  else x

/-- A supervision fault on one channel by the flags of a map; the windows it holds trip with the present value, and their
reports wait for the Shears. -/
def supvFault (x : State × List Report) (ch flags : Nat) (v : Int) : State × List Report :=
  let s := x.1
  let c := s.chan ch
  if c.status = .off then x
  else
    let e := 0x2000 + ch
    let fresh := (List.range 2).filter fun b => bitOf flags b && !bitOf c.faultFlags b
    let s := fresh.foldl (fun s b => s.flag e 0x27 b) s
    let s := if c.status = .supvFault then s else (s.count e 0x28).chanStatus ch .supvFault
    let s := s.modChan ch fun c => { c with faultFlags := c.faultFlags ||| flags }
    let s := fresh.foldl (fun s b => s.event 0x0210 [ch, b]) s
    if c.status = .supvFault then (s, x.2)
    else holdWindow (holdWindow (s, x.2) ch true (s.qpWas ch true) v) ch false (s.qpWas ch false) v

/-- A swap during supervision faults: a window that is now held trips with its present quick-path value, which is free here,
and one that is no longer held takes its own state (R52, R66; log entry 112). -/
def swapWindows (s : State) : State :=
  let trip (x : State × List Report) (ch : Nat) (high : Bool) : State × List Report :=
    if x.1.qpHeld ch high && !x.1.qpWas ch high then
      let d := x.1.draw
      holdWindow (d.2, x.2) ch high false (BitVec.ofNat 16 d.1).toInt
    else x
  let x := (List.range 48).foldl (fun x ch =>
    if (x.1.chan ch).status ≠ .supvFault then x
    else
      let x := trip (trip x ch true) ch false
      (x.1.putQpState ch, x.2)) (s, [])
  x.1.reportAll x.2

/-! ## Comparators (R74, R362) -/

/-- A threshold in units of 1/1024 uV, times 256000 (R74). -/
def cmpLine (s : State) (n : Nat) : Int × State := let x := s.cmpLevel n (s.cfg (0x20C0 + n) 0x02); (x.1 * 1500000, x.2)

/-- A level in microvolts on the scale of cmpLine. -/
def cmpScale (level : Int) : Int := level * 1024 * 256000

/-- The comparator's output goes to tripped: STATE, count and report (R74). -/
def cmpTripped (s : State) (n : Nat) (seen : ST64) : State :=
  let s := (s.putCmp n true).count (0x20C0 + n) 0x21
  s.report ⟨kCmp, n, s.srcLeg kCmp n, none, seen, s.cfg (0x20C0 + n) 0x02, false⟩

/-- The comparator's output by its input alone. -/
def putCmpOwn (s : State) (n : Nat) (b : Bool) : State := s.modSieve fun v => { v with cmpOwn := vmod v.cmpOwn n fun _ => b }

/-- A comparator's input is restored after a test: its output shows the input again, and a trip is acted on (R362, R364). -/
def restoreCmp (s : State) (n : Nat) : State :=
  let own := vget s.sieve.cmpOwn n false
  if own ∧ s.reg (0x20C0 + n) 0x20 = 0 then s.cmpTripped n s.now else s.putCmp n own

/-- The device leaves WATCH or HALT: a test in progress is abandoned (R364). -/
def abandonTest (s : State) : State :=
  match s.shears.test with
  | some (.comparator n, _) => (s.testResult n 5 0 0).restoreCmp n
  | some (t, _) => s.testResult (testTarget t) 5 0 0
  | none => s

end State

/-! ## Commands -/

/-- STUCK or MISSING_CLOCK is reached: the channel, and for a lost clock in CLOCKED mode every CLOCKED channel of its
group, enters SUPV_FAULT; bits are the latest bits of the group's six channels, newest first (R51, R52). -/
def execSupvFaultStart (ch : Fin 48) (stuck missing : Bool) (bits : List (List Bool)) (s : State) :
    Host.Outcome State Fault Refusal :=
  let value (s : State) (c : Nat) : Int := s.qpValue c (bits.getD (c % 6) [])
  let flags := ofBits [stuck, missing]
  if flags = 0 then .next s
  else
    let own := s.cfg (0x2000 + ch) 0x01 = 1 ∧ missing
    let x := State.supvFault (s, []) ch flags (value s ch)
    let x := if own then
        (List.range 6).foldl (fun x j =>
          let c := ch.val / 6 * 6 + j
          if c ≠ ch.val ∧ s.cfg (0x2000 + c) 0x01 = 1 then State.supvFault x c 2 (value s c) else x) x
      else x
    .next (x.1.reportAll x.2)

/-- 64 consecutive good bits end the fault: the windows take their own states and the channel settles (R51, R52). -/
def execSupvFaultEnd (ch : Fin 48) (s : State) : Host.Outcome State Fault Refusal :=
  if (s.chan ch).status = .supvFault then
    let s := (s.modChan ch fun c => { c with faultFlags := 0 }).settle ch
    .next (s.putQpState ch)
  else .next s

/-- A quick-path value beyond a window's threshold: the window trips (R61). The bits are the channel's latest, newest
first. -/
def execQpTrip (ch : Fin 48) (high : Bool) (bits : List Bool) (seen : BitVec 64) (s : State) :
    Host.Outcome State Fault Refusal :=
  let v := s.qpValue ch bits
  if (s.chan ch).status ≠ .off ∧ s.qpBeyond ch high v ∧ !s.qpOwn ch high then
    let was := s.qpWas ch high
    let s := s.modChan ch fun c => if high then { c with qpHigh := true } else { c with qpLow := true }
    let x := s.qpTripped ch high was seen v
    .next (x.1.reportAll x.2)
  else .next s

/-- A quick-path value past the hysteresis point: the window releases (R61). -/
def execQpRelease (ch : Fin 48) (high : Bool) (bits : List Bool) (s : State) : Host.Outcome State Fault Refusal :=
  if (s.chan ch).status ≠ .off ∧ s.qpBack ch high (s.qpValue ch bits) then
    .next ((s.modChan ch fun c => if high then { c with qpHigh := false } else { c with qpLow := false }).putQpState ch)
  else .next s

/-- A comparator's input, in microvolts, passes its threshold in the tripping direction (R74). -/
def execCmpTrip (n : Fin 16) (level : Int) (seen : BitVec 64) (s : State) : Host.Outcome State Fault Refusal :=
  if s.cfg (0x20C0 + n) 0x01 ≠ 1 then .next s
  else
    let x := s.cmpLine n
    let s := x.2
    let beyond := if s.cfg (0x20C0 + n) 0x03 = 1 then decide (State.cmpScale level < x.1) else decide (x.1 < State.cmpScale level)
    if !beyond then .next s
    else
      let s := s.putCmpOwn n true
      if s.cmpTested n ∨ s.reg (0x20C0 + n) 0x20 = 1 then .next s else .next (s.cmpTripped n seen)

/-- A comparator's input passes its threshold by its hysteresis on the release side (R74). -/
def execCmpRelease (n : Fin 16) (level : Int) (s : State) : Host.Outcome State Fault Refusal :=
  if s.cfg (0x20C0 + n) 0x01 ≠ 1 then .next s
  else
    let x := s.cmpLine n
    let s := x.2
    let h := State.cmpScale (cmpHystMv (s.cfgN (0x20C0 + n) 0x04) * 1000)
    let back := if s.cfg (0x20C0 + n) 0x03 = 1 then decide (x.1 + h < State.cmpScale level)
      else decide (State.cmpScale level < x.1 - h)
    if !back then .next s
    else
      let s := s.putCmpOwn n false
      if s.cmpTested n then .next s else .next (s.putCmp n false)

/-- A comparator self-test ends with the codes at which the comparator tripped and released, none where no code of the clamped
sweep reached it; its input is restored and protection resumes with what the input shows (R362). -/
def execCmpTestDone (trip release : Option Nat) (s : State) : Host.Outcome State Fault Refusal :=
  match s.shears.test with
  | some (.comparator n, _) =>
    let e := 0x20C0 + n
    let trip := trip.filter (inSweep (s.cfgN e 0x02))
    let release := release.filter (inSweep (s.cfgN e 0x02))
    let r := cmpResult (s.cfgN e 0x02) (s.cfgN e 0x04) (decide (s.cfg e 0x03 = 1)) trip release
    .next ((s.testResult n r (trip.getD 0) (release.getD 0)).restoreCmp n)
  | _ => .next s

end Sys2Proof.Machine
end

