-- ==== Sys2Proof/Machine/Loops.lean ====
section
/-! DEFINITION. Loop slots: states, commands, faults, swap marks and the conditions of an active engine (R86, R165 to
R193). -/

namespace Sys2Proof.Machine

/-- The codes of the slot states (R166). -/
def loopCode : LoopState → Nat
  | .unused => 0 | .closed => 1 | .openL => 2 | .tracking => 3 | .faulted => 4

namespace State

def engine (s : State) (e : Nat) : Engine := vget s.engines e Engine.idle
def modEngine (s : State) (e : Nat) (g : Engine → Engine) : State := { s with engines := vmod s.engines e g }
def slot (s : State) (e l : Nat) : LoopSlot := vget (s.engine e).slots l LoopSlot.unused
def modSlot (s : State) (e l : Nat) (g : LoopSlot → LoopSlot) : State :=
  s.modEngine e fun n => { n with slots := vmod n.slots l g }

/-- The device pulses or holds its fast clocks: the modes in which a control engine runs (R86). -/
def controlMode (s : State) : Bool :=
  decide (s.ctl.mode = .energize ∨ s.ctl.mode = .form ∨ s.ctl.mode = .ride) ||
    (decide (s.ctl.mode = .halt) && s.ctl.fastClocks)

/-- An engine is a monitor engine. -/
def monitor (s : State) (e : Nat) : Bool := decide (s.cfg (Bed.ctl e) 0x05 = 1)

/-- An engine is ACTIVE (R86). -/
def engineActive (s : State) (e : Nat) : Bool :=
  Bed.enabled s.active e && decide (s.ctl.mode ≠ .dormant) &&
    (s.monitor e || (s.controlMode && (s.engine e).ready))

/-- An engine runs: it is ACTIVE, or completes the period in progress at its return to WATCH (R86). -/
def engineRuns (s : State) (e : Nat) : Bool :=
  s.engineActive e || (Bed.enabled s.active e && decide (s.ctl.mode ≠ .dormant) && (s.engine e).inPeriod)

/-- STATE of an engine: 0 OFF, 1 ASLEEP, 2 ACTIVE (R86). -/
def engineState (s : State) (e : Nat) : Nat :=
  if !Bed.enabled s.active e then 0 else if s.engineRuns e then 2 else 1

/-- The instances that belong to a slot under a bed (R165). -/
def members (bed : Store) (e l : Nat) : List Nat :=
  (List.range 240).filter fun b => decide (Bed.type bed e b ≠ 0) && decide (Bed.loop bed e b = some l)

/-- A slot is used under a bed. -/
def slotUsed (bed : Store) (e l : Nat) : Bool := !(members bed e l).isEmpty

/-- The state a slot starts in (R168). -/
def initSlot (s : State) (e l : Nat) : LoopState :=
  if slotUsed s.active e l then (if s.cfg (Bed.slot e l) 0x01 = 2 then .openL else .closed) else .unused

/-- A slot takes a state: STATE, STATE_TIME and LOOP_STATE, but for changes between CLOSED and TRACKING (R190). -/
def setLoop (s : State) (e l : Nat) (new : LoopState) (cause : Nat) : State :=
  let old := (s.slot e l).state
  let s := (s.modSlot e l fun w => { w with state := new }).put (Bed.slot e l) 0x20 (loopCode new)
  let silent := decide (old = new ∨ (old = .closed ∧ new = .tracking) ∨ (old = .tracking ∧ new = .closed))
  if silent then s
  else (s.putT (Bed.slot e l) 0x24 s.now).event 0x0510 [e, l, loopCode old, loopCode new, cause]

/-- State words and y1 of a FERR instance go to 0 (R179). -/
def clearFerr (s : State) (e b : Nat) : State :=
  let a := Bed.nat s.active (Bed.inst e b) 0x02
  s.modEngine e fun n =>
    { n with words := del (b * 8) (del (b * 8 + 1) n.words), signal := poke (a + 1) 0#32 n.signal
             outputs := poke (b * 8 + 1) 0#32 n.outputs }

/-- A close: CLOSED, its PI blocks to be preloaded, its FERR blocks cleared, CLOSE_COUNT (R168, R177, R179). -/
def closeLoop (s : State) (e l cause : Nat) : State :=
  let s := ((s.setLoop e l .closed cause).count (Bed.slot e l) 0x26).modSlot e l fun w => { w with preload := true }
  (members s.active e l).foldl (fun s b => if Bed.type s.active e b = 26 then s.clearFerr e b else s) s

/-- The HALT causes of faulted loops that no loop holds any more are gone (R169). -/
def refreshLoopCauses (s : State) : State :=
  let held (r : Nat) : Bool := s.engines.toList.any fun n =>
    n.slots.toList.any fun w => (decide (w.state = .faulted ∧ w.faultReason = r)) || decide (w.toFault = some r)
  let s := if held 1 then s else s.overrunGone
  let s := if held 2 then s else s.dropCause .stale
  if held 3 then s else s.dropCause .following

/-- Step 1 of R171: entry to FAULTED. -/
def stepFault (s : State) (e l : Nat) : State × Bool :=
  let w := s.slot e l
  match w.toFault with
  | none => (s, false)
  | some r =>
    let s := s.modSlot e l fun w => { w with toFault := none }
    if w.state = .closed ∨ w.state = .tracking ∨ w.state = .openL then
      let s := (s.modSlot e l fun w => { w with faultReason := r }).put (Bed.slot e l) 0x29 r
      ((s.flag (Bed.slot e l) 0x28 2).setLoop e l .faulted (if r = 1 then 3 else if r = 2 then 4 else 2), true)
    else (s, false)

/-- Step 2: what a swap brings: a mark, or a slot that becomes used or unused (R168, R188). -/
def stepMark (s : State) (e l : Nat) : State :=
  let w := s.slot e l
  let s := s.modSlot e l fun w => { w with mark := 0 }
  match w.mark, w.state with
  | 1, .closed | 1, .tracking => s.setLoop e l .openL 5
  | 2, .closed | 2, .tracking => (s.flag (Bed.slot e l) 0x28 3).closeLoop e l 5
  | 3, .unused => s.setLoop e l (s.initSlot e l) 5
  | 4, .closed | 4, .tracking | 4, .openL => s.setLoop e l .unused 5
  | _, _ => s

/-- A command that does not apply any more (R171). -/
def discardCmd (s : State) (e l : Nat) : State := s.count (Bed.slot e l) 0x2A

/-- Step 3: one OPEN or CLOSE; fresh says that step 1 made the loop FAULTED at this cycle 0. -/
def stepCmd (s : State) (e l : Nat) (fresh : Bool) (c : LoopCmd) : State :=
  match (s.slot e l).state, c with
  | .closed, .openC | .tracking, .openC => s.setLoop e l .openL 1
  | .faulted, .openC =>
    if fresh then s.discardCmd e l
    else
      let s := (s.modSlot e l fun w => { w with faultReason := 0 }).put (Bed.slot e l) 0x29 0
      s.setLoop e l (if slotUsed s.active e l then .openL else .unused) 1
  | .openL, .closeC => s.closeLoop e l 1
  | .openL, .openC | .closed, .closeC | .tracking, .closeC => s
  | _, _ => s.discardCmd e l

/-- Step 4: FERR action OPEN. -/
def stepFerr (s : State) (e l : Nat) : State :=
  let w := s.slot e l
  let s := s.modSlot e l fun w => { w with ferrOpen := false }
  if w.ferrOpen ∧ (w.state = .closed ∨ w.state = .tracking) then s.setLoop e l .openL 2 else s

/-- Step 5: the Hedge's decision. -/
def stepHedge (s : State) (e l : Nat) : State :=
  let w := s.slot e l
  let s := s.modSlot e l fun w => { w with won := none }
  match w.won, w.state with
  | some false, .closed => if s.cfg (Bed.slot e l) 0x03 = 0xFF then s else s.setLoop e l .tracking 1
  | some true, .tracking => s.setLoop e l .closed 1
  | _, _ => s

/-- A slot that ends a cycle 0 other than CLOSED or TRACKING is preloaded only where a RETUNE mark closed it at that same
cycle 0 and it ends OPEN (R177, R189). -/
def keepPreload (s : State) (e l : Nat) (retuned : Bool) : State :=
  match (s.slot e l).state with
  | .closed | .tracking => s
  | .openL => if retuned then s else s.modSlot e l fun w => { w with preload := false }
  | _ => s.modSlot e l fun w => { w with preload := false }

/-- A RETUNE mark closes the slot anew at this cycle 0 (R188). -/
def retuned (s : State) (e l : Nat) : Bool :=
  let w := s.slot e l
  decide (w.mark = 2) && decide (w.state = .closed ∨ w.state = .tracking)

/-- The changes of one slot that fall on one cycle 0, in the order of R171. -/
def applySlot (s : State) (e l : Nat) : State :=
  let f := s.stepFault e l
  let again := f.1.retuned e l
  let s := f.1.stepMark e l
  let cmds := (s.slot e l).cmds
  let s := s.modSlot e l fun w => { w with cmds := [] }
  let s := cmds.foldl (fun s c => s.stepCmd e l f.2 c) s
  ((s.stepFerr e l).stepHedge e l).keepPreload e l again

/-- Every slot of an engine at cycle 0. -/
def applySlots (s : State) (e : Nat) : State :=
  ((List.range 8).foldl (fun s l => s.applySlot e l) s).refreshLoopCauses

/-- Changes take effect at once at an engine that is not ACTIVE (R167). -/
def settleSlots (s : State) (e : Nat) : State := if s.engineActive e then s else s.applySlots e

/-- An engine action under R105: code 0 FAULT, 1 GROUP, 2 HALT; reason 1 overrun, 2 stale. -/
def engineAction (s : State) (e code reason : Nat) : State :=
  let s := (List.range 8).foldl (fun s l =>
    match (s.slot e l).state with
    | .unused | .faulted => s
    | _ => s.modSlot e l fun w => { w with toFault := some (w.toFault.getD reason) }) s
  let s := if code = 2 then s.raiseCause (if reason = 1 then .overrun else .stale) else s
  let s := if 1 ≤ code ∧ s.cfgN (Bed.ctl e) 0x09 < 16 then s.report ⟨kEngine, e, none, none, s.now, 0, false⟩ else s
  s.event 0x0312 [e, code, reason]

/-- A FERR instance trips (R184). An instance that belongs to no loop reports slot 0xFF (DESIGN CHOICE, log entry 111). -/
def ferrTrip (s : State) (e b : Nat) : State :=
  let act := Bed.whole s.active e b 0x12
  match Bed.loop s.active e b with
  | some l =>
    let s := ((s.flag (Bed.slot e l) 0x28 1).count (Bed.slot e l) 0x27).event 0x0512 [e, l, b, act]
    match act with
    | 1 => s.modSlot e l fun w => { w with ferrOpen := true }
    | 3 => (s.modSlot e l fun w => { w with toFault := some (w.toFault.getD 3) }).raiseCause .following
    | _ => s
  | none => s.event 0x0512 [e, 0xFF, b, act]

/-- The slots of an engine take their INIT_STATE at Trellis ready; a FAULTED loop stays (R168, R170). -/
def initSlots (s : State) (e cause : Nat) : State :=
  (List.range 8).foldl (fun s l =>
    if (s.slot e l).state = .faulted then s
    else (s.setLoop e l (s.initSlot e l) cause).modSlot e l fun w =>
      { w with cmds := [], ferrOpen := false, won := none, preload := false, mark := 0 }) s

/-- The parameters of an instance are inconsistent (R127). -/
def instBad (bed : Store) (e b : Nat) : Bool := paramsInconsistent (Bed.type bed e b) fun k => Bed.par bed e b k

/-- The loop's listed instances are consistent: their parameter sets alone, without the claims of R127 on one target, which
no parameter write of one loop settles (DESIGN CHOICE, log entry 111; R174). -/
def closeConsistent (s : State) (e l : Nat) : Bool :=
  !Bed.enabled s.active e ||
    (Bed.list s.active e).all fun w => decide (Bed.loop s.active e w.2 ≠ some l) || !instBad s.active e w.2

/-- A loop command is accepted for the next cycle 0. -/
def queueLoop (s : State) (e l : Nat) (c : LoopCmd) : State :=
  (s.modSlot e l fun w => { w with cmds := w.cmds ++ [c] }).settleSlots e

/-! ## Parameters (R123, R175, R263) -/

/-- A parameter is a target the sounder adapts. -/
def soundTarget (bed : Store) (e b sub : Nat) : Bool :=
  (List.range 8).any fun k => decide (Bed.nat bed 0x4023 (k + 1) = e * 0x10000 + b * 0x100 + sub)

/-- A TAP that writes shared samples keeps them within 0 to 63 (R161). -/
def tapFits (bed : Store) (e b sub : Nat) (v : DVal) : Bool :=
  let w (k : Nat) : Nat := ((if k = sub then numOf v else Bed.par bed e b k) / onePu).toNat
  decide (Bed.type bed e b ≠ 31) || decide (w 0x10 ≠ 1) || decide (w 0x12 + w 0x11 ≤ 64)

/-- The sounder adapts its targets now. -/
def adapting (s : State) : Bool := decide (2 ≤ s.reg 0x4021 0x02)

end State

/-! ## Commands -/

/-- Loop command OPEN (R172, R173). -/
def execLoopOpen (req : Requester) (e : Fin 16) (l : Fin 8) (s : State) : Host.Outcome State Fault Refusal :=
  .next (guarded req (Bed.slot e l) 0x21 engineers true true
    (if (s.slot e l).state = .unused then 0x0C50 else 0) (fun s => s.queueLoop e l .openC) s)

/-- Loop command CLOSE (R172 to R174), refused while a member that voted for an array swap holds the loop (R628). -/
def execLoopClose (req : Requester) (e : Fin 16) (l : Fin 8) (s : State) : Host.Outcome State Fault Refusal :=
  let own := if s.graft.hold.contains (e.val, l.val) then 0x0C0C else match (s.slot e l).state with
    | .unused | .faulted => 0x0C50
    | .openL => if s.closeConsistent e l then 0 else 0x0C40
    | _ => 0
  .next (guarded req (Bed.slot e l) 0x21 engineers true true own (fun s => s.queueLoop e l .closeC) s)

/-- A write of an active-bed block parameter: its existence by the instance's type, the role, the sounder's claim, the
loop's state, then type and range (R30, R122, R123, R175, R263). -/
def execParamWrite (req : Requester) (e : Fin 16) (b : Fin 240) (sub : Nat) (v : DVal) (s : State) :
    Host.Outcome State Fault Refusal :=
  let i := Bed.inst e b
  if !s.present req then .next s
  else
    match Dict.findParam (Bed.type s.active e b) sub with
    | none => .next (s.answer req i sub 0x0102)
    | some r =>
      if !mayWrite s req engineers then .next (s.answer req i sub 0x0201)
      else if s.adapting && State.soundTarget s.active e b sub then
        .next ((s.count 0x4021 0x0A).answer req i sub 0x0403)
      else
        match Bed.loop s.active e b with
        | none => .next (s.answer req i sub 0x0202)
        | some l =>
          if (s.slot e l).state ≠ .openL then .next ((s.count (Bed.slot e l) 0x25).answer req i sub 0x0402)
          else if !typeOk r v then .next (s.answer req i sub 0x0301)
          else if !rangeOk r.rng v || !State.tapFits s.active e b sub v then .next (s.answer req i sub 0x0302)
          else .next ((s.putCfg i sub (numOf v)).answer req i sub 0)

end Sys2Proof.Machine
end

