-- ==== Sys2Proof/Machine/Trellis.lean ====
section
/-! DEFINITION. One period of a Trellis engine: the latch, the block list with coded checks, withholding, flags and what
the period hands over at its output phase (R86 to R108, R119, R124, R159 to R161). -/

namespace Sys2Proof.Machine

namespace State

/-! ## The latch (R89, R90) -/

/-- A source's value, stamp and publication count strictly before the present instant, and whether its status allows it to
be new. A RUNNER source of which no sample was ever received has no status in the spec's terms: the model counts it as not
VALID, so that it is stale with FRESH = 0 too (DESIGN CHOICE, log entry 111; R89, R90). -/
def sourceBefore (s : State) (ref : Nat) : BitVec 32 × ST64 × Nat × Bool :=
  let a := Bed.refAddr ref
  match Bed.refSpace ref with
  | 1 => let v := s.sensedBefore a; (v.1, v.2.1, 0, v.2.2)
  | 2 => let c := s.copyBefore (a / 0x100); (peek (a % 0x100) c.1, 0#64, c.2, true)
  | _ =>
    match s.sharedBefore a with
    | some v => (v.1, v.2, 0, true)
    | none => (0#32, 0#64, 0, false)

/-- A source is latched at cycle 0. -/
def latchOne (s : State) (old : Option Latch) (ref : Nat) : Latch :=
  let v := s.sourceBefore ref
  let was := old.getD ⟨0#32, 0#64, 0, false, false, false⟩
  let fresh := v.2.2.2 && (if Bed.refSpace ref = 2 then decide (was.pub ≠ v.2.2.1)
    else !was.latched || decide (was.stamp ≠ v.2.1))
  if v.2.2.2 then ⟨v.1, v.2.1, v.2.2.1, true, fresh, true⟩ else { was with fresh := false, ok := false }

/-- The rotor instance is this one (R195). -/
def isRotor (s : State) (e b : Nat) : Bool := decide (s.cfgN 0x4001 0x01 = e * 0x100 + b)

/-- The inputs a listed instance reads: port and reference (R118). -/
def inputsOf (s : State) (e b : Nat) : List (Nat × Nat) :=
  (inputsRead (Bed.type s.active e b) (Bed.par s.active e b) (s.isRotor e b)).map fun k => (k, Bed.input s.active e b k)

/-- Every signal reference outside the local space that the list reads, in list order. -/
def latchedRefs (s : State) (e : Nat) : List Nat :=
  (Bed.list s.active e).flatMap fun w =>
    ((s.inputsOf e w.2).map (·.2)).filter fun r => decide (Bed.refSpace r ≠ 0)

/-- The engine's latches after cycle 0. -/
def latchAll (s : State) (e : Nat) : List (Nat × Latch) :=
  let old := (s.engine e).latches
  (s.latchedRefs e).foldl (fun l r =>
    let k := r % 0x8000
    match look k l with
    | some _ => l
    | none => ins k (s.latchOne (look k old) k) l) []

/-- A reference is stale in this period (R90). -/
def refStale (s : State) (e r : Nat) : Bool :=
  match look (r % 0x8000) (s.engine e).latches with
  | some v => (Bed.refFresh r && !v.fresh) || !v.ok
  | none => false

/-! ## One block -/

/-- The word an input reads: latched, or the local word as it stands; a word that no instance writes reads as zero (R89,
R119). -/
def inputWord (s : State) (e r : Nat) : BitVec 32 :=
  if Bed.refSpace r = 0 then
    if (Bed.writer s.active e (Bed.refAddr r)).isSome then peek (Bed.refAddr r) (s.engine e).signal else 0#32
  else match look (r % 0x8000) (s.engine e).latches with
    | some v => v.value
    | none => 0#32

/-- An input is new (R90). -/
def inputNew (s : State) (e b k r : Nat) : Bool :=
  if Bed.refSpace r = 0 then
    match Bed.writer s.active e (Bed.refAddr r) with
    | some w => decide (peekN (b * 8 + k) (s.engine e).seen < peekN w.1 (s.engine e).runs)
    | none => false
  else match look (r % 0x8000) (s.engine e).latches with
    | some v => v.fresh
    | none => false

/-- The stop factor in Q16.40 for a period that starts now (R207). -/
def stopFactor (s : State) : Option Int :=
  match s.ctl.stopStart with
  | some ta =>
    if s.ctl.mode = .form ∧ s.ctl.sub = .stopping then
      let ramp := ms s.ctl.stopRamp
      let el := sdiff s.now ta
      some (if (ramp : Int) ≤ el then 0 else roundDiv (((ramp : Int) - max 0 el) * p2 40) ramp)
    else none
  | none => none

/-- phi of the recovery ramp as elapsed and length, for a period that starts now (R234). -/
def recoverPhi (s : State) : Option (Int × Int) :=
  match s.ride.rampStart with
  | some tr =>
    if s.ctl.mode = .form ∧ s.ctl.sub = .recovering then some (max 0 (sdiff s.now tr), (ms (s.cfgN 0x4010 0x0A) : Nat))
    else none
  | none => none

/-- The rotor's form: 0 HOLD, 1 PRESET, 2 ACTIVE (R198). -/
def rotorForm (s : State) : Nat :=
  match s.ctl.mode with
  | .watch => if s.ctl.sub = .connectPending then 1 else 0
  | .halt | .dormant => 0
  | _ => 2

/-- The guard is suspended in a period that starts now, by the word as cycle 0 latches it (R89, R230). -/
def guardSuspend (s : State) : Bool :=
  let r := s.cfgN 0x4010 0x01
  let word := peek (Bed.refAddr r % 0x100) (s.copyBefore (Bed.refAddr r / 0x100)).1
  decide (s.ctl.mode = .ride) && decide (r ≠ 0xFFFF) && decide (puOf word < s.cfg 0x4010 0x0C)

/-- The chip the sounder injects through an instance now (R154, R246). -/
def chipOf (s : State) (e b : Nat) : Option Bool :=
  if s.cfgN 0x4020 0x01 = e * 0x100 + b ∧ s.sounder.active then
    some (bitOf s.sounder.register (Bed.whole s.active e b 0x10 - 1))
  else none

/-- The loop state under which an instance runs; CLOSED outside every loop. -/
def instLoop (s : State) (e b : Nat) : LoopState :=
  match Bed.loop s.active e b with
  | some l => (s.slot e l).state
  | none => .closed

/-- What one computation of an instance reads. -/
def blockIn (s : State) (e b : Nat) : BlockIn :=
  let n := s.engine e
  let ref (k : Nat) : Nat := Bed.input s.active e b k
  let slot := (Bed.loop s.active e b).map fun l => s.slot e l
  let hedge := match Bed.loop s.active e b with
    | some l =>
      let h := s.cfgN (Bed.slot e l) 0x03
      if h < 240 then puOf (peek (Bed.nat s.active (Bed.inst e h) 0x02) n.signal) else 0
    | none => 0
  { x := fun k => s.inputWord e (ref k), isNew := fun k => s.inputNew e b k (ref k)
    par := Bed.par s.active e b, st := fun k => (look (b * 8 + k) n.words).getD 0
    first := !n.computed.contains b, mode := s.ctl.mode
    tracking := (match slot with | some w => decide (w.state = .tracking) | none => false)
    preload := (match slot with | some w => w.preload | none => false)
    hedge := q40 hedge, period := Bed.period s.active e
    rotor := if s.isRotor e b then some s.rotorForm else none
    advance := BitVec.ofInt 32 (s.cfg 0x4002 0x06)
    suspend := s.isRotor e b && s.guardSuspend
    stopFactor := s.stopFactor, recover := s.recoverPhi
    excluded := fun k =>
      decide (Bed.refSpace (ref k) = 0) && (match Bed.writer s.active e (Bed.refAddr (ref k)) with
        | some w => decide (Bed.loop s.active e w.1 ≠ none) && decide (s.instLoop e w.1 = .faulted)
        | none => false)
    chip := s.chipOf e b, free := fun k => Config.freeValue (s.draws + k) }

/-! ## The period in progress -/

end State

/-- The flags and the position of a period that runs: cycle, flag bits of R115, and the block at which it was withheld
with its cause. -/
structure PeriodRun where
  s : State
  cycle : Nat
  flags : List Nat
  ended : Option (Nat × Nat)

namespace State

/-- A flag of the period, once. -/
def runFlag (r : PeriodRun) (b : Nat) : PeriodRun := if r.flags.contains b then r else { r with flags := b :: r.flags }

/-- The results of a computation are committed: outputs, state words, newness counts (R90, R112, R120). -/
def commitBlock (s : State) (e b : Nat) (o : BlockOut) : State :=
  let base := Bed.nat s.active (Bed.inst e b) 0x02
  let ports := (List.range o.outs.length).map fun k => (k, o.outs.getD k 0#32)
  let locals := (s.inputsOf e b).filter fun i => decide (Bed.refSpace i.2 = 0)
  s.modEngine e fun n =>
    { n with
      signal := ports.foldl (fun m p => poke (base + p.1) p.2 m) n.signal
      outputs := ports.foldl (fun m p => poke (b * 8 + p.1) p.2 m) n.outputs
      words := o.st.foldl (fun m w => if w.2 = 0 then del (b * 8 + w.1) m else ins (b * 8 + w.1) w.2 m) n.words
      computed := if n.computed.contains b then n.computed else n.computed ++ [b]
      runs := ins b (peekN b n.runs + 1) n.runs
      seen := locals.foldl (fun m i =>
        match Bed.writer s.active e (Bed.refAddr i.2) with
        | some w => ins (b * 8 + i.1) (if w.1 = b then peekN b n.runs + 1 else peekN w.1 n.runs) m
        | none => m) n.seen }

/-- The Hedge's result reaches the slots that name it (R180, R182). -/
def hedgeResult (s : State) (e b : Nat) (winner : Int) : State :=
  (List.range 8).foldl (fun s l =>
    if s.cfgN (Bed.slot e l) 0x03 = b ∧ (s.slot e l).state ≠ .unused then
      if winner < 0 then (s.put (Bed.slot e l) 0x22 0).modSlot e l fun w => { w with won := none }
      else
        let r := Bed.input s.active e b winner.toNat
        let won := decide (Bed.refSpace r = 0) && (match Bed.writer s.active e (Bed.refAddr r) with
          | some w => decide (Bed.loop s.active e w.1 = some l)
          | none => false)
        (s.put (Bed.slot e l) 0x22 won.toNat).modSlot e l fun w => { w with won := some won }
    else s) s

/-- A FERR trip and the ride-through entry of a grid-forming trip (R184, R209). -/
def tripEffects (s : State) (e b : Nat) : State :=
  let s := s.ferrTrip e b
  if Bed.whole s.active e b 0x12 = 2 ∧ s.ctl.mode = .form then
    let word := if s.cfgN 0x4010 0x01 = 0xFFFF then 0 else s.ride.lastWord
    s.modRide fun r => { r with entry := some (r.entry.getD (4, word, s.now)) }
  else s

/-- The flag and the event of a clamped preload (R178). -/
def clampEffects (s : State) (e b : Nat) (c : Nat × Int × Int) : State :=
  match Bed.loop s.active e b with
  | some l => (s.flag (Bed.slot e l) 0x28 0).event 0x0511 [e, l, b, c.1, c.2.1, c.2.2]
  | none => s

/-- The guards of the estimator's instance are counted and flagged (R230). -/
def guardEffects (s : State) (e b : Nat) (o : BlockOut) : State :=
  let s := if o.guardMoved && s.isRotor e b then (s.count 0x4012 0x0B).flag 0x4013 0x01 1 else s
  if o.guardSuspended && s.isRotor e b then (s.count 0x4012 0x0C).flag 0x4013 0x01 2 else s

/-- The inputs of the synchronisation instance (R209). -/
def syncEffects (s : State) (e b : Nat) (x : List (BitVec 32)) : State :=
  if s.cfgN 0x4001 0x03 = e * 0x100 + b then s.modGf fun g => { g with syncIn := x } else s

/-- What a computation brings about beside its words (R156, R178, R184, R209, R230). -/
def blockEffects (s : State) (e b : Nat) (x : List (BitVec 32)) (o : BlockOut) : State :=
  let s := match o.winner with
    | some w => s.hedgeResult e b w
    | none => s
  let s := if o.trip then s.tripEffects e b else s
  let s := match o.clamped with
    | some c => s.clampEffects e b c
    | none => s
  (s.guardEffects e b o).syncEffects e b x

/-- What an instance hands over at the output phase (R159 to R161). -/
def handOf (s : State) (e b : Nat) (x : List (BitVec 32)) (o : BlockOut) : List HandOver :=
  let w (k : Nat) : Nat := Bed.whole s.active e b k
  match Bed.type s.active e b with
  | 28 => [.duty b (decide (w 0x10 = 1)) (w 0x11) (w 0x12) (puOf (o.outs.headD 0#32))]
  | 29 => [.count b (w 0x10) (puOf (o.outs.headD 0#32) / 65536).toNat]
  | 31 => [.tap b (w 0x10) (w 0x12) (w 0x13) x]
  | _ => []

/-- One computation, committed. -/
def computeBlock (r : PeriodRun) (e b : Nat) : PeriodRun :=
  let s := r.s
  let i := s.blockIn e b
  let type := Bed.type s.active e b
  let x := (s.inputsOf e b).map fun p => i.x p.1
  let o := runBlock type i
  let s := s.skipDraws (if type = 17 then 2 else if type = 19 then 1 else 0)
  let hand := s.handOf e b x o
  let s := (s.commitBlock e b o).blockEffects e b x o
  let s := if hand.isEmpty then s else s.modEngine e fun n => { n with hand := n.hand ++ hand }
  let r := { r with s := s }
  let r := if o.sat then runFlag r 0 else r
  let r := if o.divz then runFlag r 1 else r
  if o.ferr then runFlag r 4 else r

/-- A coded-check mismatch is counted, recorded and reported to the Cloche (R103). -/
def mismatch (r : PeriodRun) (e b : Nat) : PeriodRun :=
  let s := ((r.s.count (Bed.status e) 0x0F).put (Bed.status e) 0x13 b).chkReport e
  runFlag { r with s := s } 5

/-- The period is withheld at a block: cause 1 the retry did not fit, 2 it mismatched (R104). -/
def withhold (r : PeriodRun) (e b cause : Nat) : PeriodRun :=
  let s := r.s.eventAt 0x0310 [e, b, cause] (r.s.engine e).start
  runFlag { r with s := s, ended := some (b, cause) } 3

/-- An instance whose loop is OPEN or FAULTED does not compute, but for the preload of a PI that a RETUNE and an OPEN command
meet on one cycle 0 (R124, R189). -/
def idleInst (s : State) (e b : Nat) : Bool :=
  match Bed.loop s.active e b with
  | some l =>
    match (s.slot e l).state with
    | .openL => !((s.slot e l).preload && decide (Bed.type s.active e b = 10))
    | .faulted => true
    | _ => false
  | none => false

/-- One listed instance: it costs its cycles, and computes unless its loop is OPEN or FAULTED; mism lists the checked
instances whose comparison mismatches in this period and whether the retry does too (R102 to R104, R124). -/
def runListed (e phase : Nat) (mism : List (Nat × Bool)) (r : PeriodRun) (w : Bool × Nat) (rest : Nat) : PeriodRun :=
  match r.ended with
  | some _ => r
  | none =>
    let b := w.2
    let c := Bed.cost r.s.active e w
    let at0 := r.cycle + c
    if r.s.idleInst e b then { r with cycle := at0 }
    else match (if w.1 then mism.find? fun m => decide (m.1 = b) else none) with
      | none => { computeBlock r e b with cycle := at0 }
      | some m =>
        let r := mismatch { r with cycle := at0 } e b
        if phase < at0 + c + rest + 8 then
          withhold { r with s := r.s.event 0x0311 [e, b, 2] } e b 1
        else if m.2 then
          let r := mismatch { r with cycle := at0 + c } e b
          withhold { r with s := r.s.event 0x0311 [e, b, 1] } e b 2
        else
          let r := { r with s := (r.s.count (Bed.status e) 0x10).event 0x0311 [e, b, 0] }
          { computeBlock r e b with cycle := at0 + c }

/-- The list, each instance with the cost of every later one. -/
def runList (e phase : Nat) (mism : List (Nat × Bool)) : List (Bool × Nat) → PeriodRun → PeriodRun
  | [], r => r
  | w :: l, r => runList e phase mism l (runListed e phase mism r w ((l.map (Bed.cost r.s.active e)).sum))

/-- STALE_LIMIT; 0 disables the count (R91). -/
def staleLimit (s : State) (e : Nat) (stale : Bool) : State :=
  let lim := s.cfgN (Bed.ctl e) 0x07
  if !stale || decide (lim = 0) then s.modEngine e fun n => { n with staleRun := 0, staleActed := false }
  else
    let s := s.modEngine e fun n => { n with staleRun := n.staleRun + 1 }
    if lim < (s.engine e).staleRun ∧ (s.engine e).staleActed = false then
      let s := (s.modEngine e fun n => { n with staleActed := true }).event 0x0313 [e, s.reg (Bed.status e) 0x12]
      s.engineAction e (s.cfgN (Bed.ctl e) 0x08) 2
    else s

/-- The latched references that are stale (R89, R90). -/
def staleRefs (s : State) (e : Nat) : List Nat := (s.latchedRefs e).filter fun r => s.refStale e r

/-- LATENCY of the reference channel, in a period in which it is not stale (R101). -/
def latency (s : State) (e : Nat) : State :=
  let ch := s.cfgN (Bed.ctl e) 0x0A
  match (if ch < 208 then look (0x1000 + ch) (s.engine e).latches else none) with
  | some v =>
    if !(s.staleRefs e).any fun r => decide (r % 0x8000 = 0x1000 + ch) then
      let lat := satU 32 (sdiff s.now v.stamp + (Bed.outputPhase s.active e * 320 : Nat))
      let i := Bed.status e
      let first := decide (s.reg i 0x08 = 0)
      let s := s.put i 0x06 lat
      let s := if first ∨ lat < s.reg i 0x07 then s.put i 0x07 lat else s
      if s.reg i 0x08 < lat then s.put i 0x08 lat else s
    else s
  | none => s

/-- The flags and counters of a period: each counter once (R94, R108). -/
def periodFlags (s : State) (e : Nat) (flags : List Nat) : State :=
  let i := Bed.status e
  flags.foldl (fun s b =>
    let s := s.flag i 0x02 b
    match b with
    | 0 => s.count i 0x0A
    | 1 => s.count i 0x0B
    | 2 => s.count i 0x0C
    | 3 => s.count i 0x0D
    | 4 => s.count i 0x0E
    | _ => s) s

/-- A withheld period is counted; the second in a row brings OVERRUN_ACTION (R104, R105, R395). -/
def overrun (s : State) (e : Nat) : State :=
  let s := s.countBy 8 (Bed.status e) 0x11 1
  if s.reg (Bed.status e) 0x11 = 2 then
    let act := s.cfgN (Bed.ctl e) 0x06
    let s := s.engineAction e act 1
    if act = 2 then s.overrunStop else s
  else s

/-- The first period after a close has been computed: its preload is done (R177). A loop that a close and the Hedge's decision
take to TRACKING at one cycle 0 is preloaded in that TRACKING period (DESIGN CHOICE, log entry 111). -/
def endPreload (s : State) (e : Nat) : State :=
  (List.range 8).foldl (fun s l => s.modSlot e l fun w => { w with preload := false }) s

/-- A period opens: waiting loop commands act, and the inputs are latched (R97, R98). -/
def periodOpen (s : State) (e : Nat) : State :=
  let s := s.applySlots e
  let l := s.latchAll e
  let s := s.modEngine e fun n => { n with latches := l, hand := [], start := s.now, started := true, inPeriod := true, bed := none }
  (s.countBy 64 (Bed.status e) 0x09 1).putT (Bed.status e) 0x16 s.now

/-- The first stale reference since the flag was cleared is kept (R108). -/
def noteStale (s : State) (e : Nat) : State :=
  match s.staleRefs e with
  | [] => s
  | r :: _ => if bitOf (s.regN (Bed.status e) 0x02) 2 then s else s.put (Bed.status e) 0x12 r

/-- The list runs (R95, R102 to R104). -/
def periodRun (s : State) (e : Nat) (mism : List (Nat × Bool)) : PeriodRun :=
  runList e (Bed.outputPhase s.active e) mism (Bed.list s.active e)
    ⟨s, 0, if (s.staleRefs e).isEmpty then [] else [2], none⟩

/-- What a period leaves for its output phase; a withheld period hands nothing over (R104). -/
def periodClose (s : State) (e : Nat) (cycle : Nat) (flags : List Nat) (ended stale : Bool) : State :=
  let s := (s.put (Bed.status e) 0x14 cycle).periodFlags e flags
  let s := s.modEngine e fun n =>
    { n with withheld := ended, stalePeriod := stale, hand := if ended then [] else n.hand
             instOut := if ended then n.instOut else n.outputs
             regionOut := if ended then n.regionOut
               else n.signal.filter fun w => decide (w.1 < 0x100) && (Bed.writer s.active e w.1).isSome }
  let s := if s.cfgN 0x4001 0x01 / 0x100 = e ∧ s.cfgN 0x4001 0x01 ≠ 0xFFFF ∧ s.rotorForm = 1 ∧ stale then
      (s.flag 0x4004 0x01 3).modGf fun g => { g with syncPeriods := 0 } else s
  if ended then s.overrun e else s

/-- A period of engine e starts now. -/
def period (s : State) (e : Nat) (mism : List (Nat × Bool)) : State :=
  let s := s.periodOpen e
  let stale := !(s.staleRefs e).isEmpty
  let r := (s.noteStale e).periodRun e mism
  let s := r.s.periodClose e r.cycle r.flags r.ended.isSome stale
  (((s.endPreload e).staleLimit e stale).latency e)

/-! ## The output phase (R99, R100, R159 to R161) -/

/-- A telemetry entry (R523). -/
def tapBytes (s : State) (e inst : Nat) (words : List (BitVec 32)) : Bytes :=
  let b := toLe 1 e ++ toLe 1 inst ++ toLe 1 words.length ++ [0#8] ++ toLe 4 (s.reg (Bed.status e) 0x09 % p2 32) ++
    toLe 8 s.now.toNat ++ words.flatMap fun w => toLe 4 w.toNat
  b ++ List.replicate (64 - b.length) 0#8

/-- One hand-over reaches its target. A TAP posts its telemetry entry at the first hand-over and every DIV hand-overs from
there; a period that hands nothing over is not counted (DESIGN CHOICE, log entry 111; R161). -/
def handOne (s : State) (e : Nat) (h : HandOver) : State :=
  match h with
  | .duty _ false _ p duty =>
    let f := s.pcfg (0x5020 + p) 0x02
    if (s.furrow f).running then s.modFurrow f fun g => { g with duties := g.duties ++ [(p, duty, s.now)] } else s
  | .duty _ true l p duty =>
    let f := s.cfgN (remoteEntry l p) 0x02
    if (s.furrow f).running then s.modFurrow f fun g => { g with remoteDuties := g.remoteDuties ++ [(l * 24 + p, duty, s.now)] }
    else s
  | .count _ a n =>
    let s := s.modArm a fun g => { g with count := some n, runAt := s.now }
    if s.cfg (0x6300 + a) 0x01 = 1 then s.rakeRun a n s.now else s
  | .tap _ 1 base _ words =>
    let pos := s.regN 0x1700 0x20
    let s := (List.range words.length).foldl (fun s k => s.noteShared (pos % 8 * 64 + (base + k) % 64)) s
    let s := s.setShared ((List.range words.length).foldl (fun m k =>
      ins (pos % 8 * 64 + (base + k) % 64) (words.getD k 0#32, s.now) m) s.shared)
    if s.inArray then
      s.send (.runner 0xFF 0x10 ([((s.toArray s.now).toNat : Int), (base : Int), (words.length : Int)] ++ words.map puOf)) else s
  | .tap inst _ _ div words =>
    let k := peekN inst (s.engine e).tapPhase
    let s := s.modEngine e fun n => { n with tapPhase := ins inst (if div ≤ k + 1 then 0 else k + 1) n.tapPhase }
    if k = 0 then s.ringPost 13 ⟨0, [], s.tapBytes e inst words, s.now⟩ else s

/-- The published copy becomes visible, and the hand-overs take place. -/
def publish (s : State) (e : Nat) : State :=
  let hand := (s.engine e).hand
  let s := (s.noteCopy e).modEngine e fun n => { n with published := n.regionOut, instPub := n.instOut, pubCount := n.pubCount + 1, hand := [] }
  hand.foldl (fun s h => s.handOne e h) (s.put (Bed.status e) 0x11 0)

/-- The published word a binding names, and the engine that publishes it; none where the binding is 0xFFFF. -/
def boundEngine (s : State) (i k : Nat) : Option Nat :=
  let r := s.cfgN i k
  if r = 0xFFFF ∨ Bed.refSpace r ≠ 2 then none else some (Bed.refAddr r / 0x100)

/-- The engine and the instance an instance reference names (R195). -/
def boundInst (s : State) (i k : Nat) : Option (Nat × Nat) :=
  let r := s.cfgN i k
  if r = 0xFFFF then none else some (r / 0x100, r % 0x100)

/-- Output k of an instance at its engine's latest publication. -/
def publishedOut (s : State) (e b k : Nat) : BitVec 32 := peek (b * 8 + k) (s.engine e).instPub

/-! ## Trellis ready (R86) -/

/-- Signal and state memory of an engine cleared; what it has latched, and which inputs are new, stays (R86, R90). -/
def clearEngine (s : State) (e : Nat) : State :=
  s.modEngine e fun n => { n with signal := [], words := [], computed := [], tapPhase := [] }

/-- A period in progress at the entry to DORMANT is not published: an ASLEEP engine's outputs hold (R86). -/
def dropPeriods (s : State) : State :=
  (List.range 16).foldl (fun s e => s.modEngine e fun n => { n with inPeriod := false, hand := [] }) s

/-- The fast clocks stop: control engines are asleep until the next Trellis ready, once a period in progress has completed
(R86). -/
def sleepEngines (s : State) : State :=
  (List.range 16).foldl (fun s e => s.modEngine e fun n => { n with ready := false }) s

end State

end Sys2Proof.Machine
end

