-- ==== Sys2Proof/Machine/GridForming.lean ====
section
/-! DEFINITION. Grid forming: the dead bus, the energisation ramp, the sync check, breaker commands and islanding
detection (R194 to R221). -/

namespace Sys2Proof.Machine

namespace State

/-! ## The dead bus (R201, R202) -/

/-- DEADBUS_STATE and LOW_TIME; a change queues DEADBUS. -/
def setDeadbus (s : State) (new : Nat) (low : Int) : State :=
  let old := s.gf.deadbus
  let s := ((s.modGf fun g => { g with deadbus := new }).put 0x4002 0x20 new).put 0x4002 0x21 low
  if old = new then s else s.event 0x0610 [new, low]

/-- The bus is dead (R25). -/
def busDead (s : State) : Bool := decide (s.gf.deadbus = 2)

/-- The dead-bus evaluation at an output phase of engine e; an engine that is not ACTIVE evaluates nothing. -/
def deadbusEval (s : State) (e : Nat) (ok : Bool) : State :=
  if s.boundEngine 0x4001 0x04 ≠ some e then s
  else if !s.engineActive e then (s.modGf fun g => { g with lowRun := none }).setDeadbus 3 0
  else if !ok then ((s.modGf fun g => { g with lowRun := none }).setDeadbus 3 0).flag 0x4004 0x01 2
  else if puOf (s.published (s.cfgN 0x4001 0x04)) < 0x000CCCCD then
    let t0 := (s.engine e).start
    let from0 := s.gf.lowRun.getD t0
    let span := sdiff t0 from0
    (s.modGf fun g => { g with lowRun := some from0 }).setDeadbus (if (ms 200 : Int) ≤ span then 2 else 1) (wholeUs span)
  else (s.modGf fun g => { g with lowRun := none }).setDeadbus 0 0

/-- DEADBUS_STATE is unknown while nothing evaluates it. -/
def refreshDeadbus (s : State) : State :=
  match s.boundEngine 0x4001 0x04 with
  | some e => if s.engineActive e then s else (s.modGf fun g => { g with lowRun := none }).setDeadbus 3 0
  | none => (s.modGf fun g => { g with lowRun := none }).setDeadbus 3 0

/-! ## The ramp (R203, R204) -/

/-- RAMP_PERIODS and RAMP_TIME in ST64 counts of a bed; none where RAMP_REF is none or the rate does not rise. -/
def rampOf (bed : Store) : Option (Nat × Nat) :=
  let r := Bed.nat bed 0x4001 0x02
  let e := r / 0x100
  let b := r % 0x100
  let rise := (Bed.par bed e b 0x10).toNat
  if r = 0xFFFF ∨ rise = 0 then none
  else
    let n := (16777216 * (1 <<< Bed.whole bed e b 0x12) + rise - 1) / rise
    some (n, n * Bed.period bed e * 320)

/-- An output phase of the ramp's engine in ENERGIZE. -/
def rampEval (s : State) (e : Nat) (published : Bool) : State :=
  match s.boundInst 0x4001 0x02 with
  | some (e', b) =>
    if e' = e ∧ s.ctl.mode = .energize then
      let s := s.count 0x4002 0x24
      if published ∧ s.publishedOut e b 1 = 0#32 then s.modGf fun g => { g with rampDone := true } else s
    else s
  | none => s

/-! ## The sync check (R209) -/

/-- The snapshot of a pass: the signed differences, converter minus grid, and the dwell count. -/
def syncDiffs (s : State) : Int × Int × Int :=
  let x (k : Nat) : BitVec 32 := s.gf.syncIn.getD k 0#32
  (satS 32 (puOf (x 0) - puOf (x 1)), satS 32 (puOf (x 2) - puOf (x 3)), (x 4 - x 5).toInt)

/-- The sync check passes: SYNC_SNAPSHOT and SYNC_PASSED. The dwell count they carry is the SYNC's own count of periods with
its windows met, STATE0, and not the count of periods without STALE (DESIGN CHOICE, log entry 111; R209, R214). -/
def syncPassed (s : State) (e b : Nat) : State :=
  let d := s.syncDiffs
  let n := satU 32 ((look (b * 8) (s.engine e).words).getD 0)
  let s := s.putB 0x4002 0x28 (toLe 4 d.1 ++ toLe 4 d.2.1 ++ toLe 4 d.2.2 ++ toLe 4 n)
  (s.modGf fun g => { g with syncPass := true }).event 0x0612 [d.1, d.2.1, d.2.2, n]

/-- An output phase of the SYNC's engine. -/
def syncEval (s : State) (e : Nat) (ok : Bool) : State :=
  match s.boundInst 0x4001 0x03, s.gf.syncFrom with
  | some (e', b), some t =>
    if e' = e ∧ s.ctl.mode = .watch ∧ s.ctl.sub = .connectPending ∧ 0 ≤ sdiff (s.engine e).start t then
      let n := if ok then s.gf.syncPeriods + 1 else 0
      let s := s.modGf fun g => { g with syncPeriods := n }
      if (s.engine e).ready ∧ ok ∧ s.publishedOut e b 0 = ofPu onePu ∧
          periodsOf (Bed.par s.active e b 0x13) (Bed.period s.active e) ≤ n then
        if s.gf.syncPass then s else s.syncPassed e b
      else s.modGf fun g => { g with syncPass := false }
    else s
  | _, _ => s

/-- CONNECT is accepted: the window count of the SYNC starts at 0. -/
def syncStart (s : State) : State :=
  let s := s.modGf fun g => { g with syncPeriods := 0, syncFrom := some s.now, syncPass := false }
  match s.boundInst 0x4001 0x03 with
  | some (e, b) => s.modEngine e fun n => { n with words := del (b * 8) n.words }
  | none => s

/-- The sync check ends with CONNECT_PENDING. -/
def syncStop (s : State) : State := s.modGf fun g => { g with syncFrom := none, syncPass := false }

/-! ## Breaker commands (R210) -/

/-- A breaker command on a safety output: command 1 close, 2 open; pulsed or held. An output whose FUNCTION is not BREAKER
gives no command, and CLOCHE_SO_FAULT is queued (R387). -/
def breakerCmd (s : State) (out command : Nat) (pulsed : Bool) : State :=
  if 8 ≤ out then s
  else if s.soFunction out ≠ 2 then s.soCommand out true
  else
    let s := s.soCommand out true
    let s := if pulsed then
        s.modGf fun g =>
          { g with pulse := g.pulse.filter (fun p => decide (p.1 ≠ out)) ++ [(out, later s.now (ms (s.cfgN 0x4002 0x04) : Nat))] }
      else s
    (s.put 0x4002 0x26 command).event 0x0614 [out, command, s.cfg 0x4002 0x03]

/-- The close command. -/
def breakerClose (s : State) : State := s.breakerCmd (s.cfgN 0x4002 0x01) 1 (decide (s.cfg 0x4002 0x03 = 1))

/-- The open command. -/
def breakerOpen (s : State) : State := s.breakerCmd (s.cfgN 0x4002 0x02) 2 true

/-- A level close ends at entry to WATCH. -/
def breakerWatch (s : State) : State :=
  if s.cfg 0x4002 0x03 = 0 ∧ s.cfgN 0x4002 0x01 < 8 then s.soCommand (s.cfgN 0x4002 0x01) false else s

/-- At entry to HALT both outputs take their HALT levels, and a pulse in progress ends. -/
def breakerHalt (s : State) : State :=
  let outs := s.gf.pulse.map (·.1) ++ [s.cfgN 0x4002 0x01, s.cfgN 0x4002 0x02]
  let s := s.modGf fun g => { g with pulse := [] }
  outs.foldl (fun s k => if k < 8 then (s.soCommand k false).soWaitEnd k else s) s

/-! ## Islanding (R211 to R213) -/

/-- ISL_STATE shows the criteria met now. -/
def putIsl (s : State) : State := s.put 0x4003 0x20 (ofBits [s.gf.driftMet, s.gf.zMet] : Nat)

/-- The drift run ends outside FORM (R211). -/
def dropDrift (s : State) : State :=
  if s.ctl.mode = .form then s else (s.modGf fun g => { g with islRun := none, driftMet := false }).putIsl

/-- Whether the drift criterion and the impedance criterion contribute to a declaration now. With ISL_LOGIC = 1 both criteria
must be enabled: with one alone nothing is declared (DESIGN CHOICE, log entry 111; R213). -/
def islContrib (s : State) : Bool × Bool :=
  let en := s.cfgN 0x4003 0x01
  let d := bitOf en 0 && s.gf.driftMet && !s.gf.driftSpent
  let z := bitOf en 1 && s.gf.zMet && !s.gf.zSpent
  if s.cfg 0x4003 0x05 = 0 then (d, z)
  else
    let w := ms (s.cfgN 0x4003 0x06)
    let near := match s.gf.driftAt, s.gf.zAt with
      | some a, some b => decide ((sdiff a b).natAbs ≤ w)
      | _, _ => false
    let both := decide (en % 4 = 3) && near && !s.gf.driftSpent && !s.gf.zSpent
    (both, both)

/-- Islanding is declared when the criteria call for it, at an evaluation that meets one; a meeting that has contributed is
forgotten once its criterion has ceased to be met. -/
def declareIsland (s : State) : State :=
  let c := s.islContrib
  if !c.1 && !c.2 then s
  else
    let s := if c.1 then s.flag 0x4004 0x01 0 else s
    let s := if c.2 then s.flag 0x4004 0x01 1 else s
    let s := s.modGf fun g => { g with driftSpent := g.driftSpent || c.1, zSpent := g.zSpent || c.2 }
    let word := puOf (s.published (s.cfgN 0x4001 0x05))
    ((s.count 0x4003 0x21).putT 0x4003 0x22 s.now).event 0x0613 [(ofBits [c.1, c.2] : Nat), word, s.reg 0x4003 0x23]

/-- The frequency-drift criterion at an output phase. -/
def driftEval (s : State) (e : Nat) (ok : Bool) : State :=
  if s.boundEngine 0x4001 0x05 ≠ some e then s
  else if s.ctl.mode ≠ .form ∨ !ok then (s.modGf fun g => { g with islRun := none, driftMet := false }).putIsl
  else
    let d := ((puOf (s.published (s.cfgN 0x4001 0x05)) - onePu).natAbs : Int)
    if d ≤ s.cfg 0x4003 0x02 then
      (s.modGf fun g =>
        { g with islRun := none, driftMet := false, driftSpent := false, driftAt := if g.driftSpent then none else g.driftAt }).putIsl
    else
      let t0 := (s.engine e).start
      let from0 := s.gf.islRun.getD t0
      let met := decide ((ms (s.cfgN 0x4003 0x03) : Int) ≤ sdiff t0 from0)
      let s := s.modGf fun g =>
        { g with islRun := some from0, driftMet := met, driftAt := if met then some s.now else g.driftAt }
      (s.putIsl).declareIsland

/-- The impedance criterion at a completed Thevenin estimate with |Z|^2 in units of 2^-48. The ratio to a previous
estimate of |Z| = 0 is open in the spec: a free value. -/
def impedanceEval (s : State) (zz : Nat) : State :=
  match s.gf.lastZ with
  | none => s.modGf fun g => { g with lastZ := some zz }
  | some old =>
    let d := s.draw
    let ratio : Int := if old = 0 then (d.1 % 2147483648 : Nat) else min 2147483647 (roundSqrt (zz * (1 <<< 48)) old : Nat)
    let s := if old = 0 then d.2 else s
    let jump := s.cfgN 0x4003 0x04
    let met := if old = 0 then decide ((jump : Int) ≤ ratio) else decide (jump * jump * old ≤ zz * (1 <<< 48))
    let s := s.modGf fun g =>
      { g with lastZ := some zz, zMet := met, zSpent := g.zSpent && met
               zAt := if met then some s.now else if g.zSpent then none else g.zAt }
    let s := (s.put 0x4003 0x23 ratio).putIsl
    if met then s.declareIsland else s

end State

/-! ## Commands -/

/-- BREAKER_PULSE has elapsed on an output (R210). -/
def execBreakerPulseEnd (k : Fin 8) (s : State) : Host.Outcome State Fault Refusal :=
  if s.breakerPulse k then
    let s := s.modGf fun g => { g with pulse := g.pulse.filter fun p => decide (p.1 ≠ k.val) }
    .next ((s.soCommand k false).soWaitEnd k)
  else .next s

end Sys2Proof.Machine
end

