-- ==== Sys2Proof/Machine/Ride.lean ====
section
/-! DEFINITION. Ride-through: entry criteria, the envelope and recovery (R222 to R244). -/

namespace Sys2Proof.Machine

/-- The points of a curve: time in us and voltage (R231). -/
def curvePoints (b : Bytes) : List (Nat × Int) :=
  (List.range (b.length / 8)).map fun i => (leNat (slice b (8 * i) 4), leInt (slice b (8 * i + 4) 4))

/-- A curve's value at episode time t in ST64 counts, as v + num / den: linear between neighbouring points, the later of
two points of one time, the last point's voltage beyond it. -/
def curveAt : List (Nat × Int) → Int → Int × Int × Int
  | [], _ => (0, 0, 1)
  | [p], _ => (p.2, 0, 1)
  | p :: q :: r, t =>
    if (us q.1 : Int) ≤ t then curveAt (q :: r) t
    else (p.2, (q.2 - p.2) * (t - us p.1), (us q.1 : Int) - us p.1)

/-- A word lies below a curve value. -/
def belowCurve (w : Int) (c : Int × Int × Int) : Bool := decide ((w - c.1) * c.2.2 < c.2.1)

/-- A word lies above a curve value. -/
def aboveCurve (w : Int) (c : Int × Int × Int) : Bool := decide (c.2.1 < (w - c.1) * c.2.2)

/-- The curve value as a PU32 code. -/
def curveCode (c : Int × Int × Int) : Int := c.1 + roundQuot c.2.1 c.2.2

/-- Two beds agree on ride-through (R237). -/
def Bed.sameRide (a b : Store) : Bool := Bed.same a b 0x4010 1 0x0C && Bed.same a b 0x4011 1 2

namespace State

/-- A criterion presents the RIDE entry event; the voltage cause is recorded before the current cause, and either before
a following-error supervisor's (R227). -/
def presentRide (s : State) (cause : Nat) (word : Int) (te : ST64) : State :=
  match s.ride.entry with
  | some (c, _, _) => if cause ≤ 2 ∧ 3 ≤ c ∨ c = 4 then s.modRide fun r => { r with entry := some (cause, word, te) } else s
  | none => s.modRide fun r => { r with entry := some (cause, word, te) }

/-- The voltage criterion at one publication in FORM (R225). -/
def voltageEval (s : State) (word : Int) (t0 : ST64) : State :=
  let under := decide (word < s.cfg 0x4010 0x03)
  if under || decide (s.cfg 0x4010 0x04 < word) then
    let from0 := s.ride.vRun.getD t0
    let s := s.modRide fun r => { r with vRun := some from0 }
    if (us (s.cfgN 0x4010 0x07) : Int) ≤ sdiff t0 from0 then s.presentRide (if under then 1 else 2) word t0 else s
  else s.modRide fun r => { r with vRun := none }

/-- The reason for which the envelope is left, if it is: 1 under, 2 over, 3 time (R232). -/
def envelopeReason (s : State) (word t : Int) : Option Nat :=
  if belowCurve word (curveAt (curvePoints (s.cfgB 0x4011 0x01)) t) then some 1
  else if aboveCurve word (curveAt (curvePoints (s.cfgB 0x4011 0x02)) t) then some 2
  else if (ms (s.cfgN 0x4010 0x0B) : Int) < t then some 3
  else none

/-- The envelope is left: recorded, counted, queued and presented. -/
def leaveEnvelope (s : State) (reason : Nat) (word t : Int) : State :=
  if s.ride.exit.isSome then s
  else
    let c : Int := if reason = 3 then 0 else curveCode (curveAt (curvePoints (s.cfgB 0x4011 reason)) t)
    let s := (s.put 0x4012 0x09 reason).putB 0x4012 0x0A (toLe 4 (wholeUs t) ++ toLe 4 word ++ toLe 4 c)
    let s := (s.count 0x4012 0x08).event 0x0713 [reason, wholeUs t, word, c]
    s.modRide fun r => { r with exit := some reason }

/-- The envelope and the recovery condition at one publication in RIDE (R232, R233). -/
def rideModeEval (s : State) (word : Int) (t0 : ST64) : State :=
  let t := match s.ride.episode with | some te => sdiff t0 te | none => 0
  let s := match s.envelopeReason word t with
    | some r => s.leaveEnvelope r word t
    | none => s
  if s.cfg 0x4010 0x05 ≤ word ∧ word ≤ s.cfg 0x4010 0x06 then
    let from0 := s.ride.recRun.getD t0
    let s := s.modRide fun r => { r with recRun := some from0 }
    if (ms (s.cfgN 0x4010 0x09) : Int) ≤ sdiff t0 from0 then s.modRide fun r => { r with recovery := true } else s
  else s.modRide fun r => { r with recRun := none }

/-- EPISODE_TIME and MIN_V follow each evaluated publication of an episode (R243). -/
def episodeEval (s : State) (word : Int) (t0 : ST64) : State :=
  match s.ride.episode with
  | some te =>
    let s := s.put 0x4012 0x03 (wholeUs (sdiff t0 te))
    if word < s.reg 0x4012 0x04 then s.put 0x4012 0x04 word else s
  | none => s

/-- Ride-through at an output phase of the engine that publishes RIDE_V_REF (R223). -/
def rideEval (s : State) (e : Nat) (ok : Bool) : State :=
  if s.boundEngine 0x4010 0x01 ≠ some e ∨ !ok then s
  else
    let word := puOf (s.published (s.cfgN 0x4010 0x01))
    let t0 := (s.engine e).start
    let s := (s.modRide fun r => { r with lastWord := word }).episodeEval word t0
    match s.ctl.mode with
    | .form => (s.modRide fun r => { r with recRun := none }).voltageEval word t0
    | .ride => (s.modRide fun r => { r with vRun := none }).rideModeEval word t0
    | _ => s.modRide fun r => { r with vRun := none, recRun := none }

/-- The ILIM named by LIMIT_REF published y4 = 1.0 at its latest output phase (R226, R253). -/
def limitEngaged (s : State) : Bool :=
  match s.boundInst 0x4010 0x02 with
  | some (e, b) => decide (s.publishedOut e b 4 = ofPu onePu)
  | none => false

/-- The current criterion at an output phase of the engine that holds LIMIT_REF's ILIM (R226). -/
def limitEval (s : State) (e : Nat) (ok : Bool) : State :=
  match s.boundInst 0x4010 0x02 with
  | some (e', _) =>
    if e' ≠ e then s
    else
      if !ok then s
      else if s.ctl.mode = .form ∧ s.limitEngaged then
        let t0 := (s.engine e).start
        let from0 := s.ride.iRun.getD t0
        let s := s.modRide fun r => { r with iRun := some from0 }
        let word := if s.cfgN 0x4010 0x01 = 0xFFFF then 0 else s.ride.lastWord
        if (us (s.cfgN 0x4010 0x08) : Int) < sdiff t0 from0 then s.presentRide 3 word t0 else s
      else s.modRide fun r => { r with iRun := none }
  | none => s

/-- Entry runs outside FORM, and recovery runs outside RIDE, are discarded (R227, R233). -/
def dropRuns (s : State) : State :=
  s.modRide fun r =>
    { r with vRun := if s.ctl.mode = .form then r.vRun else none, iRun := if s.ctl.mode = .form then r.iRun else none
             recRun := if s.ctl.mode = .ride then r.recRun else none
             recovery := r.recovery && decide (s.ctl.mode = .ride)
             entry := if s.ctl.mode = .form then r.entry else none
             exit := if s.ctl.mode = .ride then r.exit else none }

/-- RIDE is entered for a cause (R224, R228). -/
def rideEntered (s : State) (cause : Nat) (word : Int) (te : ST64) : State :=
  let again := s.ride.episode.isSome
  let s := if again then s.flag 0x4013 0x01 0
    else ((s.modRide fun r => { r with episode := some te }).putT 0x4012 0x02 te).put 0x4012 0x04 word
  let s := (s.put 0x4012 0x01 cause).count 0x4012 0x06
  let s := s.modRide fun r => { r with rampStart := none, entry := none }
  s.event 0x0710 [cause, word, again.toNat, ((s.ride.episode.getD te).toNat : Int)]

/-- The recovery transition (R233, R234). -/
def rideRecovered (s : State) : State :=
  let s := (s.count 0x4012 0x07).modRide fun r => { r with rampStart := some s.now, recovery := false }
  s.event 0x0711 [s.reg 0x4012 0x03, s.reg 0x4012 0x04]

/-- The episode ends; a completed recovery ramp queues RIDE_COMPLETE (R224, R235). -/
def episodeEnd (s : State) (complete : Bool) : State :=
  let te := s.ride.episode
  let s := s.modRide fun r => { r with episode := none, rampStart := none }
  match te with
  | some t => if complete then s.event 0x0712 [wholeUs (sdiff s.now t)] else s
  | none => s

/-- RECOVER_FRACTION at a period of the engine that publishes RIDE_V_REF (R234). -/
def putFraction (s : State) (e : Nat) : State :=
  if s.boundEngine 0x4010 0x01 ≠ some e then s
  else match s.recoverPhi with
    | some (t, r) => s.put 0x4012 0x05 (if r ≤ t then onePu else roundDiv (t * onePu) r.toNat)
    | none => s

end State

end Sys2Proof.Machine
end

