-- ==== Sys2Proof/Machine/Sounder.lean ====
section
/-! DEFINITION. The impedance sounder and bounded adaptation (R245 to R273). -/

namespace Sys2Proof.Machine

/-! ## Figures of a bed -/

/-- The bin frequencies f_k = 10 Hz * 500^(k/63) in uHz (R248), each rounded under R10. -/
def binFreqs : List Nat :=
  [10000000, 11036740, 12180962, 13443810, 14837583, 16375854, 18073604, 19947366] ++
  [22015388, 24297811, 26816861, 29597071, 32665516, 36052079, 39789741, 43914901] ++
  [48467732, 53492574, 59038360, 65159101, 71914402, 79370053, 87598660, 96680359] ++
  [106703594, 117765978, 129975243, 143450290, 158322349, 174736253, 192851851, 212845565] ++
  [234912106, 259266373, 286145543, 315811383, 348552798, 384688645, 424570838, 468587776] ++
  [517168124, 570784988, 629960525, 695271024, 767352520, 846906990, 934709187, 1031614184] ++
  [1138565706, 1256605315, 1386882557, 1530666156, 1689356369, 1864498624, 2057798569, 2271138684] ++
  [2506596612, 2766465394, 3053275801, 3369820977, 3719183643, 4104766118, 4530323453, 5000000000]

/-- The terms below x^n of the feedback polynomial of order n (R246). -/
def chipTaps : Nat → List Nat
  | 11 => [9, 0] | 12 => [6, 4, 1, 0] | 13 => [4, 3, 1, 0] | 14 => [5, 3, 1, 0] | 15 => [14, 0]
  | 16 => [15, 13, 4, 0] | 17 => [14, 0] | _ => []

/-- The chip register after one boundary (R246). -/
def chipShift (n reg : Nat) : Nat :=
  let b := (chipTaps n).foldl (fun a t => a ^^ bitOf reg t) false
  (2 * reg + b.toNat) % (1 <<< n)

namespace Bed

/-- The engine and instance of PROBE_REF (R195). -/
def probe (bed : Store) : Option (Nat × Nat) :=
  let r := nat bed 0x4020 0x01
  if r = 0xFFFF then none else some (r / 0x100, r % 0x100)

/-- Periods of the probe's engine in one sequence period; 0 without a probe (R247). -/
def seqPeriods (bed : Store) : Nat :=
  match probe bed with
  | some (e, b) => ((1 <<< whole bed e b 0x10) - 1) * whole bed e b 0x12
  | none => 0

/-- Periods of the probe's engine in one estimate, the lead-in included (R247). -/
def estPeriods (bed : Store) : Nat := (nat bed 0x4020 0x04 + 1) * seqPeriods bed

/-- SEQ_PERIOD in cycles; 0 without a probe (R247). -/
def seqCycles (bed : Store) : Nat :=
  match probe bed with
  | some (e, _) => seqPeriods bed * period bed e
  | none => 0

/-- EST_TIME in cycles (R247). -/
def estCycles (bed : Store) : Nat := (nat bed 0x4020 0x04 + 1) * seqCycles bed

/-- A bin meets the first two limits of R248: f >= 2 / SEQ_PERIOD and f <= 0.45 / (CHIP * Ts), at 1.25 ns a cycle. -/
def binEligible (bed : Store) (f : Nat) : Bool :=
  match probe bed with
  | some (e, b) =>
    decide (1600000000000000 ≤ f * seqCycles bed) &&
      decide (f * (whole bed e b 0x12 * period bed e) * 100 ≤ 36000000000000000)
  | none => false

/-- BINS_ELIGIBLE. -/
def binsEligible (bed : Store) : Nat := (binFreqs.filter (binEligible bed)).length

/-- SCR point j; VALUES[k][j]; bounds and target of k (R256, R258). -/
def scrPoint (bed : Store) (j : Nat) : Int := leInt (slice (bytes bed 0x4024 0x01) (4 * j) 4)
def soundValue (bed : Store) (k j : Nat) : Int := leInt (slice (bytes bed 0x4024 0x02) (32 * k + 4 * j) 4)
def lowBound (bed : Store) (k : Nat) : Int := num bed 0x4023 (0x09 + k)
def highBound (bed : Store) (k : Nat) : Int := num bed 0x4023 (0x11 + k)

/-- TARGETk as engine, instance and sub-index. -/
def target (bed : Store) (k : Nat) : Option (Nat × Nat × Nat) :=
  let t := nat bed 0x4023 (0x01 + k)
  if t = 0xFFFFFFFF then none else some (t / 0x10000, t / 0x100 % 256, t % 256)

/-- The targets that are set. -/
def targets (bed : Store) : List Nat := (List.range 8).filter fun k => (target bed k).isSome

/-- A target names a parameter of R257. -/
def targetOk (bed : Store) (k : Nat) : Bool :=
  match target bed k with
  | some (e, b, p) =>
    decide (e < 16 ∧ b < 240) && (match type bed e b with
      | 23 => decide (0x10 ≤ p ∧ p ≤ 0x13)
      | 21 => decide (p = 0x12 ∨ p = 0x13)
      | 22 => decide (p = 0x10)
      | _ => false)
  | none => true

/-- A word of SPACE 2 that an instance of the probe's engine writes. -/
def measOk (bed : Store) (e k : Nat) : Bool :=
  match refWriter bed (nat bed 0x4020 k) with
  | some (e', _) => decide (e' = e) && !refFresh (nat bed 0x4020 k)
  | none => false

/-- The sounder's checks of a bed: 0, or the code that refuses it (R247, R257, R258). The table is checked where a target is
set or SCR_POINTS does not hold its default of zeros, and the bindings where a probe is bound (DESIGN CHOICE, log entry 43). -/
def soundCheck (bed : Store) : Nat :=
  let ts := targets bed
  let probeBad := match probe bed with
    | some (e, b) =>
      !(decide (e < 16 ∧ b < 240 ∧ type bed e b = 30) && measOk bed e 0x02 && measOk bed e 0x03) ||
        !decide (400000000 ≤ estCycles bed ∧ estCycles bed ≤ 24000000000)
    | none => false
  let used := !ts.isEmpty || (List.range 8).any fun j => decide (scrPoint bed j ≠ 0)
  let tableBad := used && (decide (scrPoint bed 0 ≤ 0) ||
    (List.range 7).any fun j => decide (scrPoint bed (j + 1) ≤ scrPoint bed j))
  let boundsBad := (List.range 8).any fun k => decide (highBound bed k < lowBound bed k)
  let twice := (List.range 8).any fun k => (List.range k).any fun j =>
    (target bed k).isSome && decide (target bed k = target bed j)
  if twice || !(ts.all (targetOk bed)) then 0x0C81
  else if tableBad || boundsBad || decide (nat bed 0x4020 0x06 ≤ nat bed 0x4020 0x05) || probeBad then 0x0C80
  else 0

end Bed

/-! ## Estimates -/

/-- The angle whose tangent is y / x in the first quadrant, in half ANG32 codes of 2^-33 turn, rounded down. -/
def quadAngle (x y : Nat) : Nat → Nat → Nat
  | 0, a => a
  | k + 1, a =>
    let m := a + (1 <<< k)
    let rad (h : Nat) : Int := (h : Int) * twoPi60 / p2 33
    quadAngle x y k (if m ≤ 0x80000000 ∧ sinRad (rad m) * x ≤ sinRad (rad (0x80000000 - m)) * y then m else a)

/-- The angle of re + j im as the nearest ANG32 code (R10). -/
def angleCode (re im : Int) : BitVec 32 :=
  let a := (quadAngle re.natAbs im.natAbs 32 0 + 1) / 2
  let t : Int := if 0 ≤ re then (a : Int) else 0x80000000 - a
  BitVec.ofInt 32 (if 0 ≤ im then t else -t)

/-- One bin: Z as PU32 codes and the coherence (R248). -/
structure BinResult where
  valid : Bool
  f : Nat
  re : Int
  im : Int
  coh : Int

/-- The bins judged: coherence is 0 outside the first two limits (R248). -/
def judgeBins (bed : Store) (spectrum : Nat → Int × Int × Int) : List BinResult :=
  (List.range 64).map fun k =>
    let f := binFreqs.getD k 0
    let z := spectrum k
    let el := Bed.binEligible bed f
    let coh := if el then clamp 0 onePu z.2.2 else 0
    ⟨el && decide (Bed.num bed 0x4020 0x07 ≤ coh), f, z.1, z.2.1, coh⟩

/-- A bin's 12 bytes of SPECTRUM. -/
def binBytes (b : BinResult) : Bytes :=
  if b.valid then
    toLe 4 (satS 32 (roundSqrt (b.re * b.re + b.im * b.im).toNat 1 : Nat)) ++ toLe 4 (angleCode b.re b.im).toInt ++ toLe 4 b.coh
  else toLe 4 0 ++ toLe 4 0 ++ toLe 4 b.coh

/-- The bins the fit takes (R249). -/
def fitBins (bed : Store) (l : List BinResult) : List BinResult :=
  l.filter fun b => b.valid && decide (Bed.nat bed 0x4020 0x05 * 1000 ≤ b.f ∧ b.f ≤ Bed.nat bed 0x4020 0x06 * 1000)

/-- The weighted least-squares fit at a nominal frequency in mHz: R and X in PU32 codes; none where every weight is 0
(R249). -/
def thevFit (fBase : Nat) (l : List BinResult) : Option (Int × Int) :=
  let fb : Int := (fBase * 1000 : Nat)
  let sw := (l.map fun b => b.coh).sum
  let sr := (l.map fun b => b.coh * b.re).sum
  let si := (l.map fun b => b.coh * b.im * (b.f : Int) * fb).sum
  let sf := (l.map fun b => b.coh * (b.f : Int) * (b.f : Int)).sum
  if sw ≤ 0 then none else some (satS 32 (roundQuot sr sw), satS 32 (roundQuot si sf))

/-- SCR = 1 / |Z|, saturating at 127 (R249). -/
def scrOf (r x : Int) : Int :=
  let zz := (r * r + x * x).toNat
  if zz = 0 then 127 * onePu else min (127 * onePu) (roundSqrt (1 <<< 96) zz : Nat)

namespace State

/-- PAUSE (R253). -/
def pauseBits (s : State) : Nat :=
  ofBits [decide (s.ctl.mode ≠ .form ∨ s.ctl.sub ≠ .none), decide (s.reg 0x1311 0x21 = 0),
    s.limitEngaged, decide (s.reg 0x4021 0x02 = 0)]

/-- An estimate in progress is abandoned (R254). -/
def abandonEstimate (s : State) (reason : Nat) : State :=
  if s.sounder.active then
    let s := s.modSounder fun n => { n with active := false, samples := [] }
    ((s.count 0x4021 0x06).flag 0x4021 0x0C 2).event 0x0810 [reason, s.pauseBits, s.sounder.chips]
  else s

/-- A pause reason that holds now is kept until the next cycle 0 of the probe's engine, also where it ends before (R253,
R254). -/
def notePause (s : State) : State :=
  if s.sounder.active && decide (s.pauseBits ≠ 0) then s.modSounder fun n => { n with pauseSeen := true } else s

/-- V and I are sampled at an output phase of the probe's engine; those of the lead-in are not correlated (R245, R247). -/
def soundSample (s : State) (e : Nat) : State :=
  match Bed.probe s.active with
  | some (e', b) =>
    if e' ≠ e ∨ s.sounder.active = false then s
    else
      let x (k : Nat) : Int := puOf (s.published (s.cfgN 0x4020 k))
      let chip := bitOf s.sounder.register (Bed.whole s.active e b 0x10 - 1)
      s.modSounder fun n =>
        { n with sampled := n.sampled + 1
                 samples := if n.sampled < Bed.seqPeriods s.active then n.samples else n.samples ++ [(chip, x 0x02, x 0x03)] }
  | none => s

/-- Cycle 0 of a period of the probe's engine: a pause acts, and the chip register shifts at a chip boundary (R246,
R253, R254). -/
def sounderPeriod (s : State) (e : Nat) : State :=
  match Bed.probe s.active with
  | some (e', b) =>
    if e' ≠ e ∨ s.sounder.active = false then s
    else if s.sounder.pauseSeen || decide (s.pauseBits ≠ 0) then s.abandonEstimate 1
    else if Bed.whole s.active e b 0x12 ≤ s.sounder.chipPeriod then
      let s := s.modSounder fun n =>
        { n with register := chipShift (Bed.whole s.active e b 0x10) n.register, chipPeriod := 1, chips := n.chips + 1 }
      s.put 0x4021 0x04 (satU 32 s.sounder.chips)
    else s.modSounder fun n => { n with chipPeriod := n.chipPeriod + 1 }
  | none => s

/-- A withheld or stale period of the probe's engine abandons the estimate (R254). -/
def sounderPeriodEnd (s : State) (e : Nat) : State :=
  match Bed.probe s.active with
  | some (e', _) =>
    if e' ≠ e then s
    else if (s.engine e).withheld then s.abandonEstimate 2
    else if (s.engine e).stalePeriod then s.abandonEstimate 3
    else s
  | none => s

/-- SNAPSHOT (R272) with a STATUS. -/
def soundSnapshot (s : State) (status : Nat) : Bytes :=
  toLe 4 (s.reg 0x4022 0x01) ++ toLe 1 status ++ toLe 1 (s.reg 0x4022 0x06) ++ toLe 1 (s.reg 0x4022 0x07) ++ [0#8] ++
    toLe 4 (s.reg 0x4022 0x03) ++ toLe 4 (s.reg 0x4022 0x04) ++ toLe 4 (s.reg 0x4022 0x05) ++ toLe 8 (s.reg 0x4022 0x08)

/-! ## Decisions (R259 to R262) -/

/-- The largest entry whose SCR point is at or below S; 0 below them all. -/
def scrEntry (s : State) (S : Int) : Nat :=
  (List.range 8).foldl (fun j k => if Bed.scrPoint s.active k ≤ S then k else j) 0

/-- The entry R259 selects, the applied entry where nothing changes. -/
def stepEntry (s : State) (S : Int) : Nat :=
  let j' := s.scrEntry S
  let j := s.regN 0x4021 0x07
  let p (k : Nat) : Int := Bed.scrPoint s.active k
  if j = 0xFF ∨ !s.sounder.appliedSince then j'
  else if j < j' then (if p j' - p (j' - 1) < 10 * (S - p j') then j' else max j (j' - 1))
  else if j' < j then (if p (j' + 1) - p j' < 10 * (p (j' + 1) - S) then j' else min j (j' + 1))
  else j

/-- The lower entry of the interval that encloses S; the end interval beyond the ends (R260). -/
def fullEntry (s : State) (S : Int) : Nat := min 6 (s.scrEntry S)

/-- VALUES[k] at S in FULL (R260). -/
def fullValue (s : State) (k : Nat) (S : Int) : Int :=
  let i := s.fullEntry S
  let a := Bed.scrPoint s.active i
  let b := Bed.scrPoint s.active (i + 1)
  let x := Bed.soundValue s.active k i
  let y := Bed.soundValue s.active k (i + 1)
  if S ≤ a then x else if b ≤ S then y else x + roundQuot ((y - x) * (S - a)) (b - a)

/-- A target's new value in FULL: it changes only beyond a tenth of the step between its entries (R260). -/
def fullMoves (s : State) (k : Nat) (S v : Int) : Bool :=
  let i := s.fullEntry S
  let d := (Bed.soundValue s.active k (i + 1) - Bed.soundValue s.active k i).natAbs
  match look k s.sounder.targets with
  | some old => decide (d < 10 * (v - old).natAbs)
  | none => true

/-- A table value clamped to the owner's bounds, with the effects of a clamp (R262). -/
def clampTarget (s : State) (k : Nat) (v : Int) : State × Int :=
  let w := clamp (Bed.lowBound s.active k) (Bed.highBound s.active k) v
  if w = v then (s, v) else (((s.flag 0x4021 0x0C 0).count 0x4021 0x0B).event 0x0812 [k, v, w], w)

/-- APPLIED_VALUES (R273). -/
def putApplied (s : State) : State :=
  s.putB 0x4024 0x20 ((List.range 8).flatMap fun j => toLe 4 ((look j s.sounder.targets).getD 0))

/-- One target's value is written to the active bed and to APPLIED_VALUES; whether it changed (R262, R273). -/
def applyTarget (s : State) (k : Nat) (v : Int) : State × Bool :=
  match Bed.target s.active k with
  | some (e, b, p) =>
    let r := s.clampTarget k v
    let changed := decide (Bed.par r.1.active e b p ≠ r.2)
    let s := r.1.putCfg (Bed.inst e b) p r.2
    let s := s.modSounder fun n => { n with targets := ins k r.2 n.targets }
    (s.putApplied, changed)
  | none => (s, false)

/-- The decision at a completed Thevenin estimate whose SCR is S. -/
def soundDecide (s : State) (S : Int) : State :=
  let mode := s.reg 0x4021 0x02
  let old := s.regN 0x4021 0x07
  let new := if mode = 3 then s.fullEntry S else s.stepEntry S
  let s := s.put 0x4021 0x08 new
  let open_ := decide ((ms (s.cfgN 0x4020 0x08) : Int) ≤ sdiff s.now s.sounder.dwellFrom)
  let moves (k : Nat) : Option Int :=
    if mode = 3 then (let v := s.fullValue k S; if s.fullMoves k S v then some v else none)
    else some (Bed.soundValue s.active k new)
  let due := (Bed.targets s.active).filterMap fun k => (moves k).map fun v => (k, v)
  if mode < 2 ∨ !open_ ∨ (mode = 2 ∧ s.sounder.appliedSince ∧ new = old) then s
  else
    let r := due.foldl (fun (a : State × Bool) w =>
      let x := a.1.applyTarget w.1 w.2
      (x.1, a.2 || x.2)) (s, false)
    let s := (r.1.put 0x4021 0x07 new).modSounder fun n => { n with appliedSince := true }
    if r.2 then
      let s := s.modSounder fun n => { n with dwellFrom := s.now }
      (s.putT 0x4021 0x09 s.now).event 0x0811 [old, new, S, mode]
    else s

/-- The result object is replaced (R249, R250). -/
def soundResult (s : State) (bins : List BinResult) : State × Bool :=
  let fit := fitBins s.active bins
  let valid := decide (4 ≤ fit.length)
  let r := thevFit (s.regN 0x4000 0x03) fit
  let d := s.draw
  let e := d.2.draw
  let rx : Int × Int := if !valid then (0, 0) else match r with
    | some v => v
    | none => (satS 32 (d.1 : Int), satS 32 (e.1 : Int))
  let s := if valid ∧ r = none then e.2 else s
  let s := (((s.advance 0x4022 0x01).put 0x4022 0x02 1).put 0x4022 0x03 rx.1).put 0x4022 0x04 rx.2
  let s := s.put 0x4022 0x05 (if valid then scrOf rx.1 rx.2 else 0)
  let s := (s.put 0x4022 0x06 valid.toNat).put 0x4022 0x07 (bins.filter (·.valid)).length
  let s := (s.putT 0x4022 0x08 s.now).putB 0x4022 0x09 (bins.flatMap binBytes)
  (if valid then s else s.flag 0x4021 0x0C 1, valid)

/-- An estimate completes (R250, R252, R259). -/
def completeEstimate (s : State) : State :=
  let r := s.soundResult (judgeBins s.active (Config.spectrum s.sounder.samples))
  let s := (r.1.count 0x4021 0x05).modSounder fun n =>
    { n with active := false, samples := [], latestCompletion := some s.now, freshSince := true }
  let s := if r.2 then s.soundDecide (s.reg 0x4022 0x05) else s
  let s := s.ringPost 19 ⟨0, [], s.soundSnapshot 1 ++ toLe 1 (s.reg 0x4021 0x07) ++ List.replicate 35 0#8, s.now⟩
  if r.2 then
    let x := s.reg 0x4022 0x03
    let y := s.reg 0x4022 0x04
    s.impedanceEval (x * x + y * y).toNat
  else s

/-- The conditions of R255 on a mode: 0, or 0x0C82. -/
def soundModeOwn (s : State) (m : Int) : Nat :=
  if (m ≠ 0 ∧ s.cfg 0x4020 0x01 = 0xFFFF) ∨ (2 ≤ m ∧ (Bed.targets s.active).isEmpty) then 0x0C82 else 0

/-- MODE_IN_FORCE takes a mode (R251, R255, R261). -/
def soundMode (s : State) (m : Nat) : State :=
  let old := s.regN 0x4021 0x02
  let s := (s.put 0x4021 0x02 m).event 0x0813 [old, m]
  let s := if old = 0 ∧ m ≠ 0 then (s.put 0x4022 0x02 0).modSounder fun n => { n with freshSince := false } else s
  let s := s.notePause
  if m ≠ old ∧ 2 ≤ m then s.modSounder fun n => { n with dwellFrom := s.now, appliedSince := false } else s

end State

/-! ## Commands -/

/-- An estimate starts (R247). -/
def execEstimateStart (s : State) : Host.Outcome State Fault Refusal :=
  match Bed.probe s.active with
  | some (e, b) =>
    if s.sounder.active ∨ s.pauseBits ≠ 0 then .next s
    else .next ((s.modSounder fun n =>
      { n with active := true, register := (1 <<< Bed.whole s.active e b 0x10) - 1, chipPeriod := 0, chips := 0
               pauseSeen := false, sampled := 0, samples := [] }).put 0x4021 0x04 0)
  | none => .next s

/-- The estimate completes once the response to its last chip is sampled, at an output phase of engine e (R245, R247 to
R252, R259). Nothing completes at the output phase of an engine that is not the probe's. -/
def execEstimateComplete (e : Fin 16) (s : State) : Host.Outcome State Fault Refusal :=
  let own := (Bed.probe s.active).any fun p => decide (p.1 = e.val)
  .next (if s.sounder.active ∧ own ∧ s.sounder.sampled = Bed.estPeriods s.active then s.completeEstimate else s)

/-- A write of MODE (R255). -/
def execSounderModeWrite (req : Requester) (value : Int) (s : State) : Host.Outcome State Fault Refusal :=
  .next (guardedWrite req 0x4021 0x01 engineers true (s.soundModeOwn value) (.num value)
    (fun s => (s.put 0x4021 0x01 value).modSounder fun n => { n with modePending := some value.toNat, modeKept := false }) s)

/-- The next beat boundary: the written mode applies, and a mode kept across a warm reset is checked again (R255, R270). -/
def execSounderModeApply (s : State) : Host.Outcome State Fault Refusal :=
  match s.sounder.modePending with
  | some m =>
    let kept := s.sounder.modeKept
    let s := s.modSounder fun n => { n with modePending := none, modeKept := false }
    if kept ∧ s.soundModeOwn m ≠ 0 then .next ((s.put 0x4021 0x01 0).soundMode 0) else .next (s.soundMode m)
  | none => .next s

/-- The latest completion lies 2 * EST_TIME in the past (R251). -/
def execSounderResultStale (s : State) : Host.Outcome State Fault Refusal :=
  .next (if s.reg 0x4022 0x02 = 1 then s.put 0x4022 0x02 2 else s)

end Sys2Proof.Machine
end

