-- ==== Sys2Proof/Machine/Engines.lean ====
section
/-! DEFINITION. The engines' commands: periods, output phases, Trellis ready and the beat origin (R84 to R108). -/

namespace Sys2Proof.Machine

namespace State

/-- What one output phase brings about beside the publication: grid-forming and ride-through supervision, and the sounder's
sample. ride says that ride-through judges this period (R237). -/
def supervise (s : State) (e : Nat) (published ok ride : Bool) : State :=
  let s := (((s.deadbusEval e ok).driftEval e ok).rampEval e published).syncEval e ok
  let s := if ride then (s.rideEval e ok).limitEval e ok else s
  if published then s.notePause.soundSample e else s

/-- The output phase of a period in progress, under the bed the period started under (R99, R104, R106). A period that started
before a swap of the ride-through settings is judged under neither (R237). -/
def outputPhase (s : State) (e : Nat) : State :=
  let n := s.engine e
  let published := !n.withheld
  let ride := match n.bed with
    | some old => Bed.sameRide old s.active
    | none => true
  s.withBed n.bed fun s =>
    let s := if published then s.publish e else s
    (s.modEngine e fun n => { n with inPeriod := false, bed := none }).supervise e published (published && !n.stalePeriod) ride

/-- The beat origin takes a value; captures whose clock it moves end (R84, R453). -/
def setBeatOrigin (s : State) (t : ST64) : State :=
  let laps := (sdiff s.now t - ((s.now.toNat : Int) - t.toNat)) / p2 64
  let moved := sdiff t (s.regT 0x1211 0x01)
  ((s.modTime fun u => { u with laps := laps }).putT 0x1211 0x01 t).harvestOriginMoved moved

end State

/-- The output phase of engine e (R99, R100). -/
def execOutputPhase (e : Fin 16) (s : State) : Host.Outcome State Fault Refusal :=
  .next (if (s.engine e).inPeriod then s.outputPhase e else s)

/-- Trellis ready: every engine with MONITOR = 0 is cleared and its loops initialised, in use or not, and permission is
requested (R38, R86, R168). -/
def execTrellisReady (s : State) : Host.Outcome State Fault Refusal :=
  if s.ctl.fastClocks then
    let s := (List.range 16).foldl (fun s e =>
      let s := s.modEngine e fun n => { n with ready := true }
      if s.monitor e then s else (s.clearEngine e).initSlots e 6) s
    .next s.requestPermission
  else .next s

/-- A write of BEAT_ORIGIN (R84, R563). -/
def execBeatOriginWrite (req : Requester) (value : Int) (s : State) : Host.Outcome State Fault Refusal :=
  .next (guardedWrite req 0x1211 0x01 engineers (decide (s.ctl.mode = .dormant ∨ s.ctl.mode = .watch))
    (if s.reg 0x1700 0x20 ≠ 0 then 0x0C34 else 0) (.num value)
    (fun s =>
      let t := BitVec.ofInt 64 value
      let s := s.setBeatOrigin t
      if s.inArray then s.send (.runner 0xFF 0x33 [((s.toArray t).toNat : Int)]) else s) s)

/-- A Runner BEAT_ORIGIN message, in master time (R84, R558). -/
def execBeatOriginMsg (origin : BitVec 64) (s : State) : Host.Outcome State Fault Refusal :=
  .next (if s.inArray then s.setBeatOrigin (s.fromArray origin) else s)

end Sys2Proof.Machine
end

