-- ==== Sys2Proof/Machine/Lanes.lean ====
section
/-! DEFINITION. The serial lanes: rates, locks, retrains, loopbacks, patterns and bit-error estimates (R534 to R550). -/

namespace Sys2Proof.Machine

namespace State

def laneIx (l : Nat) : Nat := 0x1600 + l
def slane (s : State) (l : Nat) : SerialLane := vget s.slanes l SerialLane.idle
def modSlane (s : State) (l : Nat) (g : SerialLane → SerialLane) : State := { s with slanes := vmod s.slanes l g }

/-- A lane is enabled by the chapter that owns it. -/
def slaneOn (s : State) (l : Nat) : Bool :=
  if l < 8 then s.laneEnabled l
  else if l < 14 then decide (s.reg 0x1700 0x01 = 1)
  else decide (s.reg (0x1501 + (l - 14)) 0x01 ≠ 0)

/-- The lane runs at its full rate (R19, R307, R534, R555). -/
def slaneFull (s : State) (l : Nat) : Bool :=
  if l < 8 then (s.lane l).fullRate
  else if l < 14 then s.inArray && decide (s.ctl.mode ≠ .dormant)
  else true

/-- RATE in kb/s. -/
def slaneRate (s : State) (l : Nat) : Nat :=
  if !s.slaneOn l then 0
  else if l < 8 then (if s.slaneFull l then 2500000 else 625000)
  else if l < 14 then (if s.slaneFull l then 10312500 else 1250000)
  else 1250000

/-- STATE (R549): 0 off, 1 electrical idle while a reset is asserted (R537), 3 drip, 4 full, 5 loopback, 6 retraining, 7
DOWN. A training burst is not seen between commands. -/
def slaneState (s : State) (l : Nat) : Nat :=
  if !s.slaneOn l then 0
  else if s.rst.reach ≠ 0 then 1
  else if s.reg (laneIx l) 0x08 ≠ 0 then 5
  else if (s.slane l).retrain = some 2 then 6
  else if (s.slane l).down then 7
  else if s.slaneFull l then 4 else 3

/-- The other lane of a Runner port (R551). -/
def otherLane (l : Nat) : Nat := if l % 2 = 0 then l + 1 else l - 1

/-- A gate lane is redundant or idle: every enabled remote pair on it is bypassed, or has neither Furrow nor arm (R539). -/
def gateLaneIdle (s : State) (l : Nat) : Bool :=
  (List.range 24).all fun p =>
    decide (s.cfg (remoteEntry l p) 0x01 ≠ 1) ||
      decide (s.cfg (remoteEntry l p) 0x02 = 0xFF ∧ s.cfg (remoteEntry l p) 0x06 = 0xFF) ||
      (match s.nodeOf l (2 * p) with | some n => (s.node l n).bypassed | none => false)

/-- An Ethernet port's link goes down with its lane; its LINK is kept for the return (R539, R545). -/
def ethDown (s : State) (l : Nat) : State :=
  let e := 0x1501 + (l - 14)
  let link := s.regN e 0x20
  if l < 14 ∨ link = 0 then s
  else ((s.modSlane l fun g => { g with linkBefore := link }).put e 0x20 0).event 0x0F10 [((l - 14 : Nat) : Int), 0, 0]

/-- The link comes up again. -/
def ethUp (s : State) (l : Nat) : State :=
  let e := 0x1501 + (l - 14)
  let link := (s.slane l).linkBefore
  let s := s.modSlane l fun g => { g with linkBefore := 0 }
  if l < 14 ∨ link = 0 then s
  else (s.put e 0x20 link).event 0x0F10 [((l - 14 : Nat) : Int), 1, if link = 1 then 100 else 1000]

/-- A domain reset completes: DOMAIN_RESET is queued and counted (R608, R612, R613). -/
def domainDone (s : State) (kind target : Nat) : State :=
  let s := s.modRst fun r => { r with domainRuns := none }
  (s.count 0x1200 0x06).event 0x1211 [kind, target]

/-- The FULL retrain a domain reset of a lane started has ended (R608). -/
def domainLane (s : State) (l : Nat) : State := if s.rst.domainRuns = some (1, l) then s.domainDone 1 l else s

/-- A FULL retrain starts: electrical idle, PRE and POST applied, a training burst; a gate lane carries INHIBIT first,
its supervision is suspended, and its chain is resynchronised (R537, R539, R540). -/
def fullRetrain (s : State) (l : Nat) : State :=
  let s := if l < 8 then s.inhibitLane l else s.ethDown l
  let s := (s.modSlane l fun g => { g with retrain := some 2, down := false }).put (laneIx l) 0x22 0
  let s := (s.put (laneIx l) 0x24 (s.reg (laneIx l) 0x01)).put (laneIx l) 0x25 (s.reg (laneIx l) 0x02)
  if l < 8 then (s.modLane l fun g => { g with noData := true }).chainResync l 3 else s

/-- The receiver starts a relock (R538, R541). -/
def relock (s : State) (l : Nat) : State :=
  (s.modSlane l fun g => { g with retrain := some (g.retrain.getD 1) }).put (laneIx l) 0x22 0

/-- A change of rate passes through electrical idle and a training burst: new equalisation applies, and a FULL retrain
in progress ends (R535, R536, R547). -/
def rateBurst (s : State) (l : Nat) : State :=
  let s := (s.put (laneIx l) 0x24 (s.reg (laneIx l) 0x01)).put (laneIx l) 0x25 (s.reg (laneIx l) 0x02)
  let s := if (s.slane l).retrain = some 2 then (s.event 0x1611 [l, 2, 1]).domainLane l else s
  let s := s.modSlane l fun g => { g with retrain := none, down := false }
  if l < 8 then s.modLane l fun g =>
    { g with noData := false, chain := g.chain.filter fun c => decide (c.kind ≠ 3) } else s

/-- The gate lanes take a rate (R307). -/
def gateRates (s : State) (full : Bool) : State :=
  let old := (List.range 8).filter fun l => s.laneEnabled l && decide ((s.lane l).fullRate ≠ full)
  old.foldl (fun s l => s.rateBurst l) (s.laneRates full)

/-- The Runner lanes take the rate the array and the mode give; was tells which ran at full rate before. -/
def runnerRates (s : State) (was : Nat → Bool) : State :=
  ((List.range 6).map fun k => 8 + k).foldl (fun s l =>
    if s.slaneOn l && decide (s.slaneFull l ≠ was l) then s.rateBurst l else s) s

/-- A loopback ends, and the lane retrains (R545, R546). -/
def endLoopback (s : State) (l reason : Nat) : State :=
  if s.reg (laneIx l) 0x08 = 0 then s
  else
    let s := (s.put (laneIx l) 0x08 0).modSlane l fun g => { g with synced := false, injectLeft := 0 }
    (s.event 0x1612 [l, 0, reason]).fullRetrain l

/-- Every loopback in force ends (R546). -/
def endLoopbacks (s : State) (reason : Nat) : State := (List.range 16).foldl (fun s l => s.endLoopback l reason) s

/-- A pattern runs on the lane (R543 to R545). -/
def patternRuns (s : State) (l : Nat) : Bool :=
  let b := s.reg (laneIx l) 0x08
  decide (b = 1 ∨ b = 2) ||
    (decide (b = 0 ∧ 8 ≤ l ∧ l < 14) && s.slaneOn l && s.slaneFull l && decide (s.reg (laneIx l) 0x06 = 1))

/-- Bits the checker has compared, and the mismatches among them (R542, R544). -/
def countChecked (s : State) (l bits errs : Nat) : State :=
  let s := (s.countBy 64 (laneIx l) 0x28 bits).countBy 64 (laneIx l) 0x29 errs
  s.modSlane l fun g => { g with winBits := g.winBits + bits, winErrs := g.winErrs + errs }

/-- At most n waiting bits are inverted now. -/
def injectBits (s : State) (l n : Nat) : State :=
  let k := min n (s.slane l).injectLeft
  (s.modSlane l fun g => { g with injectLeft := g.injectLeft - k }).countBy 32 (laneIx l) 0x2E k

/-- One code error (R543). -/
def codeError (s : State) (l : Nat) : State := (s.count (laneIx l) 0x2B).flag (laneIx l) 0x2F 2

/-- The chain resynchronisation of a retrained gate lane is through: every node has answered step 3 and got its CONFIG
(R324, R540). -/
def chainThrough (s : State) (l : Nat) : Bool :=
  match (s.lane l).chain with
  | some c => decide (c.step = 5) || (s.laneNodes l).isEmpty
  | none => true

/-- The FULL retrain of a lane ends. -/
def retrainEnd (s : State) (l : Nat) (ok : Bool) : State :=
  let s := s.modSlane l fun g => { g with retrain := none, down := !ok }
  let s := if l < 8 then s.modLane l fun g => { g with noData := false, chain := none, inhibit := !s.ctl.permission } else s
  if ok then
    let s := ((s.put (laneIx l) 0x22 1).count (laneIx l) 0x2D).event 0x1611 [l, 2, 0]
    (if 14 ≤ l then s.ethUp l else s).domainLane l
  else ((s.flag (laneIx l) 0x2F 3).event 0x1611 [l, 2, 2]).domainLane l

end State

/-! ## Commands -/

/-- 1 ms after entry to HALT the gate lanes take the drip rate; on a lane whose rate changes, a chain procedure with a frame
pending ends with result 5 (R307, R331). -/
def execGlDripTimer (s : State) : Host.Outcome State Fault Refusal :=
  match s.ctl.haltLaneDeadline with
  | none => .next s
  | some _ =>
    let s := s.modCtl fun c => { c with haltLaneDeadline := none }
    if s.ctl.mode = .halt then
      let s := (List.range 8).foldl (fun s l =>
        match (s.lane l).chain with
        | none => s
        | some c =>
          if c.kind = 3 ∨ !s.laneEnabled l ∨ !(s.lane l).fullRate then s
          else (s.put (State.laneEntry l) 0x22 5).modLane l fun g => { g with chain := none }) s
      .next (s.gateRates false)
    else .next s

/-- RETRAIN = RELOCK, in every mode (R539). -/
def execRelock (req : Requester) (l : Fin 16) (s : State) : Host.Outcome State Fault Refusal :=
  .next (guarded req (State.laneIx l) 0x26 engineers true true
    (if (s.slane l).retrain.isSome then 0x0501 else 0) (fun s => s.relock l) s)

/-- RETRAIN = FULL: on a gate lane under R34, on a Runner lane of a formed array only beside a locked partner or in a
declared degradation (R539). -/
def execFullRetrain (req : Requester) (l : Fin 16) (s : State) : Host.Outcome State Fault Refusal :=
  let modeOk := decide (8 ≤ l.val) || wh s.ctl.mode || (decide (s.ctl.mode = .form) && s.gateLaneIdle l)
  let busy := decide (8 ≤ l.val ∧ l.val < 14) && s.inArray &&
    decide (s.reg (State.laneIx (State.otherLane l)) 0x22 = 0) && decide (s.reg 0x1700 0x21 ≠ 3)
  .next (guarded req (State.laneIx l) 0x26 engineers true modeOk
    (if busy then 0x0C05 else if (s.slane l).retrain.isSome then 0x0501 else 0) (fun s => s.fullRetrain l) s)

/-- A FULL retrain completes, or ends DOWN: without lock, which the operand tells, or without its chain (R540). -/
def execFullRetrainDone (l : Fin 16) (ok : Bool) (s : State) : Host.Outcome State Fault Refusal :=
  .next (if (s.slane l).retrain = some 2 then s.retrainEnd l (ok && (decide (8 ≤ l.val) || s.chainThrough l)) else s)

/-- A receiver loses lock and relocks by itself (R538, R541); on a gate lane upstream lock is lost (R336). -/
def execLaneLockLoss (l : Fin 16) (s : State) : Host.Outcome State Fault Refusal :=
  let s := ((s.count (State.laneIx l) 0x2C).flag (State.laneIx l) 0x2F 0).event 0x1610
    [l.val, 0, s.reg (State.laneIx l) 0x23]
  .next ((if l.val < 8 then s.upstreamLost l else s).relock l)

/-- 64 UI without a slip: lock, with the measured offset in ppb; a RELOCK is done (R538, R539). -/
def execLaneLockAcquired (l : Fin 16) (offset : BitVec 32) (s : State) : Host.Outcome State Fault Refusal :=
  let s := ((s.put (State.laneIx l) 0x23 offset.toInt).put (State.laneIx l) 0x22 1).event 0x1610 [l.val, 1, offset.toInt]
  if (s.slane l).retrain = some 1 then
    .next ((s.modSlane l fun g => { g with retrain := none }).event 0x1611 [l.val, 1, 0])
  else .next s

/-- A write of LOOPBACK (R34, R545). -/
def execLoopbackWrite (req : Requester) (l : Fin 16) (value : Int) (s : State) : Host.Outcome State Fault Refusal :=
  .next (guardedWrite req (State.laneIx l) 0x08 engineers (wh s.ctl.mode)
    (if value ≠ 0 ∧ 8 ≤ l.val ∧ l.val < 14 ∧ s.inArray then 0x0C05 else 0) (.num value)
    (fun s =>
      if value = 0 then s.endLoopback l 1
      else
        let s := (s.put (State.laneIx l) 0x08 value).modSlane l fun g => { g with synced := false }
        let s := if l.val < 8 then (s.inhibitLane l).modLane l fun g => { g with noData := true } else s.ethDown l
        s.event 0x1612 [l.val, value, 1]) s)

/-- A write of INJECT (R544). -/
def execInject (req : Requester) (l : Fin 16) (value : Int) (s : State) : Host.Outcome State Fault Refusal :=
  .next (guardedWrite req (State.laneIx l) 0x27 engineers true (if s.patternRuns l then 0 else 0x0C04) (.num value)
    (fun s => s.modSlane l fun g => { g with injectLeft := g.injectLeft + value.toNat }) s)

/-- EST_WINDOW ends. bits and errs are what the checker compared since its latest report and the line's mismatches among
them; in a loopback each waiting injected bit adds one error in its word of 64 bits (R544). -/
def execBerWindowEnd (l : Fin 16) (bits errs : Nat) (s : State) : Host.Outcome State Fault Refusal :=
  let b := s.reg (State.laneIx l) 0x08
  let inj := if b = 1 ∨ b = 2 then min (bits / 64) (s.slane l).injectLeft else 0
  let s := (s.injectBits l inj).countChecked l bits (errs + inj)
  let s := s.putB (State.laneIx l) 0x2A (toLe 8 (satU 64 (s.slane l).winBits) ++ toLe 8 (satU 64 (s.slane l).winErrs))
  .next (s.modSlane l fun g => { g with winBits := 0, winErrs := 0 })

/-- The checker synchronises on 64 error-free bits, or resynchronises after 64 errors within 1024 bits; bits and errs as
above (R542). -/
def execPatternCheckerSync (l : Fin 16) (again : Bool) (bits errs : Nat) (s : State) : Host.Outcome State Fault Refusal :=
  let s := if (s.slane l).synced then s.countChecked l bits errs else s
  let s := s.modSlane l fun g => { g with synced := true }
  .next (if again then s.flag (State.laneIx l) 0x2F 1 else s)

/-- A code or disparity violation, or a sync-header error (R543). -/
def execCodeError (l : Fin 16) (s : State) : Host.Outcome State Fault Refusal := .next (s.codeError l)

end Sys2Proof.Machine
end

