-- ==== Sys2Proof/Machine/Array.lean ====
section
/-! DEFINITION. The state of the array: membership, links, routes and the transitions of its STATE (R551 to R555, R564 to
R568). -/

namespace Sys2Proof.Machine

/-! ## Routes (R551, R553, R557, R565) -/

/-- The positions of a bit map, ascending. -/
def positions (m : Nat) : List Nat := (List.range 8).filter fun p => bitOf m p

/-- The member k places on in ring order. -/
def ringNext (m p k : Nat) : Nat :=
  let l := positions m
  l.getD ((l.idxOf p + k) % l.length) p

/-- The links that are up, as pairs of positions: ring links by bits 0 to 7, chords by bits 8 to 11 where they are in
service. -/
def linkPairs (m links : Nat) (chords : Bool) : List (Nat × Nat) :=
  ((positions m).filter fun p => bitOf links p).map (fun p => (p, ringNext m p 1)) ++
    (if chords then (((positions m).filter fun p => decide (p < 4) && bitOf links (8 + p)).map fun p =>
      (p, ringNext m p ((positions m).length / 2))) else [])

/-- The positions reached from a in at most k hops. -/
def reachIn (ls : List (Nat × Nat)) (a : Nat) : Nat → List Nat
  | 0 => [a]
  | k + 1 =>
    let r := reachIn ls a k
    (List.range 8).filter fun p => r.contains p || ls.any fun l =>
      (decide (l.1 = p) && r.contains l.2) || (decide (l.2 = p) && r.contains l.1)

/-- The hops from a to b; 8 where there is no route. -/
def hopsTo (ls : List (Nat × Nat)) (a b : Nat) : Nat :=
  ((List.range 8).find? fun k => (reachIn ls a k).contains b).getD 8

namespace State

def position (s : State) : Nat := s.regN 0x1700 0x20
def arrayState (s : State) : Nat := s.regN 0x1700 0x21
def arrayMembers (s : State) : Nat := s.regN 0x1700 0x22
def memberState (s : State) (p : Nat) : Nat := s.regN (0x1710 + p) 0x01

/-- The links of the array as the device knows them; chords are in service in DEGRADED. -/
def links (s : State) : List (Nat × Nat) := linkPairs s.arrayMembers (s.regN 0x1700 0x24) (decide (s.arrayState = 3))

/-- A link's bit: the ring link east of a position, or the chord of a position below 4. -/
def linkBit (s : State) (port neighbour : Nat) : Nat :=
  match port with
  | 0 => s.position % 8
  | 1 => neighbour
  | _ => 8 + min (s.position % 8) neighbour % 4

/-- STATE of a port (R573). -/
def runnerPort (s : State) (k : Nat) : Nat :=
  if !vget s.runner.portUp k false then 0
  else if !s.slaneFull (8 + 2 * k) then 1
  else if k = 2 ∧ s.arrayState ≠ 3 then 3
  else 2

/-- The routes from this device: HOPS_TO_MASTER, and HOPS of every member at position 0. -/
def refreshHops (s : State) : State :=
  let ls := s.links
  let s := s.put 0x1700 0x28 (hopsTo ls s.position 0)
  if s.position = 0 then (positions s.arrayMembers).foldl (fun s p => s.put (0x1710 + p) 0x04 (hopsTo ls 0 p)) s else s

/-- STATE changes; the ports take the rate it gives (R555). -/
def arrayTo (s : State) (n : Nat) : State :=
  let old := s.arrayState
  if old = n then s
  else
    let was := s.slaneFull
    let s := (s.put 0x1700 0x21 n).runnerRates was
    s.event 0x1710 [old, n, s.arrayMembers]

/-- TOPOLOGY leaves position 0, or a report leaves a member (R557, R565). -/
def sendTopology (s : State) (dest : Nat) : State :=
  s.send (.runner dest 0x04 [s.arrayMembers, s.reg 0x1700 0x23, s.arrayState, s.reg 0x1700 0x24, s.reg 0x1700 0x25])

/-- The ARRAY cause is gone when nothing sets it any more (R564). -/
def refreshArrayCause (s : State) : State :=
  if s.runner.origins = [] ∧ s.runner.masterLost = false then s.dropCause .array else s

/-- The array is left: members, links and causes go, and a follower's time takes HOLDOVER (R417, R555). -/
def toAlone (s : State) : State :=
  let s := (List.range 8).foldl (fun s p => (s.put (0x1710 + p) 0x01 0).put (0x1710 + p) 0x04 0) s
  let s := (((s.put 0x1700 0x22 0).put 0x1700 0x23 0).put 0x1700 0x28 0).arrayTo 0
  let s := s.modRunner fun r =>
    { r with joinAt := none, joining := false, waiting := [], offsetFixed := false, aligned := 0, origins := [], admits := []
             masterLost := false, bed := [], bedTotal := 0, beds := [] }
  let s := (s.put 0x1700 0x26 0).refreshArrayCause
  if s.timeState = 4 then s.toHoldover else s

/-- This device asks position 0 for admission (R568). -/
def sendJoin (s : State) : State :=
  let s := s.modRunner fun r => { r with joining := true, joinAt := some (later s.now (ms (s.regN 0x1700 0x05) : Nat)) }
  s.send (.runner 0 0x60 [s.reg 0x1000 0x01, s.reg 0x1001 0x01, s.position])

/-- A device at another position than 0, enabled, alone and in WATCH, locked to a formed array, sends JOIN (R568). -/
def joinFormed (s : State) : State :=
  let locked := (List.range 3).any fun k => vget s.runner.portUp k false && vget s.runner.formed k false
  if locked ∧ s.position ≠ 0 ∧ s.reg 0x1700 0x01 = 1 ∧ s.arrayState = 0 ∧ s.ctl.mode = .watch ∧ s.runner.joining = false then
    s.sendJoin
  else s

/-- The first beat boundary at or after an instant (R84). -/
def beatFrom (s : State) (t : ST64) : ST64 :=
  let len := Bed.beat s.active * 320
  later t ((-(s.sinceOrigin t)) % (len : Int))

/-- Every expected member is admitted. -/
def allAdmitted (s : State) : Bool :=
  (positions (s.regN 0x1700 0x02)).all fun p => decide (p = 0 ∨ s.memberState p = 2)

/-- Every ring link of the members is up. -/
def ringUp (s : State) : Bool := (positions s.arrayMembers).all fun p => bitOf (s.regN 0x1700 0x24) p

/-- At position 0 the array becomes NORMAL when every expected member is admitted and, out of DEGRADED, every ring link is
up (R555). -/
def arrayNormal (s : State) : State :=
  if s.position = 0 ∧ s.allAdmitted ∧ (s.arrayState = 1 ∨ (s.arrayState = 3 ∧ s.ringUp)) then
    let s := (s.modRunner fun r => { r with joinAt := none }).arrayTo 2
    ((s.put 0x1700 0x25 (satU 32 (s.reg 0x1700 0x25 + 1))).refreshHops).sendTopology 0xFF
  else s

/-- FORM at position 0: the device is the first member, and the expected members are invited (R555). -/
def formArray (s : State) : State :=
  let s := ((s.put 0x1700 0x22 1).put 0x1700 0x23 1).arrayTo 1
  let s := (positions (s.regN 0x1700 0x02)).foldl (fun s p => if p = 0 then s else s.put (0x1710 + p) 0x01 1) s
  let s := (s.put 0x1710 0x01 2).modRunner fun r => { r with joinAt := some (later s.now (ms (s.regN 0x1700 0x05) : Nat)) }
  s.arrayNormal

/-- The entry to WATCH: position 0 runs FORM again after an array reset, and another device locked to a formed array sends
JOIN (R564, R568). -/
def reform (s : State) : State :=
  if s.runner.reform then
    let s := s.modRunner fun r => { r with reform := false }
    if s.position = 0 ∧ s.reg 0x1700 0x01 = 1 ∧ s.arrayState = 0 then s.formArray else s
  else s.joinFormed

/-- A member becomes LOST: its causes are gone, and position 0 records it (R565, R566). -/
def memberLost (s : State) (p cause : Nat) : State :=
  let s := (s.modRunner fun r => { r with origins := r.origins.filter fun o => decide (o ≠ p) }).refreshArrayCause
  let s := (s.put (0x1710 + p) 0x01 3).flag 0x1700 0x2B 2
  s.event 0x1711 [p, 3, cause]

/-- A heal is counted, flagged and recorded; its duration is open below 10 us (R565). -/
def healed (s : State) : State :=
  let s := (s.count 0x1700 0x2A).flag 0x1700 0x2B 1
  let d := s.draw
  d.2.event 0x1713 [s.reg 0x1700 0x25, s.reg 0x1700 0x24, ((d.1 % 10001 : Nat) : Int)]

/-- The links of a position, as bits of LINKS_UP: the ring links on its two sides and its chord (R551, R557). -/
def ownLinks (s : State) (p : Nat) : Nat :=
  let m := s.arrayMembers
  let l := positions m
  let chord := min p (ringNext m p (l.length / 2)) % 4
  [p, ringNext m p (l.length - 1), 8 + chord].foldl (fun b k => withBit b k true) 0

/-- The ring heals at position 0: the members not reached become LOST, the state is DEGRADED, chords serve, and TOPOLOGY
carries the new EPOCH. A member that leaves is named with cause 2 (R565,
R567). -/
def heal (s : State) (left : Option Nat) : State :=
  let ls := linkPairs s.arrayMembers (s.regN 0x1700 0x24) true
  let r := (reachIn ls 0 7).filter fun p => bitOf s.arrayMembers p && decide (some p ≠ left ∧ s.memberState p ≠ 3)
  let lost := (positions s.arrayMembers).filter fun p => decide (p ≠ 0 ∧ s.memberState p = 2) && !r.contains p
  let s := s.put 0x1700 0x23 ((r.foldl (fun m p => m ||| (1 <<< p)) 1 : Nat) : Int)
  let s := lost.foldl (fun s p => s.memberLost p (if some p = left then 2 else 3)) s
  let s := if s.arrayState = 2 then s.arrayTo 3 else s
  ((((s.put 0x1700 0x25 (satU 32 (s.reg 0x1700 0x25 + 1))).refreshHops).healed).sendTopology 0xFF)

end State

end Sys2Proof.Machine
end

