-- ==== Sys2Proof/Machine/Modes.lean ====
section
/-! DEFINITION. The mode controller: transitions, mode commands, HALT and the order of coincident events (R16 to R45, R203,
R207, R209, R227, R232 to R235, R576 to R578). -/

namespace Sys2Proof.Machine

namespace State

/-! ## Clocks on demand (R577) -/

/-- The fast clocks start. A loopback ends first (R546). -/
def startFast (s : State) : State :=
  let s := (s.endLoopbacks 2).modCtl fun c => { c with fastClocks := true }
  (((s.gateRates true).startFurrows).startRemotes).refreshSieve

/-- The fast clocks stop: Furrows stand, control engines sleep. -/
def stopFast (s : State) : State :=
  let s := ((s.modCtl fun c => { c with fastClocks := false }).stopFurrows).clearRemotes
  let s := s.sleepEngines
  ((List.range 16).foldl (fun s e => s.settleSlots e) s).refreshSieve

/-! ## Transitions (R21, R41) -/

/-- A transition to a mode and sub-state: PREVIOUS_MODE, MODE_ENTRY_TIME, and MODE_CHANGE with the causes it reports. A
change of the sub-state alone is a transition too (R21, R42; log entry 5). -/
def setMode (s : State) (m : Mode) (sub : SubState) (causes : Nat) : State :=
  let old := s.ctl.mode
  let s := s.modCtl fun c => { c with mode := m, sub := sub, prevMode := old, entryTime := s.now }
  s.event 0x0110 [modeCode old, modeCode m, subCode sub, causes]

/-- What every transition leaves behind: tests and loopbacks end outside WATCH and HALT, runs and evaluations follow the
mode, and the Runner lanes take the mode's rate (R202, R211, R227, R253, R362, R546). -/
def settleMode (s : State) (was : Nat → Bool) : State :=
  let s := if wh s.ctl.mode then s else (s.abandonTest).endLoopbacks 2
  ((((((s.dropRuns).dropDrift).notePause).refreshDeadbus).refreshSieve).refreshInputs).runnerRates was

/-- A transition with its consequences. -/
def goMode (s : State) (m : Mode) (sub : SubState) : State :=
  let was := s.slaneFull
  (s.setMode m sub (causeMap s.ctl.causes)).settleMode was

/-- CONNECT_PENDING ends (R21). -/
def connectEnd (s : State) : State := (s.syncStop).modCtl fun c => { c with connectDeadline := none }

/-- WATCH is entered with the fast clocks stopped and no permission (R21, R210). -/
def enterWatch (s : State) : State :=
  let s := s.withdraw.modCtl fun c => { c with stopStart := none, haltLaneDeadline := none }
  let s := s.goMode .watch .none
  (((s.stopFast).gateRates false).breakerWatch).joinFormed

/-- HALT is entered for a first cause, with every cause then active or pending in MODE_CHANGE (R21, R26, R35, R39,
R564, R577). -/
def enterHalt (s : State) (first : HaltCause) : State :=
  let from_ := s.ctl.mode
  let map := causeMap s.ctl.causes ||| causeMap s.ctl.pendingCauses ||| (1 <<< causeBit first)
  let was := s.slaneFull
  let s := (s.withdraw.connectEnd).modCtl fun c =>
    { c with guard := .pendingOpen, firstCause := some first, pendingCauses := [], stopStart := none
             haltLaneDeadline := some (later s.now (ms 1 : Nat)) }
  let s := s.setMode .halt .none map
  let s := (s.episodeEnd false).breakerHalt
  let s := if s.ctl.fastClocks && decide (from_ = .dormant ∨ from_ = .watch) then s.stopFast else s
  let s := if from_ = .dormant then s.netStart else s
  let s := if s.inArray ∧ s.reg 0x1700 0x03 = 1 ∧ first ≠ .array then s.send (.runner 0xFF 0x50 [s.reg 0x1700 0x20]) else s
  (s.settleMode was).dropCause .envelope

/-- The mode controller takes a pending cause: an entry to HALT, a record in DORMANT, or a cause arising in HALT (R22,
R35, R40). -/
def takeCause (s : State) (c : HaltCause) : State :=
  match s.ctl.mode with
  | .dormant => s.modCtl fun x => { x with pendingCauses := x.pendingCauses.filter fun d => decide (d ≠ c) }
  | .halt =>
    let s := s.modCtl fun x => { x with pendingCauses := x.pendingCauses.filter fun d => decide (d ≠ c) }
    if c = .command then s else s.guardReset
  | _ => s.enterHalt c

/-- Every pending cause is taken, in bit order, ahead of any other event (R35). -/
def takeCauses (s : State) : State := s.ctl.pendingCauses.foldl (fun s c =>
  if s.ctl.pendingCauses.contains c then s.takeCause c else s) s

/-! ## Automatic transitions -/

/-- DORMANT is left for WATCH, or for HALT where a cause is active; a cause that has gone by then changes no mode; the main
PLL runs, and an array reset's FORM runs (R21, R22, R564, R578). -/
def leaveDormant (s : State) : State :=
  let s := s.takeCauses.modCtl fun c => { c with pllRunning := true }
  match s.ctl.causes with
  | [] => (((s.goMode .watch .none).netStart).reform).toutPins
  | c :: _ => (s.enterHalt c).toutPins

/-- The RIDE entry event (R224, R227, R228); a stop in progress is cancelled. -/
def takeRide (s : State) : State :=
  match s.ride.entry with
  | some (cause, word, te) =>
    if s.ctl.mode = .form then
      let stopping := decide (s.ctl.sub = .stopping)
      let s := (s.goMode .ride .none).modCtl fun c => { c with stopStart := none }
      let s := if stopping then s.event 0x0113 [] else s
      s.rideEntered cause word te
    else s.modRide fun r => { r with entry := none }
  | none => s

/-- The envelope is left (R232): HALT with the ENVELOPE cause. -/
def takeExit (s : State) : State :=
  if s.ride.exit.isSome ∧ s.ctl.mode = .ride then (s.raiseCause .envelope).enterHalt .envelope else s

/-- Recovery (R233): FORM, RECOVERING. -/
def takeRecovery (s : State) : State :=
  if s.ride.recovery ∧ s.ctl.mode = .ride then
    let s := s.goMode .form .recovering
    s.rideRecovered
  else s

/-- The sync check has passed (R209): FORM, permission and the close command. -/
def takeSync (s : State) : State :=
  if s.gf.syncPass ∧ s.ctl.mode = .watch ∧ s.ctl.sub = .connectPending then
    let s := (s.connectEnd).goMode .form .none
    (s.requestPermission).breakerClose
  else s

/-- The ramp is complete: FORM, and RAMP_COMPLETE (R203, R215). -/
def takeRamp (s : State) : State :=
  if s.gf.rampDone ∧ s.ctl.mode = .energize then
    ((s.modGf fun g => { g with rampDone := false }).goMode .form .none).event 0x0611 [s.reg 0x4002 0x24]
  else s

/-- The automatic transitions that stand presented are taken ahead of a command (R35, R36). -/
def takeAutomatic (s : State) : State := ((((s.takeSync).takeRamp).takeRide).takeExit).takeRecovery

/-! ## Mode commands (R28 to R31, R43) -/

/-- LAST_COMMAND and LAST_RESULT. -/
def lastCommand (s : State) (code result : Nat) : State := (s.put 0x1101 0x02 code).put 0x1101 0x03 result

/-- A refused mode command. -/
def commandRefused (s : State) (req : Requester) (code result : Nat) : State :=
  (s.lastCommand code result).answer req 0x1101 0x01 result

/-- The conditions of R31 that ENERGIZE and CONNECT share after 0x0C62 and 0x0501: 0, or a code; busOk says that the bus
suits the command. -/
def startOwn (s : State) (busOk : Bool) : Nat :=
  if s.graft.remaps then 0x0C0C
  else if s.ctl.guard ≠ .satisfied then 0x0C10
  else if busOk then 0 else 0x0C11

end State

/-- A mode command at the state the mode controller evaluates it in: role, mode and the command's own conditions. -/
def modeCommandAt (req : Requester) (code : Nat) (legal : State → Bool) (own : State → Nat) (act : State → State)
    (s : State) : State :=
  if !mayWrite s req operators then s.commandRefused req code 0x0201
  else if !legal s then (s.refuseMode req code (modeCode s.ctl.mode)).commandRefused req code 0x0401
  else if own s ≠ 0 then s.commandRefused req code (own s)
  else ((act s).lastCommand code 0).answer req 0x1101 0x01 0

/-- A mode command other than HALT: pending causes and automatic events come first (R35). -/
def modeCommand (req : Requester) (code : Nat) (legal : State → Bool) (own : State → Nat) (act : State → State)
    (s : State) : State :=
  if !s.present req then s else modeCommandAt req code legal own act s.takeCauses.takeAutomatic

/-! ## Commands -/

/-- GO_WATCH: from DORMANT after boot, not in a recovery boot (R28, R654). -/
def execGoWatch (req : Requester) (s : State) : Host.Outcome State Fault Refusal :=
  .next (modeCommand req 1 (fun s => decide (s.ctl.mode = .dormant) && !s.ctl.recoveryBoot)
    (fun s => if s.ctl.bootComplete then 0 else 0x0501) (fun s => s.leaveDormant) s)

/-- ENERGIZE: on a dead bus (R25 to R31, R197, R206). -/
def execEnergize (req : Requester) (s : State) : Host.Outcome State Fault Refusal :=
  .next (modeCommand req 2 (fun s => decide (s.ctl.mode = .watch))
    (fun s =>
      if s.cfgN 0x4001 0x02 = 0xFFFF then 0x0C62
      else if s.ctl.sub = .connectPending then 0x0501
      else s.startOwn s.busDead)
    (fun s =>
      let s := ((s.goMode .energize .none).put 0x4002 0x24 0).modGf fun g => { g with rampDone := false }
      let s := s.startFast
      if s.cfg 0x4002 0x05 = 1 then s.breakerClose else s) s)

/-- CONNECT: on a bus that is not dead; in CONNECT_PENDING a success with no effect (R21, R28, R209). -/
def execConnect (req : Requester) (s : State) : Host.Outcome State Fault Refusal :=
  .next (modeCommand req 3 (fun s => decide (s.ctl.mode = .watch))
    (fun s => if s.cfgN 0x4001 0x03 = 0xFFFF then 0x0C62 else s.startOwn !s.busDead)
    (fun s =>
      if s.ctl.sub = .connectPending then s
      else
        let s := (s.goMode .watch .connectPending).modCtl fun c =>
          { c with connectDeadline := some (later s.now (ms (s.regN 0x1101 0x05) : Nat)) }
        (s.startFast).syncStart) s)

/-- CANCEL_CONNECT (R28). -/
def execCancelConnect (req : Requester) (s : State) : Host.Outcome State Fault Refusal :=
  .next (modeCommand req 4 (fun s => decide (s.ctl.mode = .watch)) (fun _ => 0)
    (fun s => if s.ctl.sub = .connectPending then (s.connectEnd.event 0x0112 [2]).enterWatch else s) s)

/-- STOP: FORM, STOPPING; from RECOVERING the episode ends (R28, R207, R224, R235). -/
def execStop (req : Requester) (s : State) : Host.Outcome State Fault Refusal :=
  .next (modeCommand req 5 (fun s => decide (s.ctl.mode = .form)) (fun _ => 0)
    (fun s =>
      if s.ctl.sub = .stopping then s
      else
        let s := s.episodeEnd false
        (s.goMode .form .stopping).modCtl fun c => { c with stopStart := some s.now, stopRamp := s.regN 0x1101 0x04 }) s)

/-- TO_DORMANT: a pending connect is cancelled; PTP, SV, GOOSE and the Sieve stop, captures end, the main PLL stops (R21,
R453, R578). -/
def execToDormant (req : Requester) (s : State) : Host.Outcome State Fault Refusal :=
  .next (modeCommand req 6 (fun s => decide (s.ctl.mode = .watch)) (fun _ => 0)
    (fun s =>
      let s := if s.ctl.sub = .connectPending then s.connectEnd.event 0x0112 [3] else s
      let s := s.goMode .dormant .none
      let s := ((((s.dropPeriods).stopFast).gateRates false).inhibitLanes).netStop
      ((s.harvestEndWhere fun _ => true).toutPins).modCtl fun c => { c with pllRunning := false }) s)

/-- HALT: the COMMAND cause, and the entry to HALT outside DORMANT and HALT. It ranks with the HALT causes, ahead of the
automatic transitions (R22, R28, R35, R40). -/
def execHalt (req : Requester) (s : State) : Host.Outcome State Fault Refusal :=
  .next (if !s.present req then s
    else modeCommandAt req 7 (fun _ => true) (fun _ => 0) (fun s => (s.raiseCause .command).takeCause .command) s.takeCauses)

/-- CLEAR_HALT (R21, R27, R28, R31, R564). -/
def execClearHalt (req : Requester) (s : State) : Host.Outcome State Fault Refusal :=
  .next (modeCommand req 8 (fun s => decide (s.ctl.mode = .halt))
    (fun s =>
      if s.ctl.causes.any fun c => decide (c ≠ .command) then 0x0C12
      else if s.ctl.guard ≠ .satisfied then 0x0C10 else 0)
    (fun s =>
      let s := (s.dropCause .command).enterWatch
      if s.inArray ∧ s.reg 0x1700 0x03 = 1 then s.send (.runner 0xFF 0x51 [s.reg 0x1700 0x20]) else s) s)

/-- The mode controller takes a HALT cause that is pending (R35). -/
def execHaltCauseTaken (cause : HaltCause) (s : State) : Host.Outcome State Fault Refusal :=
  .next (if s.ctl.pendingCauses.contains cause then s.takeCause cause else s)

/-- A rising edge on WAKE, acted on in DORMANT alone, after boot and not in a recovery boot (R21, R576). -/
def execWakeEdge (s : State) : Host.Outcome State Fault Refusal :=
  if s.ctl.mode = .dormant ∧ s.ctl.bootComplete ∧ s.ctl.recoveryBoot = false then .next s.leaveDormant else .next s

/-- The sync check's pass reaches the mode controller (R209). -/
def execSyncCheckPass (s : State) : Host.Outcome State Fault Refusal := .next s.takeCauses.takeSync

/-- CONNECT_TIMEOUT has elapsed; a pass in the same evaluation stands first (R21, R214). -/
def execConnectTimerExpiry (s : State) : Host.Outcome State Fault Refusal :=
  let s := s.takeCauses.takeSync
  if s.ctl.mode = .watch ∧ s.ctl.sub = .connectPending then .next ((s.connectEnd.event 0x0112 [1]).enterWatch) else .next s

/-- The ramp completion reaches the mode controller (R203). -/
def execEnergizeRampComplete (s : State) : Host.Outcome State Fault Refusal := .next s.takeCauses.takeRamp

/-- TA + STOP_RAMP: the breaker opens and the device enters WATCH; a RIDE entry in the same evaluation cancels the stop
(R207, R210, R214). -/
def execStopRampComplete (s : State) : Host.Outcome State Fault Refusal :=
  let s := s.takeCauses.takeRide
  if s.ctl.mode = .form ∧ s.ctl.sub = .stopping then .next (s.breakerOpen.enterWatch) else .next s

/-- A presented RIDE entry reaches the mode controller (R227). -/
def execEnterRide (s : State) : Host.Outcome State Fault Refusal := .next s.takeCauses.takeRide

/-- The recovery condition reaches the mode controller; an envelope exit in the same evaluation stands first (R233,
R236). -/
def execRecoveryTransition (s : State) : Host.Outcome State Fault Refusal := .next s.takeCauses.takeExit.takeRecovery

/-- T_R + RECOVER_RAMP: FORM with NONE; a RIDE entry in the same evaluation stands first (R235, R236). -/
def execRecoveryRampComplete (s : State) : Host.Outcome State Fault Refusal :=
  let s := s.takeCauses.takeRide
  if s.ctl.mode = .form ∧ s.ctl.sub = .recovering then .next ((s.goMode .form .none).episodeEnd true) else .next s

/-- A left envelope reaches the mode controller (R232). -/
def execLeaveEnvelope (s : State) : Host.Outcome State Fault Refusal := .next s.takeCauses.takeExit

end Sys2Proof.Machine
end

