-- ==== Sys2Proof/Machine/Runner.lean ====
section
/-! DEFINITION. The Runner's commands: forming and leaving an array, links and healing, time, shared samples, HALT and
reset across the array, and admission (R551 to R573). The messages of Graft and BED_DATA are in the file of live updates. -/

namespace Sys2Proof.Machine

namespace State

/-- A join ends without admission (R555, R568). -/
def joinFailed (s : State) (p : Nat) : State :=
  let s := s.modRunner fun r => { r with joining := false, bed := [], bedTotal := 0, beds := [], offsetFixed := false }
  (s.flag 0x1700 0x2B 0).event 0x1711 [p, 0, 4]

/-- Position 0 admits p: both current beds go to it by BED_DATA (named here by bed), then ADMIT names the first beat at
least 100 us ahead, from which it is a member (R568). -/
def admitMember (s : State) (p identity revision : Nat) : State :=
  let beat := s.beatFrom (later s.now (us 100 : Nat))
  let s := (s.send (.runner p 0x61 [0])).send (.runner p 0x61 [1])
  let s := s.send (.runner 0xFF 0x62 [p, ((s.toArray beat).toNat : Int)])
  let s := (((s.put (0x1710 + p) 0x01 1).put (0x1710 + p) 0x02 identity).put (0x1710 + p) 0x03 revision)
  s.modRunner fun r => { r with admits := r.admits.filter (fun a => decide (a.1 ≠ p)) ++ [(p, beat, 0)] }

/-- The admission beat at position 0 (R568). -/
def memberAdmitted (s : State) (p : Nat) (beat : ST64) : State :=
  let s := (s.put (0x1710 + p) 0x01 2).putT (0x1710 + p) 0x05 beat
  let s := s.put 0x1700 0x22 ((withBit s.arrayMembers p true : Nat) : Int)
  let s := s.put 0x1700 0x23 ((withBit (s.regN 0x1700 0x23) p true : Nat) : Int)
  ((s.event 0x1711 [p, 2, 1]).refreshHops).arrayNormal

/-- The checks of step 1 of R568 pass; a position with nothing recorded takes what JOIN carries. -/
def joinFits (s : State) (p identity revision : Nat) : Bool :=
  bitOf (s.regN 0x1700 0x02) p && decide (s.memberState p ≠ 2) &&
    (decide (s.reg (0x1710 + p) 0x02 = 0 ∧ s.reg (0x1710 + p) 0x03 = 0) ||
      decide (s.regN (0x1710 + p) 0x02 = identity ∧ s.regN (0x1710 + p) 0x03 = revision))

/-- An array Graft is in progress: joins wait (R568, R629). -/
def joinsWait (s : State) : Bool :=
  match s.graft.swap with
  | some w => decide (w.kind = 3)
  | none => false

/-- A JOIN is decided at position 0: admitted, held for ADMIT, or failed. -/
def takeJoin (s : State) (p identity revision : Nat) (command : Bool) : State :=
  if !s.joinFits p identity revision then s.joinFailed p
  else if s.joinsWait || !(command || decide (s.reg 0x1700 0x04 = 1 ∨ s.arrayState = 1)) then
    (s.put (0x1710 + p) 0x01 1).modRunner fun r =>
      { r with waiting := r.waiting.filter (fun w => decide (w.1 ≠ p)) ++ [(p, identity, revision)] }
  else (s.modRunner fun r => { r with waiting := r.waiting.filter fun w => decide (w.1 ≠ p) }).admitMember p identity revision

/-- Joins that waited for an array Graft are decided (R568). -/
def releaseJoins (s : State) : State :=
  if s.joinsWait ∨ s.reg 0x1700 0x04 ≠ 1 then s
  else s.runner.waiting.foldl (fun s w => s.takeJoin w.1 w.2.1 w.2.2 false) s

/-- LINKS_UP with one link's bit. -/
def putLink (s : State) (port neighbour : Nat) (up : Bool) : State :=
  s.put 0x1700 0x24 ((withBit (s.regN 0x1700 0x24) (s.linkBit port neighbour) up : Nat) : Int)

/-- ARRAY_HALT from a position (R564). -/
def haltFrom (s : State) (origin : Nat) : State :=
  (s.modRunner fun r => { r with origins := if r.origins.contains origin then r.origins else r.origins ++ [origin] }).raiseCause .array

/-- The words of one SAMPLES message reach SPACE 3 (R560). -/
def shareWords (s : State) (src first : Nat) (t : ST64) (words : List (BitVec 32)) : State :=
  let s := (List.range words.length).foldl (fun s k =>
    if first + k < 64 then s.noteShared (src * 64 + first + k) else s) s
  s.setShared ((List.range words.length).foldl (fun m k =>
    if first + k < 64 then ins (src * 64 + first + k) (words.getD k 0#32, t) m else m) s.shared)

/-- A message is taken for the first time, judged by SRC and SEQ (R553). -/
def firstSight (s : State) (src seq : Nat) : Bool × State :=
  if s.runner.seen.contains (src, seq) then (false, s)
  else (true, s.modRunner fun r => { r with seen := ((src, seq) :: r.seen).take 64 })

/-- One message of a frame is forwarded once, unless it ends here or its HOPS reaches 8 (R553). Type codes above 0xFF
mark a forward in what the device sends. -/
def forward (s : State) (m : RunnerHead) : State :=
  let f := s.firstSight m.src m.seq
  if f.1 ∧ m.dst ≠ s.position ∧ m.src ≠ s.position ∧ m.hops + 1 < 8 then
    f.2.send (.runner m.dst (0x100 + m.type) [m.src, m.seq, ((m.hops + 1 : Nat) : Int)])
  else f.2

end State

/-- A write of COMMAND in entry 0x1700: codes not permitted here or now are refused with 0x0C07 (R571). -/
def arrayCommand (req : Requester) (ok : Bool) (act : State → State) (s : State) : State :=
  guarded req 0x1700 0x06 engineers true true (if ok then 0 else 0x0C07) act s

/-! ## Commands -/

/-- FORM (R555). -/
def execArrayForm (req : Requester) (s : State) : Host.Outcome State Fault Refusal :=
  .next (arrayCommand req (decide (s.position = 0 ∧ s.arrayState = 0 ∧ s.reg 0x1700 0x01 = 1) && wh s.ctl.mode)
    (fun s => s.formArray) s)

/-- DISSOLVE at position 0: TOPOLOGY with STATE 0 tells the members (R555). -/
def execArrayDissolve (req : Requester) (s : State) : Host.Outcome State Fault Refusal :=
  .next (arrayCommand req (decide (s.position = 0 ∧ s.arrayState ≠ 0))
    (fun s =>
      let e := s.put 0x1700 0x25 (satU 32 (s.reg 0x1700 0x25 + 1))
      (e.send (.runner 0xFF 0x04 [0, 0, 0, e.reg 0x1700 0x24, e.reg 0x1700 0x25])).toAlone) s)

/-- JOIN_TIMEOUT: a formation ends with the members it has or fails, and a join without admission fails (R555, R568). -/
def execJoinTimeout (s : State) : Host.Outcome State Fault Refusal :=
  if s.runner.joining then .next ((s.modRunner fun r => { r with joinAt := none }).joinFailed s.position)
  else if s.position = 0 ∧ s.arrayState = 1 then
    let s := s.modRunner fun r => { r with joinAt := none }
    let absent := (positions (s.regN 0x1700 0x02)).filter fun p => decide (p ≠ 0 ∧ s.memberState p ≠ 2)
    if s.arrayMembers = 1 then .next ((s.flag 0x1700 0x2B 0).toAlone)
    else
      let s := s.arrayTo 3
      let s := absent.foldl (fun s p => s.memberLost p 3) s
      .next (((s.put 0x1700 0x25 (satU 32 (s.reg 0x1700 0x25 + 1))).refreshHops).sendTopology 0xFF)
  else if s.position = 0 then
    .next (s.runner.waiting.foldl (fun s w => (s.put (0x1710 + w.1) 0x01 0).joinFailed w.1)
      (s.modRunner fun r => { r with joinAt := none, waiting := [] }))
  else .next s

/-- A port's link comes up towards a neighbour; formed says that the neighbour belongs to a formed array (R555, R565,
R568). -/
def execRunnerPortUp (port : Fin 3) (neighbour : Fin 8) (formed : Bool) (s : State) : Host.Outcome State Fault Refusal :=
  let s := (s.modRunner fun r => { r with portUp := vmod r.portUp port.val fun _ => true, formed := vmod r.formed port.val fun _ => formed }).put
    (0x1701 + port.val) 0x02 neighbour.val
  let s := (s.event 0x1712 [port.val, 1]).putLink port neighbour true
  if s.position = 0 ∧ s.arrayState = 3 then .next (((s.refreshHops).sendTopology 0xFF).arrayNormal)
  else if s.arrayState ≠ 0 ∧ s.position ≠ 0 then .next (s.sendTopology 0)
  else .next s.joinFormed

/-- A port goes down; position 0 heals, and a member reports to it (R565). -/
def execRunnerPortDown (port : Fin 3) (s : State) : Host.Outcome State Fault Refusal :=
  let n := s.regN (0x1701 + port.val) 0x02
  let s := (s.modRunner fun r => { r with portUp := vmod r.portUp port.val fun _ => false, formed := vmod r.formed port.val fun _ => false }).putLink port (n % 8) false
  let s := (((s.put (0x1701 + port.val) 0x02 0xFF).count (0x1701 + port.val) 0x04).event 0x1712 [port.val, 0])
  if s.arrayState = 2 ∨ s.arrayState = 3 then
    if s.position = 0 then .next (s.heal none) else .next (s.sendTopology 0)
  else .next s

/-- A partition has lasted 10 us without TOPOLOGY; duration in us (R526, R565, R566). -/
def execRunnerPartition (duration : Nat) (s : State) : Host.Outcome State Fault Refusal :=
  let s := (s.count 0x1A60 0x05).stallEvent 0x1A14 [duration, 0]
  if s.position ≠ 0 ∧ s.arrayState ≠ 0 then
    .next ((s.flag 0x1700 0x2B 3).arrayTo 3)
  else .next s

/-- A TOPOLOGY message: a member takes it; position 0 takes a member's report of its own links, or of its leaving (R565,
R567). -/
def execTopologyRx (src : Fin 8) (mem reach state links epoch : Nat) (s : State) : Host.Outcome State Fault Refusal :=
  if s.position = 0 then
    if s.arrayState = 2 ∨ s.arrayState = 3 then
      if !bitOf mem src then .next (s.heal (some src.val))
      else
        let old := s.regN 0x1700 0x24
        let mine := s.ownLinks src
        let new := (List.range 16).foldl (fun b k => withBit b k (bitOf (if bitOf mine k then links else old) k)) 0
        let s := s.put 0x1700 0x24 (new : Int)
        if new = old then .next s
        else if new &&& old ≠ old then .next (s.heal none)
        else .next (((s.refreshHops).sendTopology 0xFF).arrayNormal)
    else .next s
  else if s.arrayState = 0 then .next s
  else if state = 0 then .next s.toAlone
  else
    let lost := (positions mem).filter fun p => !bitOf reach p && bitOf (s.regN 0x1700 0x23) p
    let cut := decide (s.arrayState = 2) || !lost.isEmpty || decide (s.regN 0x1700 0x24 &&& links ≠ s.regN 0x1700 0x24)
    let s := (((s.put 0x1700 0x22 mem).put 0x1700 0x23 reach).put 0x1700 0x24 links).put 0x1700 0x25 epoch
    let s := s.modRunner fun r => { r with origins := r.origins.filter fun o => !lost.contains o }
    let s := (if lost.isEmpty then s else s.flag 0x1700 0x2B 2).refreshArrayCause
    let s := (s.arrayTo (if state = 3 then 3 else 2)).refreshHops
    let s := if bitOf reach 0 then s else s.flag 0x1700 0x2B 3
    if cut ∧ state = 3 then .next s.healed else .next s

/-- ARRAY_RESET written at position 0: the message, then its own warm reset; FORM follows at its entry to WATCH (R564). -/
def execArrayResetCmd (req : Requester) (s : State) : Host.Outcome State Fault Refusal :=
  .next (arrayCommand req (decide (s.position = 0 ∧ s.arrayState ≠ 0))
    (fun s => ((s.send (.runner 0xFF 0x52 [])).modRunner fun r => { r with reform := true }).requestWarm 7) s)

/-- ARRAY_HALT (R564). -/
def execArrayHaltRx (origin : Fin 8) (s : State) : Host.Outcome State Fault Refusal :=
  .next (if s.inArray then s.haltFrom origin else s)

/-- ARRAY_CLEAR (R564). -/
def execArrayClearRx (origin : Fin 8) (s : State) : Host.Outcome State Fault Refusal :=
  .next (s.modRunner fun r => { r with origins := r.origins.filter fun o => decide (o ≠ origin.val) }).refreshArrayCause

/-- ARRAY_RESET: a member resets with the grace of R294; a joiner abandons its join (R564, R569). -/
def execArrayResetRx (s : State) : Host.Outcome State Fault Refusal :=
  if s.inArray then .next (s.requestWarm 7)
  else if s.runner.joining then .next (s.joinFailed s.position)
  else .next s

/-- LEAVE at a member, in WATCH and HALT: a last report tells position 0 (R567). -/
def execArrayLeave (req : Requester) (s : State) : Host.Outcome State Fault Refusal :=
  .next (arrayCommand req (decide (s.position ≠ 0 ∧ s.arrayState ≠ 0) && wh s.ctl.mode)
    (fun s =>
      let m := withBit s.arrayMembers s.position false
      (s.send (.runner 0 0x04 [m, s.reg 0x1700 0x23, s.arrayState, s.reg 0x1700 0x24, s.reg 0x1700 0x25])).toAlone) s)

/-- ADMIT p at position 0, for a join that waits (R568). -/
def execArrayAdmitCmd (req : Requester) (p : Fin 8) (s : State) : Host.Outcome State Fault Refusal :=
  .next (match s.runner.waiting.find? fun w => decide (w.1 = p.val) with
    | some w => arrayCommand req (decide (s.position = 0 ∧ s.arrayState ≠ 0)) (fun s => s.takeJoin w.1 w.2.1 w.2.2 true) s
    | none => arrayCommand req false id s)

/-- A JOIN: position 0 decides it; two joins at one position in a formation refuse both, and a joiner that hears its own
position sees the conflict (R554, R568). -/
def execJoinRx (p : Fin 8) (identity revision : Nat) (again : Bool) (s : State) : Host.Outcome State Fault Refusal :=
  if s.position ≠ 0 then
    if s.runner.joining ∧ s.position = p.val then
      .next (((s.modRunner fun r => { r with joining := false, joinAt := none }).flag 0x1700 0x2B 4).event 0x1714 [p.val])
    else .next s
  else if s.arrayState = 0 ∨ p.val = 0 then .next s
  else if again then
    let s := if s.arrayState = 1 then
        (s.put 0x1700 0x22 ((withBit s.arrayMembers p false : Nat) : Int)).put 0x1700 0x23 ((withBit (s.regN 0x1700 0x23) p false : Nat) : Int)
      else s
    .next ((s.put (0x1710 + p.val) 0x01 0).modRunner fun r =>
      { r with waiting := r.waiting.filter (fun w => decide (w.1 ≠ p.val)), admits := r.admits.filter fun a => decide (a.1 ≠ p.val) })
  else .next (s.takeJoin p identity revision false)

/-- No TIME for 16 us: HOLDOVER (R417, R559). -/
def execRunnerTimeLoss (s : State) : Host.Outcome State Fault Refusal :=
  .next (if s.timeState = 4 then s.toHoldover else s)

/-- An ECHO leaves a port with the sender's local time (R559). -/
def execRunnerEchoTx (port : Fin 3) (s : State) : Host.Outcome State Fault Refusal :=
  .next (if vget s.runner.portUp port false then s.send (.runner port 0x02 [(s.now.toNat : Int)]) else s)

/-- An ECHO is answered on its port with the echoed value and the turnaround (R559). -/
def execRunnerEchoRx (port : Fin 3) (echoed : BitVec 64) (turnaround : Nat) (s : State) : Host.Outcome State Fault Refusal :=
  .next (s.send (.runner port 0x03 [(echoed.toNat : Int), turnaround]))

/-- An ECHO_REPLY gives the port's DELAY = (RT - TURNAROUND) / 2 (R559). -/
def execRunnerEchoReplyRx (port : Fin 3) (echoed arrival : BitVec 64) (turnaround : Nat) (s : State) :
    Host.Outcome State Fault Refusal :=
  .next (s.put (0x1701 + port.val) 0x03 (satU 32 (roundDiv (sdiff arrival echoed - turnaround) 2)))

/-- A TIME message of the neighbour towards position 0: the departure instant in master time, STEER of position 0 and the
local arrival. A joiner fixes ARRAY_OFFSET on its first; a member slews by STEER, which the servo chooses (R558, R559). -/
def execRunnerTimeRx (port : Fin 3) (t arrival : BitVec 64) (steer : BitVec 32) (s : State) : Host.Outcome State Fault Refusal :=
  if (s.runner.joining ∨ s.inArray) ∧ s.position ≠ 0 then
    let master := later t (s.reg (0x1701 + port.val) 0x03)
    let s := if s.runner.offsetFixed then s
      else (s.put 0x1700 0x26 (roundDiv (sdiff master arrival) 320 * 320)).modRunner fun r => { r with offsetFixed := true, aligned := 0 }
    let err := sdiff (s.toArray arrival) master
    let s := s.put 0x1700 0x27 (satS 32 err)
    let s := s.modRunner fun r => { r with aligned := if err.natAbs ≤ 64 then r.aligned + 1 else 0, masterSteer := steer.toInt }
    let s := if s.timeState = 3 ∧ s.arrayState ≠ 0 then s.toTimeState 4 else s
    if s.runner.aligned = 0 then .next s.freeSteer else .next (s.setSteer steer.toInt)
  else .next s

/-- Every 16th data frame a TIME message leaves for each neighbour: the departure in master time and STEER of position 0 (R557). -/
def execRunnerTimeTx (s : State) : Host.Outcome State Fault Refusal :=
  if s.inArray then
    .next ((List.range 2).foldl (fun s k =>
      if vget s.runner.portUp k false then
        s.send (.runner k 0x01 [((s.toArray s.now).toNat : Int), if s.position = 0 then s.reg 0x1400 0x0B else s.runner.masterSteer])
      else s) s)
  else .next s

/-- A SAMPLES message: its words are the source's shared samples, stamped with its output-phase instant (R560). -/
def execSamplesRx (src : Fin 8) (t : BitVec 64) (first : Fin 64) (words : List (BitVec 32)) (s : State) :
    Host.Outcome State Fault Refusal :=
  .next (if s.inArray ∧ bitOf (s.regN 0x1700 0x23) src then s.shareWords src first (s.fromArray t) (words.take 54) else s)

/-- SIEVE_SYNC arms an array synchronisation (R63). -/
def execSieveSyncMsg (t : BitVec 64) (s : State) : Host.Outcome State Fault Refusal :=
  .next (if s.inArray then s.addSync (s.fromArray t) 3 else s)

/-- A USER message, its header included, is delivered to Q17 (R522, R557). -/
def execUserMsgRx (port : Fin 3) (_src : Fin 8) (data : Bytes) (s : State) : Host.Outcome State Fault Refusal :=
  .next (if s.inArray then s.ringPostAll 17 (State.frameEntries data.length (2 + 2 * port.val) s.now data) else s)

/-- A lane frame on both lanes of a port: copies with their CRC, the errors a test frame shows on each lane, and the heads
of the messages a data frame carries (R543, R544, R552, R553, R556). The messages for this device are commands of their
own. -/
def execLaneFrameRx (port : Fin 3) (okA okB : Bool) (test : Option (Nat × Nat)) (heads : List RunnerHead) (s : State) :
    Host.Outcome State Fault Refusal :=
  let l := 8 + 2 * port.val
  match test with
  | some (a, b) =>
    let one (s : State) (l errs : Nat) : State := if s.patternRuns l then (s.countChecked l 2048 errs).injectBits l 1 else s
    .next (one (one s l a) (l + 1) b)
  | none =>
    if okA || okB then .next (if s.inArray then heads.foldl (fun s m => s.forward m) s else s)
    else .next (s.count 0x1700 0x29)

/-- The master of a share group is lost for 4 Rake periods: this member's ARRAY cause, and ARRAY_HALT (R566). -/
def execShareMasterLost (a : Fin 6) (s : State) : Host.Outcome State Fault Refusal :=
  if s.inArray ∧ s.cfg (0x6300 + a.val) 0x01 = 1 ∧ s.cfgN (0x6300 + a.val) 0x06 < 16 then
    .next (((s.modRunner fun r => { r with masterLost := true }).raiseCause .array).send (.runner 0xFF 0x50 [s.position]))
  else .next s

end Sys2Proof.Machine
end

