-- ==== Sys2Proof/Machine/Cores.lean ====
section
/-! DEFINITION. The application cores, the hardware rings and the progress guarantee (R512 to R533). -/

namespace Sys2Proof.Machine

namespace State

def modCores (s : State) (f : CoresUnit → CoresUnit) : State := { s with cores := f s.cores }

/-- ACTIVE_PAIR (R512). -/
def activePair (s : State) : Nat := s.regN 0x1A00 0x01

/-- PAIR_STATE of a pair: 0 reset, 1 running, 2 standby image. -/
def pairState (s : State) (p : Nat) : Nat := s.regN 0x1A00 0x02 / 4 ^ p % 4

def setPairState (s : State) (p v : Nat) : State :=
  s.put 0x1A00 0x02 ((if p = 0 then s.pairState 1 * 4 + v else v * 4 + s.pairState 0 : Nat) : Int)

/-- A switch is not committed, and FALLBACK_WINDOW has not passed since it (R631). -/
def fallbackOpen (s : State) : Bool :=
  match s.graft.switchedAt with
  | some t => decide (s.reg 0x1803 0x20 = 3 ∧ sdiff s.now t ≤ (sec (s.regN 0x1803 0x02) : Nat))
  | none => false

/-- A handover, or a BACK, sets its freeze beat: the first beat at least 100 us ahead (R631). -/
def startFreeze (s : State) (back byItself : Bool) : State :=
  let s := if back then s.setPairState (1 - s.activePair % 2) 2 else s
  (s.modGraft fun g => { g with back := back, selfBack := byItself, freezeDone := false,
                                 freezeAt := some (s.beatFrom (later s.now (us 100 : Nat))) }).put 0x1803 0x20 2

/-- The cores of a pair lose their copies of entry 0x0000 (R509). -/
def clearWindows (s : State) (p : Nat) : State :=
  (s.modWin (2 * p) fun _ => .clear).modWin (2 * p + 1) fun _ => .clear

/-- A core-reach reset of a pair: cause 1 watchdog, 2 crash, 3 command (R516). A core source during a cold or warm reset
is absorbed: its log bit is set (R601). The new active pair inside FALLBACK_WINDOW starts BACK (R631). -/
def coreReset (s : State) (p cause bit : Nat) : State :=
  if s.rst.reach ≠ 0 then s.modRst fun r => { r with sources := withBit r.sources bit true }
  else
    let s := (s.modCores fun c => { c with restarting := if c.restarting.contains p then c.restarting else c.restarting ++ [p] })
    let s := ((s.setPairState p 0).count 0x1A00 0x07).putT 0x1A00 0x08 s.now
    let s := (s.clearWindows p).stallEvent 0x1A16 [p, cause]
    if p = s.activePair ∧ s.fallbackOpen then s.startFreeze true true else s

/-- A ring access of a core is remembered for its pair (R527). -/
def noteAccess (s : State) (req : Requester) (q : Nat) : State :=
  match req with
  | .session _ => s
  | .queue c | .window c => s.modCores fun x => { x with access := vmod x.access (c.val / 2) fun _ => some (q, s.now) }

end State

/-- Cores produce these rings (R518). -/
def coreProduced (q : Nat) : Bool := [0, 5, 12, 14, 16, 18, 20, 21, 22, 27, 28, 29, 30].contains q

/-- Cores consume these rings (R518): all that hardware does not. -/
def coreConsumed (q : Nat) : Bool := !Dict.hwConsumer q

/-- A user ring (R512, R518). -/
def userRing (q : Nat) : Bool := decide (27 ≤ q ∧ q ≤ 30)

/-- A core of the standby pair, which neither consumes nor produces a ring but the user rings (R512). -/
def standbyCore (s : State) (req : Requester) (q : Nat) : Bool :=
  match req with
  | .session _ => false
  | .queue c | .window c => decide (c.val / 2 ≠ s.activePair) && !userRing q

/-- A request enters Q0; beyond 16 outstanding it will be answered with 0x0501, marked here by kind 1 (R521). -/
def State.postRequest (s : State) (b : Bytes) : State :=
  if 16 ≤ s.coreReq.outstanding then s.ringAppend 0 ⟨1, [], b, s.now⟩
  else (s.modCoreReq fun x => { x with outstanding := x.outstanding + 1 }).ringAppend 0 ⟨0, [], b, s.now⟩

/-- POST: the entries firmware wrote at TAIL onward become visible (R519). -/
def execRingPost (req : Requester) (q : Fin 32) (slots : List Bytes) (s : State) : Host.Outcome State Fault Refusal :=
  let i := 0x1A20 + q.val
  if standbyCore s req q then .next (s.answer req i 0x23 0x0201)
  else
    let bad := slots.isEmpty || !coreProduced q || decide (s.ringSize q < s.ringFill q + slots.length)
    .next (guarded req i 0x23 engineers true true (if bad then 0x0C02 else 0)
      (fun s => (slots.foldl (fun s b => if q.val = 0 then s.postRequest b else s.ringAppend q ⟨0, [], b, s.now⟩) s).noteAccess req q) s)

/-- RELEASE: the oldest entries leave the ring (R519). -/
def execRingRelease (req : Requester) (q : Fin 32) (value : Int) (s : State) : Host.Outcome State Fault Refusal :=
  let i := 0x1A20 + q.val
  if standbyCore s req q then .next (s.answer req i 0x24 0x0201)
  else
    let bad := decide (value ≤ 0) || !coreConsumed q || decide (((s.ring q).entries.length : Int) < value)
    .next (guardedWrite req i 0x24 engineers true (if bad then 0x0C02 else 0) (.num value)
      (fun s => (s.ringRelease q value.toNat).noteAccess req q) s)

/-- The sum of ENTRIES with ring q at n slots (R517). -/
def ringSum (s : State) (q n : Nat) : Nat :=
  (List.range 32).foldl (fun a r => a + if r = q then n else s.ringSize r) 0

/-- A legal size: a power of two from 16 to 4096 (R517). -/
def sizeOk (n : Int) : Bool := [16, 32, 64, 128, 256, 512, 1024, 2048, 4096].contains n

/-- BASE of every ring follows the sizes (R517). -/
def State.layRings (s : State) : State :=
  (List.range 32).foldl (fun s q =>
    s.put (0x1A20 + q) 0x25 ((List.range q).foldl (fun a r => a + 64 * s.ringSize r) 0x48000000 : Nat)) s

/-- ENTRIES or CLASS of a ring is written (R517, R532). -/
def execRingEntriesWrite (req : Requester) (q : Fin 32) (isClass : Bool) (value : Int) (s : State) :
    Host.Outcome State Fault Refusal :=
  let i := 0x1A20 + q.val
  let k := if isClass then 0x02 else 0x01
  let idle := decide ((s.ring q).entries = [] ∧ (s.ring q).reserved = 0)
  if isClass ∧ s.present req ∧ mayWrite s req engineers ∧ !userRing q then .next (s.answer req i k 0x0202)
  else
    let own := if !idle then 0x0C03
      else if isClass then 0
      else if !sizeOk value then 0x0C03
      else if 8192 < ringSum s q value.toNat then 0x0C03 else 0
    .next (guardedWrite req i k engineers (decide (s.ctl.mode = .dormant)) own (.num value)
      (fun s =>
        let s := s.put i k value
        if isClass then s
        else (s.modRing q fun r => { r with head := 0 }).layRings) s)

/-- WDT_KICK restarts the watchdog of the pair that writes it; a session has no pair (R515, R531). -/
def execWdtKick (req : Requester) (s : State) : Host.Outcome State Fault Refusal :=
  .next (guarded req 0x1A00 0x05 ⟨[], true⟩ true true 0
    (fun s => match req with
      | .session _ => s
      | .queue c | .window c => s.modCores fun x => { x with kicks := vmod x.kicks (c.val / 2) fun _ => s.now }) s)

/-- Half of WDT_PERIOD without a kick: interrupt source 45 (R514). -/
def execCoreWdtHalf (pair : Fin 2) (s : State) : Host.Outcome State Fault Refusal := .next (s.send (.irq (2 * pair.val) 45))

/-- The watchdog of a pair expires and applies WDT_REACH (R515). -/
def execCoreWdtExpiry (pair : Fin 2) (s : State) : Host.Outcome State Fault Refusal :=
  if s.rst.reach = 0 ∧ s.reg 0x1A00 0x04 = 1 then .next (s.requestWarm 6) else .next (s.coreReset pair 1 10)

/-- CORE_RESET is written (R515). -/
def execCoreResetCmd (req : Requester) (pair : Fin 2) (s : State) : Host.Outcome State Fault Refusal :=
  .next (guarded req 0x1A00 0x06 engineers true true 0 (fun s => s.coreReset pair 3 11) s)

/-- A double trap or an uncorrectable fetch error (R515). -/
def execCoreCrash (pair : Fin 2) (s : State) : Host.Outcome State Fault Refusal := .next (s.coreReset pair 2 9)

/-- The pair runs its firmware again, and its watchdog starts (R516). A pair held in reset stays there. -/
def execCoreRestartDone (pair : Fin 2) (s : State) : Host.Outcome State Fault Refusal :=
  if !s.cores.restarting.contains pair.val then .next s
  else
    let s := s.modCores fun c =>
      { c with restarting := c.restarting.filter fun p => decide (p ≠ pair.val), kicks := vmod c.kicks pair fun _ => s.now }
    let standby := decide (s.reg 0x1803 0x20 = 1 ∨ (s.reg 0x1803 0x20 = 2 ∧ !s.graft.back))
    .next (if pair.val = s.activePair then s.setPairState pair 1 else if standby then s.setPairState pair 2 else s)

/-- CLASS of a ring: 0 hard, 1 firm, 2 soft. -/
def State.ringClass (s : State) (q : Nat) : Nat := s.regN (0x1A20 + q) 0x02

/-- The pair that consumes a ring, none where hardware does (R527, R532). -/
def consumerPair (s : State) (q : Nat) : Option Nat :=
  match s.reg (0x1A20 + q) 0x04 with
  | 0 => some s.activePair
  | 1 => some 0
  | 2 => some 1
  | _ => none

/-- The ring of lower class the consumer last accessed since the oldest entry arrived (R527). -/
def inversion (s : State) (q : Nat) (posted : ST64) : Option (Nat × Nat) := do
  let p ← consumerPair s q
  let a ← vget s.cores.access p none
  if s.ringClass q < s.ringClass a.1 ∧ 0 ≤ sdiff a.2 posted then some (p, a.1) else none

/-- The oldest entry of a ring has stood longer than DRAIN_BOUND (R527). A breach on Q3 is recorded in the counters
only. -/
def execDrainBreach (q : Fin 32) (s : State) : Host.Outcome State Fault Refusal :=
  match (s.ring q).entries with
  | [] => .next s
  | e :: _ =>
    let i := 0x1A20 + q.val
    let age := wholeUs (sdiff s.now e.posted)
    let s := ((s.count i 0x27).flag i 0x29 0).count 0x1A60 0x01
    let s := if q.val ≠ 3 ∧ State.onceASecond s.now (s.ring q).lastStall then
        (s.modRing q fun r => { r with lastStall := some s.now }).stallEvent 0x1A10 [q.val, s.ringFill q, age]
      else s
    .next (match inversion s q e.posted with
      | none => s
      | some (p, low) =>
        let s := s.count 0x1A60 0x02
        if q.val = 3 then s else s.stallEvent 0x1A11 [q.val, low, p])

/-- The slot address of a dictionary entry in the window (R496, R498). -/
def slotAddress (i k : Nat) : Nat := 0x40000000 + i * 0x800 + k * 8

/-- A transaction is retried, at most three times; after the third it completes with an error (R525). An entry the device
posts names no requester: the event carries 0. -/
def execTransactionTimeout (t : Transaction) (attempt : Fin 4) (s : State) : Host.Outcome State Fault Refusal :=
  if attempt.val < 3 then .next s
  else
    let s := s.count 0x1A60 0x04
    .next (match t with
      | .window c i k => (s.stallEvent 0x1A13 [0x11, slotAddress i k]).answer (.window c) i k 0x0501
      | .request c i k => (s.stallEvent 0x1A13 [0x11, slotAddress i k]).answer (.queue c) i k 0x0501
      | .post q =>
        let r := s.ring q
        let tail := (r.head + r.entries.length) % max 1 (s.ringSize q)
        (s.stallEvent 0x1A13 [0, s.reg (0x1A20 + q.val) 0x25 + 64 * tail]).ringLost q 1)

end Sys2Proof.Machine
end

