-- ==== Sys2Proof/Machine/Power.lean ====
section
/-! DEFINITION. The power model, the budget and the Rotation scheduler (R579 to R597). -/

namespace Sys2Proof.Machine

/-! ## The power model (R579, R580) -/

/-- The number of k below n that satisfy p. -/
def countIf (n : Nat) (p : Nat → Bool) : Nat := ((List.range n).filter p).length

/-- The whole-milliwatt items of the model for a bed in FORM; the Runner lanes' enables belong to no bed. -/
def powerWhole (runnerOn : Nat → Bool) (bed : Store) : Nat :=
  let on (n base k : Nat) := countIf n fun x => decide (Bed.num bed (base + x) k = 1)
  let gate := on 8 0x6000 0x01
  let runner := countIf 6 runnerOn
  let engines := countIf 16 fun e => Bed.enabled bed e && decide (Bed.num bed (Bed.ctl e) 0x05 = 0)
  1600 + 300 + 300 - 30 * (8 - gate) - 20 * (6 - runner) + 90 * gate + 130 * runner + 30 * engines +
    10 * (countIf 48 fun c => decide (Bed.num bed (0x2000 + c) 0x01 ≠ 0 ∧ Bed.num bed 0x2101 (c / 6 + 1) ≠ 0)) + 20 * on 12 0x5000 0x01 + 10 * on 24 0x5020 0x01 +
    50 * on 6 0x6300 0x01 + 50 * on 4 0x9000 0x01

/-- A sum of the engines' busy power, 280 mW times L / P, as a fraction (R83, R96). -/
def powerBusy (bed : Store) : Nat × Nat :=
  (List.range 16).foldl (fun a e =>
    if Bed.enabled bed e && decide (Bed.num bed (Bed.ctl e) 0x05 = 0) then
      let p := max 1 (Bed.period bed e)
      (a.1 * p + 280 * Bed.length bed e * a.2, a.2 * p)
    else a) (0, 1)

/-- RESERVED of a bed at a junction limit, to the nearest milliwatt (R580). -/
def reservedOf (runnerOn : Nat → Bool) (bed : Store) (tjLimit : Int) : Nat :=
  let b := powerBusy bed
  let factor : Nat := 1000 + 8 * (tjLimit - 85).toNat
  (roundDiv (((powerWhole runnerOn bed * b.2 + b.1) * factor : Nat) : Int) (b.2 * 1000)).toNat

namespace State

/-- A Runner lane of the six is enabled. -/
def runnerLaneOn (s : State) (k : Nat) : Bool := s.slaneOn (8 + k)

/-- RESERVED of a bed under the present settings. -/
def reserved (s : State) (bed : Store) : Nat := reservedOf s.runnerLaneOn bed (s.reg 0x1301 0x02)

/-- RESERVED is recomputed for the active bed. -/
def refreshReserved (s : State) : State := s.put 0x1300 0x04 (s.reserved s.active)

/-! ## Grants -/

/-- DUTY and POWER of a task. -/
def duty (s : State) (t : Nat) : Nat := s.regN (0x1310 + t) 0x21
def taskPower (s : State) (t : Nat) : Nat := s.regN (0x1310 + t) 0x20

/-- G, the power of the present grants, in hundredths of a milliwatt. -/
def granted (s : State) : Nat := (List.range 10).foldl (fun a t => a + s.taskPower t * s.duty t) 0

/-- A task is requested: device tasks always, user tasks by Q20 (R585). -/
def taskRequested (s : State) (t : Nat) : Bool := decide (t < 6) || s.power.requested.contains t

/-- A task's duty changes: ROTATION_GRANT is queued, and a sounder at 0 % pauses at the next cycle 0 of its probe's engine (R253, R584, R585). -/
def setDuty (s : State) (t duty reason : Nat) : State :=
  let old := s.duty t
  if old = duty then s
  else
    let s := (s.put (0x1310 + t) 0x21 duty).putT (0x1310 + t) 0x24 s.now
    let s := s.put 0x1300 0x06 (roundDiv s.granted 100)
    let s := if old < duty then s.modPower fun p => { p with raised := vmod p.raised t fun _ => some s.now } else s
    let s := s.event 0x1310 [t, old, duty, reason, 0]
    if t = 1 ∧ duty = 0 then s.notePause else s

/-- A floor the budget cannot honour (R587). -/
def denyFloor (s : State) (t duty : Nat) (budget : Int) : State :=
  let s := ((s.put (0x1310 + t) 0x22 3).countBy 32 (0x1310 + t) 0x23 1).flag 0x1300 0x0A 0
  s.event 0x1311 [t, s.cfg (0x1310 + t) 0x02, duty, budget]

/-- Every SOFT grant is withdrawn: kind 1 power, 2 thermal (R586, R587). -/
def withdrawGrants (s : State) (kind : Nat) : State :=
  let s := s.flag 0x1300 0x0A kind
  if (List.range 10).all fun t => decide (s.duty t = 0) then s
  else
    let s := s.event 0x1312 [kind, s.reg 0x1300 0x01, s.reg 0x1300 0x02]
    (List.range 10).foldl (fun s t =>
      if s.duty t = 0 then s
      else
        let s := (s.setDuty t 0 2).put (0x1310 + t) 0x22 2
        if s.cfg (0x1310 + t) 0x02 = 0 then s else s.denyFloor t 0 0) s

/-- SENSOR_TJ of one sensor. -/
def putSensor (s : State) (k : Nat) (v : Int) : State :=
  let b := s.regB 0xF101 0x01
  s.putB 0xF101 0x01 (slice b 0 (2 * k) ++ toLe 2 v ++ slice b (2 * k + 2) (14 - 2 * k))

/-- TJ_LIMIT and TJ_LIMIT less THERM_MARGIN in tenths of a degree. -/
def tjLimit (s : State) : Int := 10 * s.reg 0x1301 0x02
def tjWithdraw (s : State) : Int := 10 * (s.reg 0x1301 0x02 - s.reg 0x1301 0x04)

end State

/-- A measurement: PKG_POWER and the rails where the 1 ms mean is due, and the sensors' readings in tenths of a degree,
none where a sensor fails its self-check; what such a sensor shows is free (R581, R683). Rotation withdraws at a hardware limit (R586), and the THERMAL cause
ends (R588). -/
def execPowerMeasurement (power : Option (Nat × List Nat)) (sensors : List (Option Int)) (s : State) :
    Host.Outcome State Fault Refusal :=
  let good := sensors.filterMap id
  let tj : Int := match good with
    | [] => s.tjLimit
    | a :: r => r.foldl max a
  let s := if good.length < 8 then s.flag 0x1300 0x0A 3 else s
  let s := (List.range 8).foldl (fun (s : State) k => match sensors.getD k none with
    | some v => s.putSensor k v
    | none => let d := s.draw; d.2.putSensor k d.1) s
  let s := s.put 0xF101 0x02 (ofBits ((List.range 8).map fun k => (sensors.getD k none).isSome) : Nat)
  let s := s.put 0x1300 0x02 tj
  let s := if s.reg 0x1300 0x03 < tj then s.put 0x1300 0x03 tj else s
  let s := match power with
    | some (p, rails) => (s.put 0x1300 0x01 p).putB 0x1300 0x07 ((rails.take 7).flatMap fun (r : Nat) => toLe 4 (r : Int))
    | none => s
  let beyond := match power with
    | some (p, _) => decide (s.reg 0x1301 0x01 < p)
    | none => false
  let bare := (List.range 10).all fun t => decide (s.duty t = 0)
  let s := if beyond && bare then s.count 0x1300 0x09 else s
  let s := if s.tjWithdraw ≤ tj then s.withdrawGrants 2 else s
  let s := if beyond then s.withdrawGrants 1 else s
  .next (if s.ctl.causes.contains HaltCause.thermal && decide (tj ≤ s.tjWithdraw) then
      (s.dropCause .thermal).event 0x1312 [4, s.reg 0x1300 0x01, s.reg 0x1300 0x02]
    else s)

/-- TJ has exceeded TJ_LIMIT for 10 ms (R588). -/
def execThermalCauseSet (s : State) : Host.Outcome State Fault Refusal :=
  if s.ctl.causes.contains .thermal then .next s
  else .next ((s.raiseCause .thermal).event 0x1312 [3, s.reg 0x1300 0x01, s.reg 0x1300 0x02])

/-! ## Decisions (R585, R587) -/

/-- S in hundredths of a milliwatt (R585, step 1). -/
def softBudget (s : State) : Nat :=
  if s.tjWithdraw ≤ s.reg 0x1300 0x02 then 0
  else
    let pkg := 100 * s.reg 0x1300 0x01 - s.granted
    (100 * s.reg 0x1301 0x01 - max (100 * s.reg 0x1300 0x04) pkg - 100 * s.reg 0x1301 0x03).toNat

/-- Task a comes before task b: by PRIORITY, then by the grant raised longest ago, then by number. -/
def taskBefore (s : State) (a b : Nat) : Bool :=
  let pa := s.cfg (0x1310 + a) 0x01
  let pb := s.cfg (0x1310 + b) 0x01
  if pa ≠ pb then decide (pb < pa)
  else match vget s.power.raised a none, vget s.power.raised b none with
    | none, some _ => true
    | some _, none => false
    | some x, some y => if x = y then decide (a < b) else decide (sdiff x y < 0)
    | none, none => decide (a < b)

/-- A task put in its place in the order of R585. -/
def insertTask (s : State) (t : Nat) : List Nat → List Nat
  | [] => [t]
  | u :: r => if taskBefore s t u then t :: u :: r else u :: insertTask s t r

/-- The requested tasks in the order of R585; one requested at this very instant waits for the following decision (R592). -/
def taskOrder (s : State) : List Nat :=
  ((List.range 10).filter fun t => s.taskRequested t && !s.power.asked.contains (t, s.now)).foldl (fun l t => insertTask s t l) []

/-- The largest duty up to a bound that a remainder affords, in whole percent; the sounder takes 0 or 100 (R583). -/
def affordable (power t want rest : Nat) : Nat :=
  let d := if power = 0 then want else min want (rest / power)
  if t = 1 ∧ d < 100 then 0 else d

/-- Steps 2 and 3: the duties granted, as (task, duty) in order, and what remains (R585). -/
def grantFloors (s : State) : List Nat → Nat → List (Nat × Nat) × Nat
  | [], rest => ([], rest)
  | t :: r, rest =>
    let d := affordable (s.taskPower t) t (s.cfgN (0x1310 + t) 0x02) rest
    let n := grantFloors s r (rest - d * s.taskPower t)
    ((t, d) :: n.1, n.2)

def grantCeilings (s : State) : List (Nat × Nat) → Nat → List (Nat × Nat)
  | [], _ => []
  | (t, d) :: r, rest =>
    let more := affordable (s.taskPower t) t (s.cfgN (0x1310 + t) 0x03 - d) rest
    (t, d + more) :: grantCeilings s r (rest - more * s.taskPower t)

/-- A decision of Rotation (R585, R587). -/
def execRotationDecision (s : State) : Host.Outcome State Fault Refusal :=
  let budget := softBudget s
  let floors := grantFloors s (taskOrder s) budget
  let duties := grantCeilings s floors.1 floors.2
  let S := roundDiv budget 100
  let s := (s.put 0x1300 0x05 S).putT 0x1300 0x08 s.now
  .next (duties.foldl (fun s g =>
    let s := (s.setDuty g.1 g.2 1).put (0x1310 + g.1) 0x22 (if g.2 = 0 then 2 else 1)
    if g.2 < s.cfgN (0x1310 + g.1) 0x02 then s.denyFloor g.1 g.2 S else s) s)

/-! ## User tasks (R590) -/

/-- The oldest Q20 entry: TASK, ACTION, POWER. -/
def userEntry (s : State) : Option (Nat × Nat × Nat) :=
  (s.ring 20).entries.head?.map fun e => (leNat (slice e.data 0 1), leNat (slice e.data 1 1), leNat (slice e.data 4 4))

/-- A Q20 entry that changes nothing (R590). -/
def State.refuseTask (s : State) (t : Nat) : State :=
  let d : Nat := if t < 10 then s.duty t else 0
  s.event 0x1310 [t, d, d, 4, 0x0C09]

/-- TASK and POWER of a Q20 entry are in range. -/
def taskValid (t power : Nat) : Bool := decide (6 ≤ t ∧ t ≤ 9 ∧ 1 ≤ power ∧ power ≤ 2000)

/-- The oldest Q20 entry declares a user task, or is one Rotation refuses (R590). -/
def execUserTaskRequest (s : State) : Host.Outcome State Fault Refusal :=
  match userEntry s with
  | none => .next s
  | some (t, action, power) =>
    if action = 2 then .next s
    else
      let s := s.ringRelease 20 1
      if action ≠ 1 ∨ !taskValid t power ∨ s.taskRequested t then .next (s.refuseTask t)
      else
        let asked := (t, s.now) :: s.power.asked.filter fun a => decide (a.1 ≠ t ∧ a.2 = s.now)
        let s := s.modPower fun p =>
          { p with asked := asked, requested := [6, 7, 8, 9].filter fun u => decide (u = t) || p.requested.contains u }
        .next ((s.put (0x1310 + t) 0x20 power).put (0x1310 + t) 0x22 2)

/-- The oldest Q20 entry releases a user task: its duty is 0 % at once (R590). -/
def execUserTaskRelease (s : State) : Host.Outcome State Fault Refusal :=
  match userEntry s with
  | none => .next s
  | some (t, action, power) =>
    if action ≠ 2 then .next s
    else
      let s := s.ringRelease 20 1
      if !taskValid t power then .next (s.refuseTask t)
      else
        let s := s.modPower fun p => { p with requested := p.requested.filter fun u => decide (u ≠ t) }
        .next ((s.setDuty t 0 3).put (0x1310 + t) 0x22 0)

/-- A write of the budget entry (R582, R596). -/
def execBudgetWrite (req : Requester) (k : Nat) (value : Int) (s : State) : Host.Outcome State Fault Refusal :=
  let n := s.put 0x1301 k value
  let own := if n.reg 0x1301 0x01 < (n.reserved n.active : Int) + n.reg 0x1301 0x03 then 0x0C08 else 0
  .next (guardedWrite req 0x1301 k engineers (dwh s.ctl.mode) own (.num value) (fun s => (s.put 0x1301 k value).refreshReserved) s)

end Sys2Proof.Machine
end

