-- ==== Sys2Proof/Machine/BedChecks.lean ====
section
/-! DEFINITION. The checks a bed must pass before a swap (R623): schedule fit, reloads, closed loops, remapping,
consistency and reservation, each as the code that refuses the bed, 0 where it passes. -/

namespace Sys2Proof.Machine

namespace Bed

/-- The first code of a list that is not 0. -/
def firstCode : List Nat → Nat
  | [] => 0
  | c :: r => if c ≠ 0 then c else firstCode r

/-- A code where a condition fails a bed. -/
def codeIf (bad : Bool) (code : Nat) : Nat := if bad then code else 0

/-! ## Schedule fit (R97, R98) -/

/-- The cadence check: BEAT, and every DIV and offset. -/
def cadenceOk (beat : Nat) (div offset : Nat → Nat) : Bool :=
  decide (80000 ≤ beat ∧ beat ≤ 8000000) &&
    (List.range 4).all fun c =>
      let d := div c
      decide (1 ≤ d ∧ beat % d = 0 ∧ 800 ≤ beat / d ∧ beat / d ≤ 800000 ∧ offset c < beat / d)

/-- An end word stands within the list. -/
def listEnds : Bytes → Bool
  | a :: _ :: r => decide (a = 0xFF#8) || listEnds r
  | _ => false

def listOk (bed : Store) (e : Nat) : Bool :=
  let l := list bed e
  listEnds ((bytes bed (ctl e) 0x04).take 512) &&
    l.all (fun w => decide (w.2 < 0xF0 ∧ type bed e w.2 ≠ 0) && (!w.1 || checkEligible (type bed e w.2))) &&
    (List.range l.length).all fun k => !((l.take k).map Prod.snd).contains (l.getD k (false, 0)).2

/-- A source is valid, and whether it delivers an ANG32 (R88). -/
def sourceKind (bed : Store) (e r : Nat) : Option Bool :=
  let wordAngle (g a : Nat) : Bool := match writer bed g a with
    | some w => outputAngle (type bed g w.1) w.2
    | none => false
  match refSpace r with
  | 0 => some (wordAngle e (refAddr r))
  | 1 => if refAddr r < 208 then some false else none
  | 2 => if enabled bed (refAddr r / 0x100) then some (wordAngle (refAddr r / 0x100) (refAddr r % 0x100)) else none
  | 3 => if refAddr r < 512 then some false else none
  | _ => none

/-- Input numbers an instance reads in a bed (R118, R196). -/
def reads (bed : Store) (e b : Nat) : List Nat :=
  inputsRead (type bed e b) (par bed e b) (decide (nat bed 0x4001 0x01 = e * 0x100 + b))

/-- The output words of an instance. -/
def outWords (bed : Store) (e b : Nat) : List Nat :=
  (List.range (blockOutputs (type bed e b))).map fun k => nat bed (inst e b) 0x02 + k

def refsOk (bed : Store) (e : Nat) : Bool :=
  let l := (list bed e).map Prod.snd
  l.all (fun b => (outWords bed e b).all (fun a => decide (a < 0x1000)) &&
    (reads bed e b).all fun k => decide (sourceKind bed e (input bed e b k) = some (inputAngle (type bed e b) k))) &&
    (List.range l.length).all fun k =>
      let b := l.getD k 0
      (l.take k).all fun c => (outWords bed e b).all fun a => !(outWords bed e c).contains a

def memoryOk (bed : Store) (e : Nat) : Bool :=
  let l := (list bed e).map Prod.snd
  decide ((l.map fun b => blockParamWords (type bed e b)).sum ≤ 8192) &&
    decide ((l.map fun b => blockStateWords (type bed e b) (whole bed e b 0x10)).sum ≤ 4096)

/-- The length and phase checks of an engine at a period of p cycles. -/
def lengthOk (bed : Store) (e p : Nat) : Bool := decide (length bed e + 32 ≤ p)
def phaseOk (bed : Store) (e p : Nat) : Bool :=
  decide (length bed e + 8 ≤ outputPhase bed e ∧ outputPhase bed e + 1 ≤ p)

/-- The enabled engines. -/
def engines (bed : Store) : List Nat := (List.range 16).filter (enabled bed)

/-- The fit check (R97). -/
def fitCheck (bed : Store) : Nat :=
  let es := engines bed
  firstCode [codeIf (!cadenceOk (beat bed) (div bed) (cadenceOffset bed)) 0x0C30,
    codeIf (!es.all (listOk bed)) 0x0C31, codeIf (!es.all (refsOk bed)) 0x0C32, codeIf (!es.all (memoryOk bed)) 0x0C33,
    codeIf (!es.all fun e => lengthOk bed e (period bed e)) 0x0702,
    codeIf (!es.all fun e => phaseOk bed e (period bed e)) 0x0702]

/-- A change of BEAT or of a divisor shortens the period of an engine in force beneath its schedule (R98). -/
def shortened (active : Store) (beat' : Nat) (div' : Nat → Nat) : Bool :=
  (engines active).any fun e =>
    let p := beat' / div' (nat active (ctl e) 0x02)
    decide (p < period active e) && !(lengthOk active e p && phaseOk active e p)

/-! ## Reloads (R288, R321) -/

/-- The carrier period of a Furrow in ST64 counts (R275). -/
def carrierLen (bed : Store) (f : Nat) : Nat :=
  nat bed (0x5000 + f) 0x03 * 640 * (if num bed (0x5000 + f) 0x02 = 1 then 2 else 1)

/-- Every output phase of an engine lies 16 counter clocks or more before the Furrow's next reload. -/
def reloadsOk (bed : Store) (e f : Nat) : Bool :=
  let c := carrierLen bed f
  let updown := decide (num bed (0x5000 + f) 0x02 = 1)
  let rel := nat bed (0x5000 + f) 0x04
  let step := if updown ∧ rel = 2 then c / 2 else c
  let base : Int := ((nat bed (0x5000 + f) 0x06 * 640 + if updown ∧ rel = 1 then c / 2 else 0 : Nat) : Int)
  let p := period bed e
  let first := cadenceOffset bed (nat bed (ctl e) 0x02) + outputPhase bed e
  decide (step ≠ 0 ∧ p ≠ 0) &&
    (List.range (beat bed / p)).all fun k =>
      let o : Int := ((first + k * p) * 320 : Nat)
      decide ((10240 : Int) ≤ (base - o) % (step : Int))

/-- Every MOD2L of the bed: its Furrow serves it, if it has one (R288, R321). -/
def phaseCheck (bed : Store) : Nat :=
  let bad := (ofType bed 28).any fun w =>
    let remote := decide (whole bed w.1 w.2 0x10 = 1)
    let p := whole bed w.1 w.2 0x12
    let i := if remote then 0x6100 + 0x20 * whole bed w.1 w.2 0x11 + p else 0x5020 + p
    let f := nat bed i 0x02
    !(decide (num bed i 0x01 = 1 ∧ f < 12 ∧ num bed (0x5000 + f) 0x05 = 1 ∧ num bed (0x5000 + f) 0x07 = 0) &&
      reloadsOk bed w.1 f)
  codeIf bad 0x0C91

/-! ## Consistency (R127, R183, R184) -/

/-- Nothing of a list stands in it twice. -/
def distinct {α : Type} [DecidableEq α] : List α → Bool
  | [] => true
  | a :: r => !(r.any fun b => decide (b = a)) && distinct r

def blockCheck (bed : Store) : Nat :=
  let l := listed bed
  let of (t : Nat) := l.filter fun w => decide (type bed w.1 w.2 = t)
  let pairs := (of 28).map fun w =>
    let t := whole bed w.1 w.2 0x10
    (t, (if t = 1 then whole bed w.1 w.2 0x11 else 0), whole bed w.1 w.2 0x12)
  let arms := (of 29).map fun w => whole bed w.1 w.2 0x10
  let taps := (of 31).filter fun w => decide (whole bed w.1 w.2 0x10 = 1)
  let words := taps.flatMap fun w => (List.range (whole bed w.1 w.2 0x11)).map fun k => whole bed w.1 w.2 0x12 + k
  firstCode [codeIf (l.any fun w => paramsInconsistent (type bed w.1 w.2) (par bed w.1 w.2)) 0x0C40,
    codeIf (!(distinct pairs && distinct arms && distinct words) ||
      taps.any fun w => decide (num bed (ctl w.1) 0x02 ≠ 0)) 0x0C41]

/-- A slot's Hedge has an input that an instance of the slot writes. -/
def hedgeFed (bed : Store) (e l h : Nat) : Bool :=
  (reads bed e h).any fun k =>
    let r := input bed e h k
    decide (refSpace r = 0) && (match writer bed e (refAddr r) with
      | some w => decide (loop bed e w.1 = some l)
      | none => false)

def loopCheck (bed : Store) : Nat :=
  let slotBad (e l : Nat) : Bool :=
    let h := nat bed (slot e l) 0x03
    decide (h ≠ 0xFF) && (decide (0xEF < h ∨ type bed e h ≠ 25) || !hedgeFed bed e l h)
  let ferrBad := (listed bed).any fun w =>
    decide (type bed w.1 w.2 = 26 ∧ loop bed w.1 w.2 = none ∧ (whole bed w.1 w.2 0x12 = 1 ∨ whole bed w.1 w.2 0x12 = 3))
  codeIf ((engines bed).any (fun e => (List.range 8).any (slotBad e)) || ferrBad) 0x0C51

/-! ## Grid forming and ride-through (R196, R204, R238) -/

/-- An enabled engine with this MONITOR setting. -/
def engineIs (bed : Store) (e : Nat) (monitor : Bool) : Bool :=
  enabled bed e && decide ((num bed (ctl e) 0x05 = 1) = monitor)

/-- An instance reference is none, or names a type in an engine of the right kind. -/
def bindOk (bed : Store) (k t : Nat) (monitor : Bool) : Bool :=
  let r := nat bed 0x4001 k
  decide (r = 0xFFFF) ||
    (decide (r < 0x1000 ∧ r % 0x100 < 0xF0 ∧ type bed (r / 0x100) (r % 0x100) = t) && engineIs bed (r / 0x100) monitor &&
      (decide (t ≠ 6) || decide (whole bed (r / 0x100) (r % 0x100) 0x13 = 1)))

/-- A SPACE 2 reference to an output word of a monitor engine, or none. -/
def monitorRefOk (bed : Store) (r : Nat) : Bool :=
  decide (r = 0xFFFF) || (engineIs bed (refAddr r / 0x100) true && (refWriter bed r).isSome)

/-- The bindings of a bed against the present mode (R196). -/
def bindingCheck (active bed : Store) (bound : Bool) : Nat :=
  codeIf (!(bindOk bed 0x01 21 true && bindOk bed 0x02 6 false && bindOk bed 0x03 27 true &&
      monitorRefOk bed (nat bed 0x4001 0x04) && monitorRefOk bed (nat bed 0x4001 0x05)) ||
    decide (nat bed 0x4002 0x01 = nat bed 0x4002 0x02 ∧ nat bed 0x4002 0x01 ≠ 0xFF) ||
    (bound && !same active bed 0x4001 1 3)) 0x0C60

/-- The start-up ramp lasts 10 ms to 60 s (R204). -/
def rampCheck (bed : Store) : Nat :=
  codeIf (decide (nat bed 0x4001 0x02 ≠ 0xFFFF) && (match State.rampOf bed with
    | some r => decide (r.2 < ms 10 ∨ ms 60000 < r.2)
    | none => true)) 0x0C61

/-- A curve's form (R231, R238): from 2 to 16 points, from 0, not decreasing, at most two of one time. -/
def curveOk (b : Bytes) : Bool :=
  let p := (curvePoints b).map Prod.fst
  decide (b.length % 8 = 0 ∧ 2 ≤ p.length ∧ p.length ≤ 16 ∧ p.getD 0 1 = 0) &&
    p.all (fun t => decide (t ≤ 600000000)) &&
    (List.range (p.length - 1)).all (fun k => decide (p.getD k 0 ≤ p.getD (k + 1) 0)) &&
    (List.range (p.length - 2)).all (fun k => decide (p.getD k 0 ≠ p.getD (k + 2) 0))

/-- UV lies below OV at a time in us. -/
def curvesApart (uv ov : List (Nat × Int)) (t : Nat) : Bool :=
  let a := curveAt uv (us t : Int)
  let b := curveAt ov (us t : Int)
  decide ((a.1 * a.2.2 + a.2.1) * b.2.2 < (b.1 * b.2.2 + b.2.1) * a.2.2)

def rideCheck (bed : Store) : Nat :=
  let lim := nat bed 0x4010 0x02
  let uv := bytes bed 0x4011 0x01
  let ov := bytes bed 0x4011 0x02
  let limOk := decide (lim = 0xFFFF) || decide (lim < 0x1000 ∧ lim % 0x100 < 0xF0 ∧ type bed (lim / 0x100) (lim % 0x100) = 24)
  let n (k : Nat) : Int := num bed 0x4010 k
  codeIf (!(monitorRefOk bed (nat bed 0x4010 0x01) && limOk &&
    decide (n 0x03 < n 0x05 ∧ n 0x05 ≤ n 0x06 ∧ n 0x06 < n 0x04) && curveOk uv && curveOk ov &&
    ((curvePoints uv ++ curvePoints ov).map Prod.fst).all (curvesApart (curvePoints uv) (curvePoints ov)))) 0x0C70

/-! ## The rules of the other owners, by ascending index -/

/-- SV and GOOSE (R472, R475, R485). -/
def netCheck (bed : Store) : Nat :=
  let svs := (List.range 16).filter fun n => decide (num bed (0x1510 + n) 0x01 = 1)
  let pubs := (List.range 16).filter fun n => decide (num bed (0x1540 + n) 0x01 = 1)
  let subs := (List.range 32).filter fun n => decide (num bed (0x1560 + n) 0x01 = 1)
  let maps := svs.flatMap fun n => ((bytes bed (0x1510 + n) 0x09).take (nat bed (0x1510 + n) 0x08)).filter fun b => decide (b.toNat < 128)
  let sourceBad (r : Nat) : Bool :=
    if 0xF000 ≤ r then decide (0xF00F < r)
    else decide (refSpace r = 0) || (sourceKind bed 0 r).isNone
  -- two entries match identical frames: source addresses of zeros match every source
  let alike (k a i j : Nat) (l : List Nat) : Bool :=
    l.all (fun x => decide (bytes bed i x = bytes bed j x)) && decide (nat bed i a = nat bed j a) &&
      (State.macMatches (bytes bed i k) (beNat (bytes bed j k)) || State.macMatches (bytes bed j k) (beNat (bytes bed i k)))
  let pairs (l : List Nat) (p : Nat → Nat → Bool) : Bool := l.any fun a => l.any fun b => decide (b < a) && p a b
  codeIf (!distinct maps ||
    (List.range 16).any (fun n => decide (nat bed (0x1540 + n) 0x0C < nat bed (0x1540 + n) 0x0B)) ||
    pubs.any (fun n => (State.gooseMembers (bytes bed (0x1540 + n) 0x09)).any fun m => sourceBad m.1) ||
    !distinct (pubs.map fun n => (nat bed (0x1540 + n) 0x03, bytes bed (0x1540 + n) 0x04)) ||
    pairs svs (fun a b => alike 0x03 0x04 (0x1510 + a) (0x1510 + b) [0x02, 0x05]) ||
    pairs subs (fun a b => alike 0x06 0x03 (0x1560 + a) (0x1560 + b) [0x02, 0x04])) 0x0CF0

/-- The Sieve (R67). -/
def sieveCheck (bed : Store) : Nat :=
  codeIf ((List.range 48).any fun c =>
    let i := 0x2000 + c
    let k := nat bed 0x2101 (c / 6 + 1)
    decide ((num bed i 0x01 = 2 ∧ k < 40) ∨ (bytes bed i 0x06).length ≠ 4 * nat bed i 0x04 ∨
      (num bed i 0x11 ≠ 0 ∧ num bed (0x2040 + nat bed i 0x12) 0x01 = 0) ∨ (num bed i 0x01 ≠ 0 ∧ k = 0))) 0x0C21

/-- References to the shared samples of positions outside EXPECTED, or more samples of all members than a C0 period carries:
this bed's shared words and the others' (R561). -/
def shareCheck (bed : Store) (expected others : Nat) : Nat :=
  let refBad := (listed bed).any fun w => (reads bed w.1 w.2).any fun k =>
    let r := input bed w.1 w.2 k
    decide (refSpace r = 3) && !bitOf expected (refAddr r / 64)
  let words := ((listed bed).map fun w =>
    if type bed w.1 w.2 = 31 ∧ whole bed w.1 w.2 0x10 = 1 then whole bed w.1 w.2 0x11 else 0).sum
  codeIf (refBad || decide (50 * (beat bed / div bed 0 * 125 / 20480) < words + others)) 0x0C06

/-- Furrows and local pairs (R276, R297). -/
def pwmCheck (bed : Store) : Nat :=
  let furrowBad := (List.range 12).any fun f =>
    let i := 0x5000 + f
    let c := nat bed i 0x03 * (if num bed i 0x02 = 1 then 4 else 2)
    decide (num bed i 0x05 = 1 ∧ (c = 0 ∨ beat bed % c ≠ 0 ∨ num bed i 0x07 = 1))
  let pairBad := (List.range 24).any fun p =>
    let i := 0x5020 + p
    let f := nat bed i 0x02
    decide ((num bed i 0x01 = 1 ∧ num bed (0x5000 + f) 0x01 ≠ 1) ∨
      carrierLen bed f < 10 * (2 * (nat bed i 0x04 + nat bed i 0x05)))
  codeIf (furrowBad || pairBad) 0x0C90

/-- The remote pairs of a lane that are enabled. -/
def remotes (bed : Store) (l : Nat) : List Nat :=
  (List.range 24).filter fun p => decide (num bed (0x6100 + 0x20 * l + p) 0x01 = 1)

/-- The nodes of a lane. -/
def laneNodes (bed : Store) (l : Nat) : List Nat := List.range (nat bed (0x6000 + l) 0x02)

/-- First channel and channel count of a node. -/
def nodeSpan (bed : Store) (l n : Nat) : Nat × Nat := (nat bed (0x6200 + 0x20 * l + n) 0x01, nat bed (0x6200 + 0x20 * l + n) 0x02)

/-- Gate lanes and the Rake (R332), then the lead times (R323, R325, R330). No register lists the members of a share group: h
gives the largest hop count between a master and a member, by whether this device's arm is the master's (DESIGN CHOICE, log
entry 114); RAKE_SHIFT is compared among the arms of the bed. -/
def gateCheck (bed : Store) (h : Bool → Nat) : Nat :=
  let lanes := List.range 8
  let rix (l p : Nat) := 0x6100 + 0x20 * l + p
  let spansBad := lanes.any fun l =>
    let ns := (laneNodes bed l).map (nodeSpan bed l)
    ns.any (fun s => decide (48 < s.1 + s.2)) || !distinct (ns.flatMap fun s => (List.range s.2).map fun k => s.1 + k) ||
      (remotes bed l).any fun p =>
        !(ns.any fun s => decide (s.1 ≤ 2 * p ∧ 2 * p < s.1 + s.2) && decide (s.1 ≤ 2 * p + 1 ∧ 2 * p + 1 < s.1 + s.2))
  let both := lanes.any fun l => (List.range 24).any fun p => decide (num bed (rix l p) 0x02 ≠ 0xFF ∧ num bed (rix l p) 0x06 ≠ 0xFF)
  let inArm := lanes.flatMap fun l => ((remotes bed l).filter fun p => decide (nat bed (rix l p) 0x06 < 6)).map fun p => (l, p)
  let wide := inArm.any fun x => ((laneNodes bed x.1).map (nodeSpan bed x.1)).any fun s =>
    decide (s.1 ≤ 2 * x.2 ∧ 2 * x.2 < s.1 + s.2 ∧ s.2 = 4)
  let slots := distinct (inArm.map fun x => (nat bed (rix x.1 x.2) 0x06, nat bed (rix x.1 x.2) 0x07))
  let fed (a : Nat) : Bool := (nlc bed a).isSome
  let refBad := (List.range 6).any fun a => fed a && decide (refSpace (nat bed (0x6300 + a) 0x02) ≠ 2)
  let groupBad := (List.range 16).any fun g =>
    let m := (List.range 6).filter fun a => decide (num bed (0x6300 + a) 0x01 = 1 ∧ nat bed (0x6300 + a) 0x06 = g)
    decide (4 < m.length ∨ 1 < (m.filter fed).length)
  let leadBad := lanes.any fun l => (remotes bed l).any fun p =>
    let f := nat bed (rix l p) 0x02
    let shift := nat bed (0x6000 + l) 0x03
    decide (shift < 1600 ∨ (f < 12 ∧ ms 8 < ns shift + carrierLen bed f))
  let armBad := (List.range 6).any fun a => match nlc bed a with
    | some w => decide (period bed w.1 < 1600)
    | none => false
  let shared (a : Nat) : Bool := decide (num bed (0x6300 + a) 0x01 = 1 ∧ nat bed (0x6300 + a) 0x06 < 16)
  let shareBad := (List.range 6).any fun a =>
    shared a && (decide (nat bed (0x6300 + a) 0x05 < 2600 + 150 * h (fed a)) || (List.range 6).any fun b =>
      shared b && decide (nat bed (0x6300 + b) 0x06 = nat bed (0x6300 + a) 0x06 ∧
        nat bed (0x6300 + b) 0x05 ≠ nat bed (0x6300 + a) 0x05))
  firstCode [codeIf (spansBad || both || wide || !slots || refBad || groupBad) 0x0CA0,
    codeIf (leadBad || armBad || shareBad) 0x0CA1]

/-- A leg's pair is enabled. -/
def legEnabled (bed : Store) (n : Nat) : Bool :=
  if n < 24 then decide (num bed (0x5020 + n) 0x01 = 1)
  else decide (n < 216 ∧ num bed (0x6100 + 0x20 * ((n - 24) / 24) + (n - 24) % 24) 0x01 = 1)

/-- The Shears: classes permitted for their kinds, legs enabled, and a group for class GROUP (R345, R368). -/
def shearsCheck (bed : Store) : Nat :=
  let triple (i k : Nat) : Bool :=
    let leg := nat bed i (k + 1)
    (decide (leg ≠ 0xFFFF) && !legEnabled bed leg) ||
      decide (num bed i k = 2 ∧ leg = 0xFFFF ∧ num bed i (k + 2) = 0xFF)
  let classBad (i k : Nat) (permitted : List Int) : Bool := !permitted.contains (num bed i k)
  let any := [(0 : Int), 1, 2, 3]
  codeIf ((List.range 48).any (fun c => classBad (0x7000 + c) 0x01 any || classBad (0x7000 + c) 0x04 any) ||
    (List.range 16).any (fun n => classBad (0x7030 + n) 0x01 any) ||
    (List.range 8).any (fun n => classBad (0x7040 + n) 0x01 [0, 2, 3] || [0x01, 0x02, 0x03].any fun k =>
      classBad (0x7050 + n) k [1, 2, 3]) ||
    (List.range 48).any (fun c => triple (0x7000 + c) 0x01 || triple (0x7000 + c) 0x04) ||
    (List.range 16).any (fun n => triple (0x7030 + n) 0x01) ||
    (List.range 8).any (fun n => decide (num bed (0x7040 + n) 0x01 = 2 ∧ num bed (0x7040 + n) 0x02 = 0xFF))) 0x0CB0

/-- FRAME_INTERVAL of a unit in ST64 counts under a bed (R441, R445). -/
def frameInterval (bed : Store) (u : Nat) : Nat :=
  let sel := nat bed (0x9000 + u) 0x05
  let spacing := match nat bed (0x9000 + u) 0x04 with
    | 0 => period bed sel * 320
    | 1 => if sel < 48 then nat bed 0x2101 (0x01 + sel / 6) * nat bed (0x2000 + sel) 0x03 * nat bed (0x2000 + sel) 0x05 * 320 else 0
    | _ => sel * 320
  spacing * nat bed (0x9000 + u) 0x06

/-- A unit's CLOCK_SEL and TRIG_REF name what their kinds mean, and a FURROW trigger has its Harvest bit (R441, R448, R458). -/
def harvestRefsOk (bed : Store) (u : Nat) : Bool :=
  let sel := nat bed (0x9000 + u) 0x05
  let ref := nat bed (0x9000 + u) 0x09
  (match nat bed (0x9000 + u) 0x04 with
    | 0 => decide (sel < 16)
    | 1 => decide (sel < 48)
    | _ => decide (80 ≤ sel ∧ sel ≤ 8000000)) &&
  (match nat bed (0x9000 + u) 0x08 with
    | 0 => true
    | 1 => decide (refSpace ref ≠ 0) && (sourceKind bed 0 ref).isSome
    | 2 => decide (ref / 256 % 16 < 12) && bitOf (nat bed (0x5000 + ref / 256 % 16) 0x0E) (4 + ref % 4)
    | _ => true)

/-- The Harvest (R440, R442, R446, R448). -/
def harvestCheck (bed : Store) : Nat :=
  let us' := (List.range 4).filter fun u => decide (num bed (0x9000 + u) 0x01 = 1)
  let blocks (u : Nat) := (nat bed (0x9000 + u) 0x02, nat bed (0x9000 + u) 0x02 + nat bed (0x9000 + u) 0x03)
  let partBad := us'.any fun u => decide (128 < (blocks u).2) ||
    us'.any fun v => decide (v < u ∧ (blocks u).1 < (blocks v).2 ∧ (blocks v).1 < (blocks u).2)
  let sourceBad := us'.any fun u => (harvestChannels bed u).any fun c =>
    decide (refSpace c.source = 0) || (sourceKind bed 0 c.source).isNone
  let preBad := us'.any fun u => decide (harvestLength bed u ≤ nat bed (0x9000 + u) 0x07)
  -- the sum of FRAME_BYTES / FRAME_INTERVAL as a fraction; 1024 bytes in 256 000 counts
  let rate := us'.foldl (fun (a : Nat × Nat) u =>
    let n := frameInterval bed u
    if n = 0 then a else (a.1 * n + frameBytes bed u * a.2, a.2 * n)) (0, 1)
  codeIf (partBad || sourceBad || preBad || us'.any (fun u => !harvestRefsOk bed u) || decide (1024 * rate.2 < rate.1 * us 1)) 0x0CE1

/-- Rotation's policy (R582, R589) against RESERVED. -/
def reserveCheck (bed : Store) (reserved envelope margin : Nat) (power : Nat → Nat) : Nat :=
  let floor (t : Nat) := nat bed (0x1310 + t) 0x02
  let ceiling (t : Nat) := nat bed (0x1310 + t) 0x03
  let orderBad := (List.range 10).any fun t => decide (ceiling t < floor t)
  let soundBad := decide ((floor 1 ≠ 0 ∧ floor 1 ≠ 100) ∨ (ceiling 1 ≠ 0 ∧ ceiling 1 ≠ 100))
  let sum := ((List.range 10).map fun t => floor t * power t).sum
  codeIf (decide (envelope < reserved + margin) || orderBad || soundBad ||
    decide (100 * (envelope - reserved - margin) < sum)) 0x0C08

end Bed

namespace State

/-! ## Loops and remapping (R186, R187, R264, R296, R624) -/

/-- A parameter of an instance is set aside in the comparison: a target named in both beds while the sounder adapts
(R264). -/
def setAside (s : State) (a b : Store) (e inst sub : Nat) : Bool :=
  s.adapting && soundTarget a e inst sub && soundTarget b e inst sub

/-- A swap from bed a to bed b changes a loop (R186). -/
def loopChanged (s : State) (a b : Store) (e l : Nat) : Bool :=
  (List.range 0xF0).any fun x =>
    (decide (Bed.loop a e x = some l) || decide (Bed.loop b e x = some l)) &&
      (List.range 0x4F).any fun k =>
        decide (Bed.value a (Bed.inst e x) (k + 1) ≠ Bed.value b (Bed.inst e x) (k + 1)) && !s.setAside a b e x (k + 1)

/-- Both beds carry the same mark other than 0 for a slot. -/
def markedBoth (a b : Store) (e l : Nat) : Bool :=
  decide (Bed.num a (Bed.slot e l) 0x02 = Bed.num b (Bed.slot e l) 0x02 ∧ Bed.num a (Bed.slot e l) 0x02 ≠ 0)

/-- Check 4: a swap to the shadow bed changes a CLOSED or TRACKING loop without a mark. -/
def loopsCheck (s : State) : Nat :=
  Bed.codeIf ((List.range 16).any fun e => (List.range 8).any fun l =>
    decide ((s.slot e l).state = .closed ∨ (s.slot e l).state = .tracking) && s.loopChanged s.active s.shadow e l &&
      !markedBoth s.active s.shadow e l) 0x0701

/-- A pair is remapped (R296). -/
def remapped (s : State) (p : Nat) : Bool :=
  let f := s.cfgN (0x5020 + p) 0x02
  let differs (i k : Nat) : Bool := decide (Bed.num s.active i k ≠ Bed.num s.shadow i k)
  [0x01, 0x02, 0x03, 0x06, 0x07].any (differs (0x5020 + p)) ||
    [0x01, 0x02, 0x03, 0x04, 0x05, 0x06, 0x07].any (differs (0x5000 + f))

/-- A pair pulses, or could pulse before the beat (R296, R624). -/
def couldPulse (s : State) (p : Nat) : Bool :=
  decide (s.cfg (0x5020 + p) 0x01 = 1) &&
    ((s.pulsing && (s.furrow (s.cfgN (0x5020 + p) 0x02)).running) ||
      decide (s.ctl.mode = .energize ∨ s.ctl.mode = .form ∨ s.ctl.mode = .ride ∨
        (s.ctl.mode = .watch ∧ s.ctl.sub = .connectPending)))

/-- Check 5. -/
def remapCheck (s : State) : Nat :=
  Bed.codeIf ((List.range 24).any fun p => s.remapped p && s.couldPulse p) 0x0C0B

/-! ## All checks (R623) -/

/-- The shared samples of the other members, as their SAMPLES messages have shown them to this device: the spec names no
register that holds them (R560, R561; DESIGN CHOICE, log entry 115). -/
def otherSamples (s : State) : Nat :=
  (s.shared.filter fun e => decide (e.1 / 64 ≠ s.position) && bitOf s.arrayMembers (e.1 / 64)).length

/-- Check 7: the bed rules in their order. -/
def consistencyCheck (s : State) : Nat :=
  let b := s.shadow
  let bound := decide (s.ctl.mode = .energize ∨ (s.ctl.mode = .watch ∧ s.ctl.sub = .connectPending))
  let held := decide (s.ctl.mode = .ride ∨ (s.ctl.mode = .form ∧ s.ctl.sub = .recovering))
  let rideSame := Bed.same s.active b 0x4010 1 0x0C && Bed.same s.active b 0x4011 1 2
  let far (m : Nat) := ((List.range 8).filter (bitOf s.arrayMembers)).foldl (fun h p => max h (hopsTo s.links m p)) 0
  let h (master : Bool) := far (if master then s.position else ((List.range 8).find? (bitOf s.arrayMembers)).getD 0)
  Bed.firstCode [Bed.blockCheck b, Bed.loopCheck b, Bed.bindingCheck s.active b bound, Bed.rideCheck b,
    Bed.codeIf (held && !rideSame) 0x0C71, Bed.soundCheck b, Bed.netCheck b, Bed.sieveCheck b,
    Bed.shareCheck b (s.regN 0x1700 0x02) s.otherSamples, Bed.rampCheck b, Bed.pwmCheck b, Bed.gateCheck b h, Bed.shearsCheck b,
    Bed.harvestCheck b]

/-- Check 2: the schedule fits, and no period in force is shortened beneath its schedule. -/
def scheduleCheck (s : State) : Nat :=
  Bed.firstCode [Bed.fitCheck s.shadow, Bed.codeIf (Bed.shortened s.active (Bed.beat s.shadow) (Bed.div s.shadow)) 0x0702]

/-- Check 8. -/
def reservationCheck (s : State) : Nat :=
  Bed.reserveCheck s.shadow (s.reserved s.shadow) (s.regN 0x1301 0x01) (s.regN 0x1301 0x03) s.taskPower

/-- Checks 2 to 8 on the shadow bed: the first that fails, as its code and number; (0, 0) where all pass. -/
def bedChecks (s : State) : Nat × Nat :=
  let codes := [s.scheduleCheck, Bed.phaseCheck s.shadow, s.loopsCheck, s.remapCheck,
    Bed.codeIf (decide (s.reg 0x1800 0x03 = 1 ∧ s.reg 0x1800 0x28 = 0)) 0x0801, s.consistencyCheck, s.reservationCheck]
  match (List.range 7).find? fun k => decide (codes.getD k 0 ≠ 0) with
  | some k => (codes.getD k 0, k + 2)
  | none => (0, 0)

end State

end Sys2Proof.Machine
end

