-- ==== Sys2Proof/Machine/Graft.lean ====
section
/-! DEFINITION. Graft: filling the shadow bed, swaps alone and across an array, and what every function takes from the
new bed (R614 to R629, R632 to R634). -/

namespace Sys2Proof.Machine

/-! ## Images (R620) -/

/-- A header field, most significant byte first. -/
def imgField (b : Bytes) (o n : Nat) : Nat := beNat (slice b o n)

def imgClass (b : Bytes) : Nat := imgField b 5 1
def imgSlot (b : Bytes) : Nat := imgField b 7 1
def imgRollback (b : Bytes) : Nat := imgField b 8 4
def imgLength (b : Bytes) : Nat := imgField b 20 4
def imgEntry (b : Bytes) : Nat := imgField b 28 4
def imgVersion (b : Bytes) : Nat := imgField b 64 8
def imgPayload (b : Bytes) : Bytes := slice b 512 (imgLength b)

/-- The MEASUREMENT of an image (R644). -/
def imgMeasure (b : Bytes) : Bytes := Config.digest (slice b 0 512 ++ imgPayload b)

/-- An image as a pair or the Cloche holds it. -/
def pairImage (b : Bytes) : PairImage := ⟨imgVersion b, imgEntry b, imgSlot b, imgRollback b, imgMeasure b, imgPayload b,
  decide (imgField b 6 1 % 2 = 1)⟩

/-- One record of a bed payload: index, sub-index, type code and value bytes. -/
structure BedRecord where
  index : Nat
  sub : Nat
  type : Nat
  value : Bytes

/-- The records of a payload, each padded to a multiple of 4 bytes; none where the syntax breaks. n bounds the number of
records. -/
def bedRecords : Nat → Bytes → Option (List BedRecord)
  | _, [] => some []
  | 0, _ :: _ => none
  | n + 1, b =>
    let len := beNat (slice b 4 2)
    let size := (8 + len + 3) / 4 * 4
    if b.length < size ∨ beNat (slice b 6 2) ≠ 0 then none
    else do
      let r ← bedRecords n (b.drop size)
      some (⟨beNat (slice b 0 2), beNat (slice b 2 1), beNat (slice b 3 1), slice b 8 len⟩ :: r)

/-- The records of an image's payload. -/
def imgRecords (b : Bytes) : Option (List BedRecord) := bedRecords (imgLength b / 8 + 1) (imgPayload b)

/-- TYPE of a block instance as the records give it. -/
def recordType (l : List BedRecord) (i : Nat) : Nat :=
  match l.find? fun r => decide (r.index = i ∧ r.sub = 1) with
  | some r => beNat r.value
  | none => 0

/-- Entry i is a block instance. -/
def isInstance (i : Nat) : Bool := decide (0x3000 ≤ i ∧ i < 0x4000 ∧ i % 0x100 < 0xF0)

/-- The row of sub-index k of entry i where it belongs to a bed (R614); type is the TYPE of a block instance. -/
def bedRow (type i k : Nat) : Option Row :=
  match (if isInstance i ∧ 0x10 ≤ k then Dict.findParam type k else Dict.find i k) with
  | some r => if r.acc = .rwo then some r else none
  | none => none

/-- The value a record's bytes spell, where they have the length its type asks for. -/
def recordValue (r : Row) (b : Bytes) : Option DVal :=
  match r.ty with
  | .string | .domain => if typeOk r (.bytes b) then some (.bytes b) else none
  | t =>
    if b.length ≠ t.width then none
    else
      let n := beNat b
      some (.num (if t.signed ∧ 2 * n ≥ 1 <<< (8 * t.width) then (n : Int) - p2 (8 * t.width) else n))

/-- A record names a bed sub-index of its declared type. -/
def recordOk (l : List BedRecord) (r : BedRecord) : Bool :=
  match bedRow (recordType l r.index) r.index r.sub with
  | some row => decide (row.ty.code = r.type) && (recordValue row r.value).isSome
  | none => false

/-- Ascending INDEX, then SUB. -/
def recordsRise : List BedRecord → Bool
  | a :: b :: r => decide (Dict.key a.index a.sub < Dict.key b.index b.sub) && recordsRise (b :: r)
  | _ => true

/-- A bed written from records; an omitted sub-index takes its default. -/
def bedOf (l : List BedRecord) : Store :=
  l.foldl (fun st r =>
    match bedRow (recordType l r.index) r.index r.sub with
    | some row => match recordValue row r.value with
      | some v => storePut st (Dict.key r.index r.sub) (Dict.stored r.index r.sub v)
      | none => st
    | none => st) []

/-- A bed's value as record bytes, most significant byte first. -/
def recordBytes (i k : Nat) (r : Row) (v : DVal) : Bytes :=
  let b := match v with
    | .num n => toBe r.ty.width n
    | .bytes b => b
  let body := toBe 2 i ++ toBe 1 k ++ toBe 1 r.ty.code ++ toBe 2 b.length ++ [0#8, 0#8] ++ b
  body ++ List.replicate ((4 - body.length % 4) % 4) 0#8

/-- The entries that have bed sub-indices (R614). -/
def bedEntries : List Nat :=
  let span (a n : Nat) : List Nat := (List.range n).map fun k => a + k
  [0x1210] ++ span 0x1310 10 ++ span 0x1510 16 ++ span 0x1540 16 ++ span 0x1560 32 ++ [0x1802] ++ span 0x2000 0xD0 ++ [0x2101] ++
    span 0x3000 0x1000 ++ [0x4001, 0x4002, 0x4003, 0x4010, 0x4011, 0x4020, 0x4023, 0x4024] ++ span 0x5000 12 ++ span 0x5020 24 ++
    [0x5040] ++ span 0x6000 8 ++ span 0x6100 0x200 ++ span 0x6300 6 ++ span 0x7000 0x58 ++ span 0x7100 216 ++ span 0x7200 16 ++
    span 0x9000 0x14

/-- The canonical payload form of a bed (R620). -/
def bedPayload (bed : Store) : Bytes :=
  bedEntries.flatMap fun i => (List.range 127).flatMap fun k =>
    match bedRow (Bed.nat bed i 0x01) i (k + 1) with
    | some r => recordBytes i (k + 1) r (Bed.value bed i (k + 1))
    | none => []

/-- ACTIVE_HASH and SHADOW_HASH (R615). -/
def bedHash (bed : Store) : Bytes := Config.digest (bedPayload bed)

namespace State

/-! ## The request (R622, R623) -/

def graftState (s : State) : Nat := s.regN 0x1800 0x20

/-- CHECKING or PENDING. -/
def graftBusy (s : State) : Bool := decide (s.graftState = 1 ∨ s.graftState = 2)

/-- The device belongs to a formed array. -/
def arrayFormed (s : State) : Bool := decide (2 ≤ s.arrayState)

/-- GRAFT_RESULT (R633). -/
def graftResult (s : State) (code check : Nat) (beat : ST64) (kind : Nat) : State :=
  ((s.put 0x1800 0x21 code).put 0x1800 0x22 check).event 0x1810 [code, check, (beat.toNat : Int), kind]

/-- A swap request ends without a swap: STATE, RESULT and GRAFT_RESULT; held loops and waiting joins are free again. -/
def endSwap (s : State) (state code check : Nat) : State :=
  match s.graft.swap with
  | some w =>
    let s := (s.put 0x1800 0x20 state).modGraft fun g =>
      { g with swap := none, remaps := false, hold := [], revoked := false }
    (s.graftResult code check w.beat w.kind).releaseJoins
  | none => s

/-- A refusal by one of the checks: REFUSED, and REFUSALS advances (R623, R625). -/
def refuseSwap (s : State) (code check : Nat) : State := (s.count 0x1800 0x2A).endSwap 4 code check

/-- Check 1 of a request for the beat at or after SWAP_AT; back is a SWAP_BACK. -/
def requestCheck (s : State) (back : Bool) : Nat :=
  let d := sdiff (s.beatFrom (s.regT 0x1800 0x02)) s.now
  let low : Nat := if s.arrayFormed then ms 5 else ms 1
  if back ∧ s.reg 0x1800 0x25 = 0 then 0x0C0D
  else if s.graftBusy then 0x0C0D
  else if d < low ∨ (sec 10 : Int) < d then 0x0C0D
  else if s.arrayFormed ∧ s.position ≠ 0 then 0x0C06
  else 0

/-- The loops a swap to the shadow bed changes without a mark (R628). -/
def heldLoops (s : State) : List (Nat × Nat) :=
  (List.range 16).flatMap fun e => ((List.range 8).filter fun l =>
    s.loopChanged s.active s.shadow e l && !markedBoth s.active s.shadow e l).map fun l => (e, l)

/-- The shadow bed remaps a pair. -/
def remapsAny (s : State) : Bool := (List.range 24).any fun p => s.remapped p

/-- Every check passed: PENDING (R623, R624). -/
def pendSwap (s : State) : State :=
  (s.put 0x1800 0x20 2).modGraft fun g => { g with remaps := s.remapsAny }

/-- ARRAY_SET of the shadow bed. -/
def arraySet (s : State) : Bytes := Bed.bytes s.shadow 0x1802 0x01

end State

/-- A SWAP or SWAP_BACK request: its answer is the result of check 1, and a refusal by it is recorded without a change of
STATE (R622, R623, R628). -/
def swapRequest (req : Requester) (back : Bool) (s : State) : State :=
  let code := s.requestCheck back
  let kind := if s.arrayFormed then 3 else if back then 2 else 1
  let beat := s.beatFrom (s.regT 0x1800 0x02)
  let s := if s.present req && mayWrite s req engineers && decide (code ≠ 0) then
      ((s.count 0x1800 0x2A).put 0x1800 0x21 code).put 0x1800 0x22 1
    else s
  guarded req 0x1800 0x01 engineers true true code
    (fun s => ((((s.put 0x1800 0x20 1).put 0x1800 0x21 0).put 0x1800 0x22 0).putT 0x1800 0x23 beat).modGraft fun g =>
      { g with swap := some ⟨beat, kind, false⟩, votes := [], voted := none, decided := none, remaps := false
               hold := [], revoked := false }) s

/-! ## The exchange (R625, R626) -/

namespace State

/-- A sparse list without the keys of an instance: key / 8 is the instance. -/
def dropInst {α : Type} (b : Nat) (l : List (Nat × α)) : List (Nat × α) := l.filter fun e => decide (e.1 / 8 ≠ b)

/-- An instance whose TYPE has changed starts with its state words and output words zero (R626). -/
def freshInstance (s : State) (e b : Nat) : State :=
  s.modEngine e fun n =>
    { n with words := dropInst b n.words, outputs := dropInst b n.outputs, instPub := dropInst b n.instPub, seen := dropInst b n.seen
             computed := n.computed.filter (fun x => decide (x ≠ b)), tapPhase := del b n.tapPhase
             signal := (Bed.outWords s.active e b).foldl (fun m a => del a m) n.signal }

/-- The engines take the new bed: a period in progress completes under the old one, changed instances start afresh, and the
latency extremes restart (R106, R626). -/
def swapEngines (s : State) (old : Store) : State :=
  (List.range 16).foldl (fun s e =>
    let s := s.modEngine e fun n => { n with bed := if n.inPeriod then some (n.bed.getD old) else none }
    let s := (List.range 240).foldl (fun s b =>
      if Bed.type old e b = Bed.type s.active e b then s else s.freshInstance e b) s
    (s.put (Bed.status e) 0x07 0).put (Bed.status e) 0x08 0) s

/-- What a swap brings a slot at its next period (R168, R188). -/
def slotMark (s : State) (old : Store) (e l : Nat) : Nat :=
  if slotUsed s.active e l then
    if slotUsed old e l then
      (if s.loopChanged old s.active e l && markedBoth old s.active e l then Bed.nat s.active (Bed.slot e l) 0x02 else 0)
    else 3
  else if slotUsed old e l then 4 else 0

/-- The loop slots take the new bed; in an engine that is not ACTIVE at once (R167). -/
def swapSlots (s : State) (old : Store) : State :=
  (List.range 16).foldl (fun s e =>
    let s := (List.range 8).foldl (fun s l => s.modSlot e l fun w => { w with mark := s.slotMark old e l }) s
    s.settleSlots e) s

/-- The Furrows take the new bed: a running one at its next reload, another at once (R296). -/
def swapFurrows (s : State) : State :=
  (List.range 12).foldl (fun s f =>
    if (s.furrow f).running then s.modFurrow f fun g => { g with newSettings := true }
    else if s.ctl.fastClocks then s.startFurrow f
    else s.takeFurrow f) s

/-- The applied value of the target that number k of the new bed names, whichever number named it before (R264). -/
def targetKept (s : State) (old : Store) (k : Nat) : Option (Nat × Int) :=
  match Bed.target s.active k with
  | some t =>
    match (List.range 8).find? fun j => decide (Bed.target old j = some t) with
    | some j => (look j s.sounder.targets).map fun v => (k, v)
    | none => none
  | none => none

/-- The sounder takes the new bed: an estimate whose configuration changed is abandoned, targets that one bed alone names are
forgotten, and the dwell restarts (R254, R264). -/
def swapSounder (s : State) (old : Store) : State :=
  let moved := !Bed.same old s.active 0x4020 1 8 || (match Bed.probe s.active with
    | some (e, b) => !Bed.same old s.active (Bed.inst e b) 1 0x4F
    | none => false)
  let s := if moved then s.abandonEstimate 4 else s
  (s.modSounder fun n => { n with dwellFrom := s.now, targets := (List.range 8).filterMap (s.targetKept old) }).putApplied

/-- Ride-through runs restart where its configuration changed. -/
def swapRide (s : State) (old : Store) : State :=
  if Bed.sameRide old s.active then s
  else s.modRide fun r => { r with vRun := none, iRun := none, recRun := none }

/-- The values the sounder keeps across a swap: targets named in both beds while it adapts (R264). -/
def keepTargets (s : State) (bed : Store) : Store :=
  if s.adapting then
    (List.range 8).foldl (fun st k =>
      match Bed.target s.active k with
      | some (e, b, p) =>
        if soundTarget bed e b p then ins (Dict.key (Bed.inst e b) p) (Bed.value s.active (Bed.inst e b) p) st else st
      | none => st) bed
  else bed

/-- Every function takes a new active bed at a beat (R84, R106, R296, R480, R626). -/
def newBed (s : State) (old : Store) (beat : ST64) : State :=
  let s := if Bed.beat old = Bed.beat s.active then s else s.setBeatOrigin beat
  let s := ((s.swapEngines old).swapSlots old).swapShears old
  let s := ((((s.swapSieve old).swapWindows).swapNet old).swapFurrows).harvestSpacingChanged
  ((((s.swapSounder old).refreshDeadbus).swapRide old).refreshReserved).modGraft fun g => { g with before := some (beat, old) }

/-- The two beds exchange roles at the beat, and each function takes the new bed (R625). -/
def exchange (s : State) (w : SwapRequest) : State :=
  let old := s.active
  let g := s.graft
  let signed := s.reg 0x1800 0x28
  let s := s.setBeds (s.keepTargets s.shadow) old
  let s := s.modGraft fun g' =>
    { g' with swap := none, remaps := false, hold := [], revoked := false, activeImage := g.shadowImage
              shadowImage := g.activeImage, activeSigned := decide (signed = 1) }
  let s := (s.put 0x1800 0x28 (if g.activeSigned then 1 else 0)).put 0x1900 0x08 (match g.shadowImage with
    | some x => (x.2 : Int)
    | none => 0)
  let s := (((s.put 0x1800 0x20 3).put 0x1800 0x25 1).count 0x1800 0x29).putT 0x1800 0x24 w.beat
  let s := s.newBed old w.beat
  (s.graftResult 0 0 w.beat w.kind).releaseJoins

/-- The first refusing vote, or 0x0C0D for a member without a vote or LOST (R629). -/
def voteCode (s : State) : Nat :=
  match s.graft.votes.find? fun v => decide (v.2 ≠ 0) with
  | some v => v.2
  | none =>
    let ok (p : Nat) : Bool := s.graft.votes.any (fun v => decide (v.1 = p)) && decide (s.memberState p ≠ 3)
    Bed.codeIf (!(positions s.graft.members).all fun p => decide (p = 0) || ok p) 0x0C0D

/-- GRAFT_DECIDE leaves position 0: the swap beat, and commit or abandon (R557, R629). -/
def sendDecide (s : State) (commit : Bool) : State :=
  s.send (.runner 0xFF 0x42 [((s.toArray (s.regT 0x1800 0x23)).toNat : Int), (commit.toNat : Int)])

end State

namespace State

/-- A PENDING swap is taken: checks 4 and 5 on the states in force, then the exchange. A swap that relied on a revoked key is
refused (R625, R639); a member swaps only on a commit (R629). -/
def swapNow (s : State) : State :=
  match s.graft.swap with
  | some w =>
    if s.graftState ≠ 2 then s
    else if w.kind = 3 ∧ s.graft.decided ≠ some true then s.endSwap 5 0x0C0D 0
    else if s.loopsCheck ≠ 0 then s.refuseSwap s.loopsCheck 4
    else if s.remapCheck ≠ 0 then s.refuseSwap s.remapCheck 5
    else if s.graft.revoked then s.refuseSwap 0x0801 6
    else s.exchange w
  | none => s

/-- What starts at the swap beat starts under the new bed: a swap whose beat has come is taken first (R106). -/
def beatFirst (s : State) : State :=
  match s.graft.swap with
  | some w => if 0 ≤ sdiff s.now w.beat then s.swapNow else s
  | none => s

end State

/-! ## Commands of entry 0x1800 -/

/-- COPY: the shadow bed equals the active bed (R615, R617). -/
def execGraftCopy (req : Requester) (s : State) : Host.Outcome State Fault Refusal :=
  .next (guarded req 0x1800 0x01 engineers true true (if s.graftBusy then 0x0501 else 0)
    (fun s =>
      let s := (s.setShadow s.active).modGraft fun g => { g with shadowImage := none }
      (s.put 0x1800 0x25 0).put 0x1800 0x28 0) s)

/-- LOAD: the shadow bed is written from a verified bed image (R615, R621). -/
def execGraftLoad (req : Requester) (s : State) : Host.Outcome State Fault Refusal :=
  let ready := decide (s.reg 0x1801 0x20 = 3 ∧ s.graft.verified = some 1)
  .next (guarded req 0x1800 0x01 engineers true true (if s.graftBusy then 0x0501 else if ready then 0 else 0x0C0D)
    (fun s =>
      let b := s.graft.stage
      let s := (s.setShadow (bedOf ((imgRecords b).getD []))).modGraft fun g =>
        { g with shadowImage := some (imgSlot b, imgRollback b) }
      (s.put 0x1800 0x25 0).put 0x1800 0x28 1) s)

/-- SWAP (R622). -/
def execGraftSwap (req : Requester) (s : State) : Host.Outcome State Fault Refusal := .next (swapRequest req false s)

/-- SWAP_BACK (R622). -/
def execGraftSwapBack (req : Requester) (s : State) : Host.Outcome State Fault Refusal := .next (swapRequest req true s)

/-- CANCEL; a swap whose beat has come is taken first (R627). An array swap that position 0 has proposed is abandoned at the
members too (R629). -/
def execGraftCancel (req : Requester) (s : State) : Host.Outcome State Fault Refusal :=
  let s := s.beatFirst
  .next (guarded req 0x1800 0x01 engineers true true (if s.graftBusy then 0 else 0x0C0D)
    (fun s =>
      let proposed := s.joinsWait && decide (s.graftState = 2 ∧ s.position = 0)
      let s := if proposed then s.sendDecide false else s
      s.endSwap 0 0x0C0D 0) s)

namespace State

/-- A member's vote on a proposal leaves for position 0 (R628). -/
def castVote (s : State) (beat : ST64) (code : Nat) : State :=
  (s.modGraft fun g => { g with voted := some code }).send (.runner 0 0x41 [((s.toArray beat).toNat : Int), code])

/-- A member judges its shadow bed against the proposal it holds, and votes (R628). -/
def judgeProposal (s : State) (w : SwapRequest) : State :=
  let c := if s.bedChecks.1 ≠ 0 then s.bedChecks else if s.arraySet = s.graft.proposedSet then (0, 0) else (0x0C0D, 1)
  if c.1 ≠ 0 then (s.refuseSwap c.1 c.2).castVote w.beat c.1
  else
    let s := ((s.pendSwap).put 0x1800 0x21 0).put 0x1800 0x22 0
    (s.modGraft fun g => { g with hold := s.heldLoops }).castVote w.beat 0

end State

/-- The checks of a request are complete (R623); position 0 of an array then proposes the swap, and a member votes on the
proposal it holds (R628). While GRAFT_VERIFY has no duty they make no progress (R619). -/
def execSwapChecksDone (s : State) : Host.Outcome State Fault Refusal :=
  if s.graftState ≠ 1 ∨ s.duty 2 = 0 then .next s
  else
    let c := s.bedChecks
    let held := match s.graft.swap with
      | some w => if w.byArray then some w else none
      | none => none
    match held with
    | some w => .next (s.judgeProposal w)
    | none =>
    if c.1 ≠ 0 then .next (s.refuseSwap c.1 c.2)
    else
      let s := s.pendSwap
      match s.graft.swap with
      | some w =>
        if w.kind = 3 then
          let s := s.modGraft fun g => { g with members := s.arrayMembers, votes := [], hold := s.heldLoops }
          .next (s.send (.runner 0xFF 0x40 [((s.toArray w.beat).toNat : Int), (beNat s.arraySet : Int)]))
        else .next s
      | none => .next s

/-- The checks still run at the beat less 200 us: check names the one in progress (R619, R623). -/
def execSwapCheckDeadline (check : Fin 9) (s : State) : Host.Outcome State Fault Refusal :=
  if s.graftState ≠ 1 then .next s else .next (s.refuseSwap 0x0C0D check)

/-- A member checks its shadow bed against a proposal and votes; while GRAFT_VERIFY has no duty the checks wait (R619,
R628). -/
def execGraftProposeRx (beat : BitVec 64) (set : Bytes) (s : State) : Host.Outcome State Fault Refusal :=
  let t := s.fromArray beat
  if s.position = 0 ∨ !s.arrayFormed then .next s
  else if s.graftBusy then .next (s.castVote t 0x0C0D)
  else
    let w : SwapRequest := ⟨t, 3, true⟩
    let s := ((s.putT 0x1800 0x23 t).put 0x1800 0x20 1).modGraft fun g =>
      { g with swap := some w, decided := none, revoked := false, proposedSet := set }
    if s.duty 2 = 0 then .next s else .next (s.judgeProposal w)

/-- Position 0 records a vote on the swap it proposed, by its beat (R629). -/
def execGraftVoteRx (p : Fin 8) (beat : BitVec 64) (code : Nat) (s : State) : Host.Outcome State Fault Refusal :=
  if s.position = 0 ∧ s.joinsWait ∧ s.graftState = 2 ∧ s.fromArray beat = s.regT 0x1800 0x23 then
    .next (s.modGraft fun g => { g with votes := g.votes.filter (fun v => decide (v.1 ≠ p.val)) ++ [(p.val, code)] })
  else .next s

/-- Position 0 decides at the beat less 800 us, and repeats its decision (R629). -/
def execGraftDecideTx (s : State) : Host.Outcome State Fault Refusal :=
  if s.position ≠ 0 then .next s
  else match s.graft.decided with
    | some commit => .next (s.sendDecide commit)
    | none =>
      if s.joinsWait ∧ s.graftState = 2 then
        let code := s.voteCode
        let s := (s.modGraft fun g => { g with decided := some (decide (code = 0)) }).sendDecide (decide (code = 0))
        if code = 0 then .next s else .next (s.endSwap 5 code 0)
      else .next s

/-- A member takes the decision on the swap at a beat: a commit lets it swap, an abandonment ends its swap with the code
of the first refusing member, which the message itself does not carry (R629). -/
def execGraftDecideRx (beat : BitVec 64) (commit : Bool) (code : Nat) (s : State) : Host.Outcome State Fault Refusal :=
  match s.graft.swap with
  | some w =>
    if w.byArray ∧ s.graft.decided = none ∧ s.fromArray beat = w.beat then
      let s := s.modGraft fun g => { g with decided := some commit }
      if commit then .next s else .next (s.endSwap 5 code 0)
    else .next s
  | none => .next s

/-- No decision by the beat less 100 us: the member does not swap, sets its ARRAY cause and sends ARRAY_HALT (R629). The
cause is momentary: nothing names its end. -/
def execGraftNoDecision (s : State) : Host.Outcome State Fault Refusal :=
  match s.graft.swap with
  | some w =>
    if w.byArray ∧ s.graft.decided = none then
      let s := s.endSwap 5 0x0C0D 0
      .next (((s.raiseCause .array).refreshArrayCause).send (.runner 0xFF 0x50 [s.position]))
    else .next s
  | none => .next s

/-- The swap beat (R625). -/
def execSwapBeat (s : State) : Host.Outcome State Fault Refusal := .next s.swapNow

/-- A reload event of a Furrow: shadows transfer, then remote edges are generated (R285, R322). -/
def execFurrowReload (f : Fin 12) (atPeriod : Bool) (s : State) : Host.Outcome State Fault Refusal :=
  let s := s.beatFirst
  if (s.furrow f).running && s.isReload f atPeriod then .next ((s.reloadLocal f atPeriod).reloadRemotes f) else .next s

/-- No period of engine e starts now: less than 1 us has passed since its domain reset (R608). -/
def State.heldOff (s : State) (e : Nat) : Bool :=
  match (s.engine e).holdOff with
  | some t => decide (sdiff s.now t < 0)
  | none => false

/-- Cycle 0 of a period of engine e. mism lists the instances whose coded check mismatches, and whether the retry does
too (R89 to R108, R124). -/
def execEnginePeriod (e : Fin 16) (mism : List (Nat × Bool)) (s : State) : Host.Outcome State Fault Refusal :=
  let s := s.beatFirst
  if s.engineActive e && !s.heldOff e then
    .next ((((s.sounderPeriod e).period e mism).putFraction e).sounderPeriodEnd e)
  else .next s

end Sys2Proof.Machine
end

