-- ==== Sys2Proof/Machine/Live.lean ====
section
/-! DEFINITION. Live changes beside a swap: staging and verification of images, the firmware handover, the beds of a
joiner, the Cloche's firmware update and the clock update (R397 to R399, R429 to R432, R568, R618 to R621, R630, R631,
R643, R648). -/

namespace Sys2Proof.Machine

namespace State

/-! ## Rootstock's judgement of an image (R621, R643) -/

/-- The state of key slot k: 0 EMPTY, 1 ACTIVE, 2 REVOKED, 3 FAULT (R637). -/
def keySlot (s : State) (k : Nat) : Nat := s.regN 0x1900 0x02 / 4 ^ k % 4

/-- The owner public key of slot k (R642). -/
def ownerKey (s : State) (k : Nat) : Bytes := slice (s.regB 0x1901 0x05) (388 * k) 388

/-- The value the anti-rollback counter of a class holds or is being raised to; classes beyond 4 have none (R648, R653). -/
def rollbackOf (s : State) (c : Nat) : Nat := if 1 ≤ c ∧ c ≤ 4 then s.regN 0x1900 (0x02 + c) else 0

/-- The raises whose fuses are still being blown, at 100 µs a fuse (R649). -/
def raiseCut (s : State) : List (Nat × Nat × ST64) :=
  s.root.raising.filter fun x =>
    decide (0 ≤ sdiff s.now x.2.2 ∧ sdiff s.now x.2.2 < (us (100 * (s.rollbackOf x.1 - x.2.1)) : Int))

/-- The fuses blown in the counter of a class: during a raise, one more every 100 us (R648, R649). -/
def counterNow (s : State) (c : Nat) : Nat :=
  match s.raiseCut.find? fun x => decide (x.1 = c) with
  | some x => x.2.1 + (sdiff s.now x.2.2).toNat / us 100
  | none => s.rollbackOf c

/-- The longest payload of a class (R620, R643, R653). -/
def payloadLimit : Nat → Nat
  | 1 => 4194304 - 512 | 2 => 2097152 | 3 => 393216 | 4 => 61440 | 5 => 64 | _ => 0

/-- The header and the lengths (R621). -/
def headerOk (s : State) (b : Bytes) : Bool :=
  decide (imgField b 0 4 = 0x58475246 ∧ imgField b 4 1 = 1 ∧ imgField b 12 4 = 0x64120D35 ∧ (imgField b 16 4 : Int) ≤ s.reg 0x1001 0x01 ∧
    1 ≤ imgClass b ∧ imgClass b ≤ 5 ∧ imgLength b ≤ payloadLimit (imgClass b) ∧ 512 + imgLength b ≤ b.length)

/-- The key, the signature and ROLLBACK (R643). -/
def signatureOk (s : State) (b : Bytes) : Bool :=
  decide (imgSlot b < 4 ∧ s.keySlot (imgSlot b) = 1 ∧ imgRollback b ≤ 256 ∧ s.counterNow (imgClass b) ≤ imgRollback b) &&
    (s.ownerKey (imgSlot b)).any (fun x => decide (x ≠ 0#8)) &&
    Config.verifies (s.ownerKey (imgSlot b)) (slice b 0 128) (slice b 128 384)

/-- The records of a bed image, and the positions it serves (R621). -/
def bedImageOk (s : State) (b : Bytes) : Bool :=
  match imgRecords b with
  | some l => recordsRise l && l.all (recordOk l) && bitOf (imgField b 24 4) s.position
  | none => false

/-- The checks of an image in their order: 0, or the code of the first failure (R621). -/
def imageCode (s : State) (b : Bytes) : Nat :=
  if !s.headerOk b then 0x0C0D
  else if !s.signatureOk b then 0x0801
  else if Config.digest (imgPayload b) ≠ slice b 32 32 then 0x0801
  else if imgClass b = 1 ∧ !s.bedImageOk b then 0x0C0D
  else 0

/-- A counter rises to a ROLLBACK value, with ROLLBACK_RAISE (R648, R656); its fuses are blown one at a time (R649). -/
def raiseCounter (s : State) (c v : Nat) : State :=
  let old := s.rollbackOf c
  if old < v then
    let x := (s.raiseCut.find? fun x => decide (x.1 = c)).getD (c, old, s.now)
    ((s.put 0x1900 (0x02 + c) v).modRoot fun r => { r with raising := x :: r.raising.filter fun y => decide (y.1 ≠ c) }).event
      0x1913 [c, old, v]
  else s

/-! ## Staging (R618, R619) -/

def stageState (s : State) : Nat := s.regN 0x1801 0x20

/-- The size of staging memory. -/
def stageSize : Nat := 4194304

/-- Bytes are placed in staging memory; what it held of a verified image is gone. -/
def stagePut (s : State) (o : Nat) (b : Bytes) : State :=
  (s.modGraft fun g =>
    { g with stage := slice g.stage 0 o ++ b ++ g.stage.drop (o + b.length), verified := none }).put 0x1801 0x20 1

/-- Staging memory is emptied. -/
def stageEmpty (s : State) : State := (s.modGraft fun g => { g with stage := [], verified := none }).put 0x1801 0x20 0

/-- VERIFY begins as the SOFT task GRAFT_VERIFY (R618, R619). -/
def stageBegin (s : State) : State := (s.modGraft fun g => { g with verified := none }).put 0x1801 0x20 2

end State

/-- STAGE_CMD CLEAR (R619). -/
def execStageClear (req : Requester) (s : State) : Host.Outcome State Fault Refusal :=
  .next (guarded req 0x1801 0x03 engineers true true 0 (fun s => s.stageEmpty) s)

/-- STAGE_CMD VERIFY; refused as busy while a verification runs (R618). -/
def execStageVerify (req : Requester) (s : State) : Host.Outcome State Fault Refusal :=
  .next (guarded req 0x1801 0x03 engineers true true (if s.stageState = 2 then 0x0501 else 0) (fun s => s.stageBegin) s)

/-- STAGE_DATA: the bytes go to STAGE_OFFSET, which advances (R618, R632). Data beyond the 4 MiB are refused. -/
def execStageDataWrite (req : Requester) (data : Bytes) (s : State) : Host.Outcome State Fault Refusal :=
  let o := s.regN 0x1801 0x01
  .next (guardedWrite req 0x1801 0x02 engineers true
    (if s.stageState = 2 then 0x0501 else if State.stageSize < o + data.length then 0x0C0D else 0) (.bytes data)
    (fun s => (s.stagePut o data).put 0x1801 0x01 ((o + data.length : Nat) : Int)) s)

/-- The oldest chunk of Q21, or of Q22 (firmware), is placed; a first chunk empties staging, and the last one starts the
verification. Chunks wait while a verification runs, and a chunk of no legal length is dropped (R618, R632). -/
def execGraftChunk (firmware : Bool) (s : State) : Host.Outcome State Fault Refusal :=
  let q := if firmware then 22 else 21
  if s.stageState = 2 then .next s
  else match (s.ring q).entries with
    | [] => .next s
    | e :: _ =>
      let s := s.ringRelease q 1
      let o := leNat (slice e.data 0 4)
      let len := leNat (slice e.data 4 2)
      let f := leNat (slice e.data 6 1)
      if len < 1 ∨ 56 < len ∨ State.stageSize < o + len then .next s
      else
        let s := if bitOf f 0 then s.stageEmpty else s
        let s := s.stagePut o (slice e.data 8 len)
        .next (if bitOf f 1 then s.stageBegin else s)

/-- The verification ends: STAGE_STATE, STAGE_RESULT and its event (R621, R633). While GRAFT_VERIFY has no duty it stays
where it is (R619). -/
def execStageVerifyDone (s : State) : Host.Outcome State Fault Refusal :=
  if s.stageState ≠ 2 ∨ s.duty 2 = 0 then .next s
  else
    let b := s.graft.stage
    let code := s.imageCode b
    let s := s.modGraft fun g => { g with verified := if code = 0 then some (imgClass b) else none }
    .next (((s.put 0x1801 0x20 (if code = 0 then 3 else 4)).put 0x1801 0x21 code).event 0x1812 [imgClass b, code])

/-! ## The firmware handover (R630, R631) -/

namespace State

def fwState (s : State) : Nat := s.regN 0x1803 0x20

/-- The standby pair. -/
def standbyPair (s : State) : Nat := 1 - s.activePair % 2

/-- A verified image of a class is staged. -/
def staged (s : State) (c : Nat) : Bool := decide (s.stageState = 3 ∧ s.graft.verified = some c)

/-- A pair's image, and the versions both pairs show. -/
def setImage (s : State) (p : Nat) (i : Option PairImage) : State :=
  let s := s.modGraft fun g => { g with images := vmod g.images p fun _ => i }
  let version (q : Nat) : Int := match vget s.graft.images q none with
    | some x => (x.version : Int)
    | none => 0
  (s.put 0x1803 0x22 (version s.activePair)).put 0x1803 0x23 (version s.standbyPair)

/-- FW_HANDOVER: phase 1 freeze, 2 switched, 3 abandoned, 4 back (R633). -/
def handoverEvent (s : State) (phase : Nat) (a b : Nat) : State := s.event 0x1811 [phase, a, b]

/-- The device's 64 bytes of the handover area (R630). -/
def handoverArea (seq a b : Nat) (freeze switch : ST64) : Bytes :=
  toLe 4 seq ++ toLe 1 a ++ toLe 1 b ++ [0#8, 0#8] ++ toLe 8 freeze.toNat ++ toLe 8 switch.toNat ++ List.replicate 40 0#8

/-- The beat after a freeze beat. -/
def switchBeat (s : State) (b1 : ST64) : ST64 := later b1 (Bed.beat s.active * 320 : Nat)

/-- The pairs switch: rings and interrupts pass to the new pair, its watchdog starts, and the old one is held in reset
(R512, R631). -/
def switchPairs (s : State) : State :=
  let a := s.activePair
  let b := s.standbyPair
  let back := s.graft.back
  let s := s.put 0x1A00 0x01 b
  let s := ((s.setPairState b 1).setPairState a 0).clearWindows a
  let s := s.modCores fun c =>
    { c with kicks := vmod c.kicks b fun _ => s.now, restarting := c.restarting.filter fun p => decide (p ≠ a) }
  let s := ((s.put 0x1803 0x03 0).put 0x1803 0x04 0).count 0x1803 0x24
  let s := (s.modGraft fun g =>
    { g with freezeAt := none, freezeDone := false, back := false, selfBack := false
             switchedAt := if back then none else some s.now }).put 0x1803 0x20 (if back then 0 else 3)
  let s := s.setImage a (if back then none else vget s.graft.images a none)
  s.handoverEvent (if back then 4 else 2) a b

/-- The handover is abandoned: the old pair continues, and the standby pair as it was; a pair started for a BACK returns to
reset (R631). -/
def abandonHandover (s : State) : State :=
  let back := s.graft.back
  let s := if back then s.setPairState s.standbyPair 0 else s
  let s := (s.modGraft fun g => { g with freezeAt := none, freezeDone := false, back := false, selfBack := false }).put 0x1803 0x20
    (if back then 3 else 1)
  s.handoverEvent 3 s.activePair s.standbyPair

end State

/-- A write of FW_CMD: its own condition is 0x0C0D, and FW_RESULT keeps the outcome (R631). -/
def fwCommand (req : Requester) (legal : Bool) (act : State → State) (s : State) : State :=
  let code : Nat := if legal then 0 else 0x0C0D
  let s := if s.present req && mayWrite s req engineers then s.put 0x1803 0x21 code else s
  guarded req 0x1803 0x01 engineers true true code act s

/-- START_STANDBY: the staged firmware goes to the standby pair's region and starts at ENTRY. -/
def execFwStartStandby (req : Requester) (s : State) : Host.Outcome State Fault Refusal :=
  .next (fwCommand req (decide (s.fwState = 0) && s.staged 2)
    (fun s => ((s.setImage s.standbyPair (some (pairImage s.graft.stage))).setPairState s.standbyPair 2).put 0x1803 0x20 1) s)

/-- HANDOVER, once the standby pair is ready. -/
def execFwHandoverCmd (req : Requester) (s : State) : Host.Outcome State Fault Refusal :=
  .next (fwCommand req (decide (s.fwState = 1 ∧ s.reg 0x1803 0x03 = 1)) (fun s => s.startFreeze false false) s)

/-- The freeze beat: the device writes its part of the handover area and tells the firmware. -/
def execFwFreezeBeat (s : State) : Host.Outcome State Fault Refusal :=
  let s := s.beatFirst
  match s.graft.freezeAt with
  | some b1 =>
    if s.fwState ≠ 2 ∨ s.graft.freezeDone then .next s
    else
      let seq := (nextSeq (BitVec.ofNat 32 s.graft.handoverSeq)).toNat
      let s := s.modGraft fun g =>
        { g with freezeDone := true, handoverSeq := seq
                 handover := State.handoverArea seq s.activePair s.standbyPair b1 (s.switchBeat b1) }
      .next (s.handoverEvent 1 s.activePair s.standbyPair)
  | none => .next s

/-- B1 + BEAT: the switch, or the abandonment where the active firmware is not frozen. A BACK the device started itself
has no firmware to wait for. A swap on the beat is taken first (R632). -/
def execFwSwitchBeat (s : State) : Host.Outcome State Fault Refusal :=
  let s := s.beatFirst
  if s.fwState ≠ 2 ∨ !s.graft.freezeDone then .next s
  else if s.reg 0x1803 0x04 = 1 ∨ s.graft.selfBack then .next s.switchPairs
  else .next s.abandonHandover

/-- COMMIT: the class 2 counter rises to the active image's ROLLBACK, and the old region is released (R648). -/
def execFwCommit (req : Requester) (s : State) : Host.Outcome State Fault Refusal :=
  .next (fwCommand req (decide (s.fwState = 3))
    (fun s =>
      let s := match vget s.graft.images s.activePair none with
        | some i => s.raiseCounter 2 i.rollback
        | none => s
      ((s.setImage s.standbyPair none).modGraft fun g => { g with switchedAt := none }).put 0x1803 0x20 0) s)

/-- BACK: before COMMIT and within FALLBACK_WINDOW of the switch, the old pair restarts from its image. -/
def execFwBack (req : Requester) (s : State) : Host.Outcome State Fault Refusal :=
  .next (fwCommand req s.fallbackOpen (fun s => s.startFreeze true false) s)

/-- STOP_STANDBY. -/
def execFwStopStandby (req : Requester) (s : State) : Host.Outcome State Fault Refusal :=
  .next (fwCommand req (decide (s.fwState = 1))
    (fun s => ((s.setPairState s.standbyPair 0).setImage s.standbyPair none).put 0x1803 0x20 0) s)

/-! ## The beds of a joiner (R568) -/

/-- A part of a bed image reaches a joiner, in order; a complete image is checked as a signed image, the active bed's first
and the shadow bed's second. -/
def execBedDataRx (offset total : Nat) (data : Bytes) (s : State) : Host.Outcome State Fault Refusal :=
  if s.runner.joining = false ∨ (offset ≠ 0 ∧ (offset ≠ s.runner.bed.length ∨ total ≠ s.runner.bedTotal)) then .next s
  else
    let b := (if offset = 0 then [] else s.runner.bed) ++ data.take (total - offset)
    let s := s.modRunner fun r => { r with bed := b, bedTotal := total }
    if b.length < total then .next s
    else if s.imageCode b ≠ 0 ∨ imgClass b ≠ 1 then
      .next ((s.modRunner fun r => { r with joinAt := none }).joinFailed s.position)
    else
      .next (s.modRunner fun r =>
        { r with bed := [], bedTotal := 0
                 beds := r.beds ++ [(bedOf ((imgRecords b).getD []), imgSlot b, imgRollback b)] })

namespace State

/-- The joiner takes both beds position 0 sent it (R568). -/
def takeBeds (s : State) (beat : ST64) : State :=
  match s.runner.beds with
  | a :: b :: _ =>
    let old := s.active
    let s := s.setBeds a.1 b.1
    let s := (s.modGraft fun g => { g with activeImage := some a.2, shadowImage := some b.2, activeSigned := true }).modRunner
      fun r => { r with beds := [] }
    let s := ((s.put 0x1800 0x25 0).put 0x1800 0x28 1).put 0x1900 0x08 a.2.2
    s.newBed old beat
  | _ => s

end State

namespace State

/-- The admission beat at the joiner: it is a member, with the beds it received and its modulator clocks on the master-time
grid; mem are the members with it (R49, R555, R568). -/
def joinArray (s : State) (p : Nat) (beat : ST64) (mem : Nat) : State :=
  if s.ctl.mode = .watch ∧ 2 ≤ s.runner.beds.length ∧ s.runner.offsetFixed then
    let s := s.takeBeds beat
    let s := (s.put 0x1700 0x22 mem).put 0x1700 0x23 mem
    let s := ((s.modRunner fun r => { r with joining := false, joinAt := none }).arrayTo 2).moveGrid
    ((s.refreshHops).event 0x1711 [p, 2, 1]).toTimeState 4
  else s.joinFailed p

/-- One admission takes place (R568). -/
def takeAdmission (s : State) (a : Nat × ST64 × Nat) : State :=
  let s := s.modRunner fun r => { r with admits := r.admits.filter fun x => decide (x.1 ≠ a.1) }
  if s.position = 0 then (if s.arrayState = 0 then s else s.memberAdmitted a.1 a.2.1)
  else if s.runner.joining ∧ s.position = a.1 then s.joinArray a.1 a.2.1 a.2.2
  else if s.inArray then
    ((s.put 0x1700 0x22 ((withBit s.arrayMembers a.1 true : Nat) : Int)).put 0x1700 0x23
      ((withBit (s.regN 0x1700 0x23) a.1 true : Nat) : Int)).refreshHops
  else s

/-- The admissions whose beat has come. -/
def takeAdmissions (s : State) : State :=
  (s.runner.admits.filter fun a => decide (0 ≤ sdiff s.now a.2.1)).foldl (fun s a => s.takeAdmission a) s

end State

/-- ADMIT names the beat from which a device is a member (R568). -/
def execAdmitRx (p : Fin 8) (beat : BitVec 64) (s : State) : Host.Outcome State Fault Refusal :=
  let mem := withBit (if s.arrayState = 0 then 1 else s.arrayMembers) p true
  if s.position = 0 then .next s
  else
    .next (s.modRunner fun r =>
      { r with admits := r.admits.filter (fun a => decide (a.1 ≠ p.val)) ++ [(p.val, s.fromArray beat, mem)] }).takeAdmissions

/-! ## The Cloche's firmware update (R397, R398) -/

namespace State

/-- A moment of a Cloche update: WATCH, or FORM with NONE. -/
def clocheMoment (s : State) : Bool := decide (s.ctl.mode = .watch ∨ (s.ctl.mode = .form ∧ s.ctl.sub = .none))

/-- UPDATE_STATE changes: 1 loading, 2 pause, 3 done, 4 fell back, 5 abandoned. -/
def clocheUpdate (s : State) (n : Nat) : State := (s.put 0x8060 0x02 n).event 0x0C15 [n, s.reg 0x8060 0x03]

/-- The pause ends; the first pair of each connection is then matched with any SEQ (R393). -/
def endPause (s : State) (t : ST64) : State :=
  let s := s.modCloche fun c => { c with state := .running, pauseAt := none }
  ((List.range 8).foldl (fun s c => s.modRx c fun r => { r with lastSeq := none }) s).put 0x8060 0x03 (wholeUs (sdiff s.now t))

end State

/-- UPDATE_CMD start: the staged Cloche image loads into the idle code bank. -/
def execClocheUpdateStart (req : Requester) (s : State) : Host.Outcome State Fault Refusal :=
  let own := if s.stageState ≠ 3 then 0x0801
    else if s.graft.verified ≠ some 3 then 0x0CC1
    else if s.reg 0x8060 0x02 = 1 ∨ s.reg 0x8060 0x02 = 2 then 0x0501 else 0
  .next (guarded req 0x8060 0x01 safetyOnly true s.clocheMoment own
    (fun s =>
      let s := s.modRoot fun r => { r with loaded := some (pairImage s.graft.stage) }
      (s.modCloche fun c => { c with updateAt := some s.now }).clocheUpdate 1) s)

/-- UPDATE_CMD abort ends an update before its switch, and changes nothing else. -/
def execClocheUpdateAbort (req : Requester) (s : State) : Host.Outcome State Fault Refusal :=
  .next (guarded req 0x8060 0x01 safetyOnly true true 0
    (fun s => match s.cloche.updateAt with
      | some _ => (s.modCloche fun c => { c with updateAt := none }).clocheUpdate 5
      | none => s) s)

/-- The switch: the pause begins and the new firmware starts from the other bank. -/
def execClocheUpdateSwitch (s : State) : Host.Outcome State Fault Refusal :=
  match s.cloche.updateAt with
  | some _ =>
    if s.clocheMoment ∧ s.cloche.state = .running then
      let s := s.modCloche fun c =>
        { c with updateAt := none, pauseAt := some s.now, state := .updatePause, bank := !c.bank }
      .next ((s.put 0x8060 0x04 (s.cloche.bank.toNat : Int)).clocheUpdate 2)
    else .next s
  | none => .next s

/-- The new firmware reaches RUNNING: the update is done, and the class 3 counter rises (R648). -/
def execClocheRunningReached (s : State) : Host.Outcome State Fault Refusal :=
  match s.cloche.pauseAt with
  | some t =>
    let s := (s.endPause t).clocheUpdate 3
    .next (match s.root.loaded with
      | some i =>
        let s := s.modRoot fun r => { r with cloche := some i, loaded := none }
        (s.put 0x8000 0x07 (satU 32 (i.version : Int))).raiseCounter 3 i.rollback
      | none => s)
  | none => .next s

/-- RUNNING is not reached in 1.5 s: the hardware restarts the previous bank (R398, R405). -/
def execClocheUpdateFallback (s : State) : Host.Outcome State Fault Refusal :=
  match s.cloche.pauseAt with
  | some t =>
    let s := (s.endPause t).modCloche fun c => { c with bank := !c.bank }
    let s := s.modRoot fun r => { r with loaded := none }
    .next (((s.put 0x8060 0x04 (s.cloche.bank.toNat : Int)).flag 0x8000 0x04 4).clocheUpdate 4)
  | none => .next s

/-- No switch moment came within 10 s. -/
def execClocheUpdateAbandon (s : State) : Host.Outcome State Fault Refusal :=
  match s.cloche.updateAt with
  | some _ =>
    let s := s.modCloche fun c => { c with updateAt := none }
    .next ((s.modRoot fun r => { r with loaded := none }).clocheUpdate 5)
  | none => .next s

/-! ## The clock update (R429 to R432) -/

/-- The highest legal frequency of a FORMAT, as the lowest divisor of 800 MHz (R431). -/
def ckoMinDiv (format : Nat) : Nat := if format = 1 then 8 else 2

namespace State

/-- The shadows as a copy. -/
def clockCopy (s : State) : ClockCopy :=
  ⟨s.regN 0x1220 0x02, (List.range 4).map s.cadenceShadow, (List.range 8).map fun k => s.regN (0x1230 + k) 0x03⟩

/-- The cadence checks of a copy against the active bed (R97, R98). -/
def cadenceCode (s : State) (c : ClockCopy) : Nat :=
  let div (k : Nat) : Nat := c.cadence.getD k 0
  if !Bed.cadenceOk (Bed.beat s.active) div (Bed.cadenceOffset s.active) then 0x0C30
  else if Bed.shortened s.active (Bed.beat s.active) div then 0x0702 else 0

/-- Every check of a copy: cadences, output frequencies, and an array's cadences. -/
def clockCode (s : State) (c : ClockCopy) : Nat :=
  let outBad := (List.range 8).any fun k =>
    decide (s.reg (0x1230 + k) 0x01 ≠ 0 ∧ s.reg (0x1230 + k) 0x02 = 0 ∧ c.cko.getD k 0 < ckoMinDiv (s.regN (0x1230 + k) 0x01))
  let moved := (List.range 4).any fun k => decide (c.cadence.getD k 0 ≠ Bed.div s.active k)
  if s.cadenceCode c ≠ 0 then s.cadenceCode c
  else if outBad then 0x0CD1
  else if s.inArray && moved then 0x0CD2
  else 0

/-- The copied values are applied together; the divisors replace those of the active bed alone. -/
def applyClocks (s : State) (c : ClockCopy) : State :=
  let moved := (List.range 4).any fun k => decide (c.cadence.getD k 0 ≠ Bed.div s.active k)
  let s := s.put 0x1220 0x08 c.coreDiv
  let s := (List.range 4).foldl (fun s k => s.putCfg 0x1210 (0x02 + k) (c.cadence.getD k 0 : Nat)) s
  let s := (List.range 8).foldl (fun s k => s.put (0x1230 + k) 0x05 (c.cko.getD k 0 : Nat)) s
  if moved then (s.modGraft fun g => { g with activeSigned := false }).harvestSpacingChanged else s

end State

/-- A write of UPDATE: the shadows are copied and the copy checked (R429). A refused update shows in UPDATE_STATE and
UPDATE_RESULT. -/
def execClockUpdateRequest (req : Requester) (s : State) : Host.Outcome State Fault Refusal :=
  let busy := s.time.update.isSome
  let code := if busy then 0x0501 else s.clockCode s.clockCopy
  let s := if s.present req && mayWrite s req engineers && decide (code ≠ 0 ∧ busy = false) then
      (s.put 0x1220 0x09 3).put 0x1220 0x0A code
    else s
  .next (guarded req 0x1220 0x07 engineers true true code
    (fun s =>
      let s := s.modTime fun u => { u with update := some s.clockCopy, updateBy := some req }
      (s.put 0x1220 0x09 1).put 0x1220 0x0A 0) s)

/-- The update strobe: a swap on its beat comes first; the copy is checked again, against the bed then active, and applied
(R429, R432). -/
def execClockUpdateStrobe (s : State) : Host.Outcome State Fault Refusal :=
  let s := s.beatFirst
  match s.time.update with
  | some c =>
    let code := s.cadenceCode c
    let s := s.modTime fun u => { u with update := none, updateBy := none }
    let s := if code = 0 then s.applyClocks c else s
    .next (((s.put 0x1220 0x09 (if code = 0 then 2 else 3)).put 0x1220 0x0A code).event 0x0D12 [code])
  | none => .next s

end Sys2Proof.Machine
end

