-- ==== Sys2Proof/Machine/Rootstock.lean ====
section
/-! DEFINITION. Rootstock: key slots, owner lock, anti-rollback, debug, recovery and attestation, and the service life
(R636 to R659, R676 to R679). -/

namespace Sys2Proof.Machine

/-- Writers of the security entries: SECURITY sessions, and none of them where BLANK lets them write the slot hashes alone
(R638, R659). -/
def rootWriters (s : State) (hash : Bool) : Writers :=
  if s.reg 0x1900 0x01 = 0 ∧ hash = false then ⟨[], false⟩ else ⟨[.security], false⟩

namespace State

/-- A slot is being programmed: writes to entry 0x1901 are refused as busy (R637). -/
def programming (s : State) : Bool := s.root.program.isSome

/-- The slots that are ACTIVE. -/
def activeSlots (s : State) : List Nat := (List.range 4).filter fun k => decide (s.keySlot k = 1)

/-- A session ends: its number is free, and everything it holds is discarded (R502). -/
def endSession (s : State) (n : Nat) : State := { s with sessions := vmod s.sessions n fun _ => .closed }

/-- A slot takes a state, with KEY_CHANGE (R637, R656). -/
def setKeySlot (s : State) (k state session : Nat) : State :=
  let v := (List.range 4).foldl (fun a j => a + (if j = k then state else s.keySlot j) * 4 ^ j) 0
  (s.put 0x1900 0x02 v).event 0x1911 [k, state, session]

/-- The owner-key slot a requester's chain roots in; 4 where it has none. -/
def rootSlot (s : State) : Requester → Nat
  | .session n => s.sessions[n].chainSlot
  | _ => 4

/-- UNLOCK_NONCE is drawn afresh (R653). -/
def drawNonce (s : State) : State :=
  let d := s.draw
  d.2.putB 0x1900 0x0A (toBe 16 d.1)

/-- DEBUG_SCOPE in force: open before LOCKED, and by a token after (R636, R653), with DEBUG_STATE. -/
def debugTo (s : State) (token : Option Nat) (cause : Nat) : State :=
  let s := s.modRoot fun r => { r with token := token }
  let scope : Nat := if s.reg 0x1900 0x01 = 2 then token.getD 0 else 3
  (s.put 0x1900 0x09 scope).event 0x1912 [scope, cause]

/-- Every Runner membership ends (R567, R653): a member reports its leaving, position 0 dissolves its array. -/
def leaveArray (s : State) : State :=
  if s.arrayState = 0 then s
  else
    let m := if s.position = 0 then 0 else withBit s.arrayMembers s.position false
    let dest := if s.position = 0 then 0xFF else 0
    let state : Int := if s.position = 0 then 0 else s.reg 0x1700 0x21
    (s.send (.runner dest 0x04 [m, s.reg 0x1700 0x23, state, s.reg 0x1700 0x24, s.reg 0x1700 0x25])).toAlone

/-- A token fits this device (R653). -/
def tokenOk (s : State) (b : Bytes) : Bool :=
  let p := imgPayload b
  decide (imgClass b = 5 ∧ imgLength b = 64 ∧ s.imageCode b = 0 ∧ slice p 0 16 = s.regB 0x1000 0x02 ∧
    slice p 16 16 = s.regB 0x1900 0x0A ∧ (slice p 33 31).all (fun x => decide (x = 0#8)))

/-- A token is submitted: accepted or refused, it renews the nonce; boundary scan ends every Runner membership (R653). -/
def submitToken (s : State) (b : Bytes) : State :=
  let ok := s.tokenOk b
  let scope := imgField (imgPayload b) 32 1 % 4
  let s := if ok then s.debugTo (some scope) 1 else s
  let s := if ok ∧ 2 ≤ scope then s.leaveArray else s
  s.drawNonce

end State

/-- A write of CMD of entry 0x1901: CMD_RESULT keeps the outcome of the latest one. -/
def rootCommand (req : Requester) (modeOk : Bool) (own : Nat) (act : State → State) (s : State) : State :=
  let who := rootWriters s false
  let own := if s.programming then 0x0501 else own
  let code := if !modeOk then 0x0401 else own
  let s := if s.present req && mayWrite s req who then s.put 0x1901 0x0A code else s
  guarded req 0x1901 0x07 who true modeOk own act s

/-! ## Keys -/

/-- A write of SLOT_HASHk of an EMPTY slot starts its programming (R637, R638, R640). -/
def execSlotProgram (req : Requester) (k : Fin 4) (hash : Bytes) (s : State) : Host.Outcome State Fault Refusal :=
  let own := if s.programming then 0x0501 else if s.keySlot k = 0 then 0 else 0x0C0F
  .next (guardedWrite req 0x1901 (1 + k.val) (rootWriters s true) (dwh s.ctl.mode) own (.bytes hash)
    (fun s => s.modRoot fun r => { r with program := some (k.val, hash, sessionNumber req) }) s)

/-- The fuses are read back: ACTIVE, or FAULT where they differ (R637). -/
def execSlotProgramDone (readback : Bytes) (s : State) : Host.Outcome State Fault Refusal :=
  match s.root.program with
  | some (k, hash, session) =>
    let s := (s.modRoot fun r => { r with program := none }).putB 0x1901 (1 + k) readback
    let s := s.setKeySlot k (if readback = hash then 1 else 3) session
    let s := if readback = hash then s else s.flag 0x1900 0x0D 2
    .next (if s.reg 0x1900 0x01 = 0 then s.put 0x1900 0x01 1 else s)
  | none => .next s

/-- REVOKE: from a chain in another ACTIVE slot, and never the last (R639). -/
def execKeyRevoke (req : Requester) (s : State) : Host.Outcome State Fault Refusal :=
  let k := s.regN 0x1901 0x08
  let ok := s.activeSlots.contains k && s.activeSlots.contains (s.rootSlot req) && decide (s.rootSlot req ≠ k)
  .next (rootCommand req (dwh s.ctl.mode) (if ok then 0 else 0x0C0F)
    (fun s =>
      let s := s.setKeySlot k 2 (sessionNumber req)
      let from_ := match s.graft.shadowImage with
        | some i => decide (i.1 = k)
        | none => false
      let s := if from_ then (s.put 0x1800 0x28 0).modGraft fun g => { g with revoked := g.revoked || g.swap.isSome } else s
      let s := s.modGraft fun g => { g with activeSigned := g.activeSigned && decide (g.activeImage.map Prod.fst ≠ some k) }
      (List.range 16).foldl (fun s n =>
        match s.sessions.toList[n]? with
        | some x => if x.state ≠ .free ∧ x.chainSlot = k then s.endSession n else s
        | none => s) s) s)

/-- OWNER_LOCK: LOCKED, with debug closed unless a token holds it open (R640, R655). -/
def execOwnerLock (req : Requester) (s : State) : Host.Outcome State Fault Refusal :=
  .next (rootCommand req (dwh s.ctl.mode) (if s.activeSlots.isEmpty then 0x0C0F else 0)
    (fun s => if s.reg 0x1900 0x01 = 2 then s else (s.put 0x1900 0x01 2).debugTo s.root.token 3) s)

/-- SubjectPublicKeyInfo of an RSA-3072 key with exponent 65537 in DER, by the fixed encoding of such a key (PRESUMED, log
entry 22). -/
def keyDer (modulus : Bytes) : Bytes :=
  [0x30#8, 0x82#8, 0x01#8, 0xA2#8, 0x30#8, 0x0D#8, 0x06#8, 0x09#8, 0x2A#8, 0x86#8, 0x48#8, 0x86#8, 0xF7#8, 0x0D#8, 0x01#8, 0x01#8,
    0x01#8, 0x05#8, 0x00#8, 0x03#8, 0x82#8, 0x01#8, 0x8F#8, 0x00#8, 0x30#8, 0x82#8, 0x01#8, 0x8A#8, 0x02#8, 0x82#8, 0x01#8, 0x81#8, 0x00#8] ++
    modulus ++ [0x02#8, 0x03#8, 0x01#8, 0x00#8, 0x01#8]

/-- A key of OWNER_KEYS matches its slot, or is absent (R637, R642). -/
def ownerKeyOk (s : State) (keys : Bytes) (k : Nat) : Bool :=
  let b := slice keys (388 * k) 388
  b.all (fun x => decide (x = 0#8)) ||
    decide (slice b 384 4 = toBe 4 65537 ∧ s.keySlot k ≠ 0 ∧ Config.digest (keyDer (slice b 0 384)) = s.regB 0x1901 (1 + k))

/-- OWNER_KEYS: every key must match its slot's fuses (R642). -/
def execOwnerKeysWrite (req : Requester) (data : Bytes) (s : State) : Host.Outcome State Fault Refusal :=
  let own := if s.programming then 0x0501 else if (List.range 4).all (ownerKeyOk s data) then 0 else 0x0C0E
  .next (guardedWrite req 0x1901 0x05 (rootWriters s false) true own (.bytes data) (fun s => s.putB 0x1901 0x05 data) s)

/-- ADVANCE: the counter of class 1 or 4 rises to ADVANCE_VALUE (R648). -/
def execRollbackAdvance (req : Requester) (s : State) : Host.Outcome State Fault Refusal :=
  let c := s.regN 0x1901 0x08
  let v := s.regN 0x1901 0x09
  let limit : Option Nat := match c with
    | 1 => some (s.regN 0x1900 0x08)
    | 4 => s.root.ext.map Prod.fst
    | _ => none
  let ok := match limit with
    | some l => decide (v ≤ l ∧ s.rollbackOf c ≤ v)
    | none => false
  .next (rootCommand req true (if ok then 0 else 0x0C0F) (fun s => s.raiseCounter c v) s)

/-! ## Debug and recovery -/

/-- UNLOCK with the staged token; a refused token is used up all the same (R653). -/
def execDebugUnlock (req : Requester) (s : State) : Host.Outcome State Fault Refusal :=
  let staged := s.staged 5
  let ok := staged && s.tokenOk s.graft.stage
  let taken := s.present req && mayWrite s req (rootWriters s false) && dwh s.ctl.mode && !s.programming
  let s' := rootCommand req (dwh s.ctl.mode) (if ok then 0 else 0x0C0E) (fun s => s.submitToken s.graft.stage) s
  .next (if taken && staged && !ok then s'.drawNonce else s')

/-- RELOCK: debug as the lifecycle gives it without a token (R653). -/
def execDebugRelock (req : Requester) (s : State) : Host.Outcome State Fault Refusal :=
  .next (rootCommand req (dwh s.ctl.mode) 0 (fun s => s.debugTo none 2) s)

/-- The JTAG UNLOCK instruction submits a token through its data register, in DORMANT, WATCH and HALT (R652, R653). -/
def execJtagUnlock (token : Bytes) (s : State) : Host.Outcome State Fault Refusal :=
  .next (if dwh s.ctl.mode then s.submitToken token else s)

/-- RECOVERY_START: in a recovery boot, the staged firmware starts on pair A from SRAM (R654). -/
def execRecoveryStart (req : Requester) (s : State) : Host.Outcome State Fault Refusal :=
  .next (rootCommand req true (if s.ctl.recoveryBoot && s.staged 2 then 0 else 0x0C0F)
    (fun s =>
      let s := (s.put 0x1A00 0x01 0).setPairState 0 1
      let s := s.modCores fun c => { c with kicks := vmod c.kicks 0 fun _ => s.now }
      s.setImage 0 (some (pairImage s.graft.stage))) s)

/-! ## Attestation -/

/-- A write of ATTEST_NONCE requests a report: every role and the cores, one at a time (R651). In BLANK a session may write
the slot hashes alone (R638). -/
def execAttestRequest (req : Requester) (nonce : Bytes) (s : State) : Host.Outcome State Fault Refusal :=
  let roles : List Role := if s.reg 0x1900 0x01 = 0 then [] else [.viewer, .operator, .engineer, .safety, .security]
  let own := if s.programming ∨ s.root.nonce.isSome then 0x0501 else 0
  .next (guardedWrite req 0x1901 0x0B ⟨roles, true⟩ true own (.bytes nonce)
    (fun s => s.modRoot fun r => { r with nonce := some nonce }) s)

/-- A measurement, or zeros. -/
def measureOf (i : Option PairImage) : Bytes := match i with
  | some x => slice x.measure 0 32
  | none => List.replicate 32 0#8

/-- A TIME80 number as 10 bytes, most significant first (R2, R6). -/
def time80Bytes (t : Int) : Bytes := toBe 6 (t % p2 48) ++ toBe 4 (t / p2 48)

/-- The report's bytes 0 to 383 (R651). -/
def reportBody (s : State) (nonce : Bytes) : Bytes :=
  let version (i : Option PairImage) : Int := match i with
    | some x => (x.version : Int)
    | none => 0
  let active := vget s.graft.images s.activePair none
  let flags := ofBits [decide (s.reg 0x1900 0x09 ≠ 0), s.ctl.recoveryBoot, decide (s.reg 0x1800 0x03 = 1),
    bitOf (s.regN 0x1900 0x0D) 0, !s.mapValid] + s.root.bankB
  toBe 4 0x58415454 ++ [0x01#8] ++ toBe 1 (s.reg 0x1900 0x01) ++ toBe 1 flags ++ toBe 1 (s.reg 0x1202 0x01) ++
    toBe 4 (s.reg 0x1000 0x01) ++ toBe 4 (s.reg 0x1001 0x01) ++ slice (s.regB 0x1000 0x02) 0 16 ++ slice nonce 0 32 ++
    toBe 8 s.now.toNat ++ time80Bytes s.nowTime ++ toBe 2 0 ++
    ((List.range 4).flatMap fun c => toBe 2 (s.counterNow (c + 1))) ++ ((List.range 4).flatMap fun k => toBe 1 (s.keySlot k)) ++
    slice Config.romMeasurement 0 32 ++ (match s.root.ext with
      | some e => slice e.2 0 32
      | none => List.replicate 32 0#8) ++
    measureOf active ++ measureOf (vget s.graft.images s.standbyPair none) ++ measureOf s.root.cloche ++
    slice (bedHash s.active) 0 32 ++ slice (bedHash s.shadow) 0 32 ++ toBe 8 (version active) ++ toBe 8 (version s.root.cloche) ++
    List.replicate 48 0#8

/-- The report is signed, replaces the result object in one step and goes to Q23 as 16 entries (R494, R651). -/
def execAttestReportDone (s : State) : Host.Outcome State Fault Refusal :=
  match s.root.nonce with
  | some nonce =>
    let body := reportBody s nonce
    let d := s.draw
    let report := body ++ slice (Config.identitySign d.1 body) 0 384
    let s := (d.2.modRoot fun r => { r with nonce := none }).advance 0x1902 0x01
    let s := (s.put 0x1902 0x02 1).putB 0x1902 0x03 report
    let seq := s.regN 0x1902 0x01
    .next ((List.range 16).foldl (fun s k =>
      let b := toLe 4 seq ++ toLe 2 (48 * k : Nat) ++ toLe 1 (ofBits [decide (k = 0), decide (k = 15)] : Nat) ++
        List.replicate 9 0#8 ++ slice report (48 * k) 48
      s.ringPost 23 ⟨0, [], b, s.now⟩) s)
  | none => .next s

/-! ## Service life -/

/-- e^x for a fixed-point x of 96 fraction bits with |x| below 2^-3, by its series. -/
def expSeries (x : Int) : Nat → Int → Int → Int
  | 0, _, acc => acc
  | k + 1, term, acc =>
    let n : Int := 24 - (k : Int)
    let t := term * x / p2 96 / n
    expSeries x k t (acc + t)

/-- n squarings of a fixed-point number of 96 fraction bits. -/
def squares : Nat → Int → Int
  | 0, y => y
  | k + 1, y => squares k (y * y / p2 96)

/-- AF at a temperature in tenths of a degree, with 32 fraction bits, rounded down:
exp(8123.5 * (1/363.15 - 1/T)) with T in hundredths of a kelvin (R676). -/
def ageingFactor (tj : Int) : Nat :=
  let t := 10 * tj + 27315
  let x := roundQuot (812350 * (t - 36315) * p2 96) (36315 * t)
  (squares 7 (expSeries (x / 128) 24 (p2 96) (p2 96)) / p2 64).toNat

/-- 128 equivalent hours in units of the ledger. -/
def ledgerStep : Nat := 128 * 3600 * 4294967296

namespace State

/-- EQUIV_HOURS and LIFE_USED follow the ledger (R677, R683). -/
def showLife (s : State) : State :=
  let bits := s.regN 0xF100 0x08
  let hours := if 4096 ≤ bits then 524288 else 128 * bits + s.root.ledger / (3600 * 4294967296)
  (s.put 0xF100 0x01 hours).put 0xF100 0x02 (satU 16 (roundDiv (hours * 10000) 262980))

end State

/-- Every second the ledger adds AF for TJ, in the resolution of its count, and blows a bit per 128 equivalent hours; the
last unit of AF is open (R677). -/
def execLedgerTick (s : State) : Host.Outcome State Fault Refusal :=
  let s := s.modRoot fun r => { r with powered := r.powered + 1, raising := s.raiseCut }
  let s := s.put 0xF100 0x03 (satU 32 (s.root.powered / 3600 : Nat))
  if 4096 ≤ s.regN 0xF100 0x08 then .next s
  else
    let d := s.draw
    let s := d.2.modRoot fun r => { r with ledger := r.ledger + ageingFactor (s.reg 0x1300 0x02) + d.1 % 2 }
    if s.root.ledger < ledgerStep then .next s.showLife
    else
      let s := (s.modRoot fun r => { r with ledger := r.ledger - ledgerStep }).put 0xF100 0x08 (s.reg 0xF100 0x08 + 1)
      let s := s.showLife
      .next (if 4096 ≤ s.regN 0xF100 0x08 then (s.flag 0xF100 0x09 2).event 0xF111 [s.reg 0xF100 0x01] else s)

/-- A measurement of the five sentinels completes, in 0.01 %, while CALIBRATION has a duty; a margin that reaches
ALERT_LEVEL is reported once per crossing, in code order (R678, R681). -/
def execAgeingMeasurement (margins : List Nat) (s : State) : Host.Outcome State Fault Refusal :=
  if s.duty 0 = 0 then .next s
  else
    let m (k : Nat) : Nat := margins.getD k 0 % 65536
    let high := (List.range 5).filter fun k => decide (s.regN 0xF100 0x05 ≤ m k)
    let new := high.filter fun k => !s.root.above.contains k
    let s := (s.putB 0xF100 0x04 ((List.range 5).flatMap fun k => toLe 2 (m k))).putT 0xF100 0x06 s.now
    let s := (s.count 0xF100 0x07).modRoot fun r => { r with above := high }
    .next (new.foldl (fun s (k : Nat) => (s.flag 0xF100 0x09 0).event 0xF110 [k, m k]) s)

/-- A measurement is 7 days overdue (R678). -/
def execMeasureLate (s : State) : Host.Outcome State Fault Refusal := .next (s.flag 0xF100 0x09 1)

/-- An uncorrectable soft error or a parity error leads to a warm reset (R679). No bit of SOURCES names it; 13 stands for a
source without a bit. -/
def execUncorrectableSoftError (s : State) : Host.Outcome State Fault Refusal := .next (s.requestWarm 13)

end Sys2Proof.Machine
end

