-- ==== Sys2Proof/Machine/Reset.lean ====
section
/-! DEFINITION. Reset sources and reaches, the reset-cause log, the Dibber, boot, and domain resets (R24, R42, R270, R455,
R488, R598 to R613, R616, R646, R647, R654). -/

namespace Sys2Proof.Machine

/-- A list of numbers with one more, without repeats. -/
def addNew (n : Nat) (l : List Nat) : List Nat := if l.contains n then l else l ++ [n]

/-- The sources of cold reach, by their log bits (R598). -/
def coldBit (n : Nat) : Bool := decide (n ≤ 3)

namespace State

/-! ## What a reset clears and keeps (R488, R600) -/

/-- The dictionary values a test keeps. -/
def keptRegs (s : State) (keep : Nat → Nat → Bool) : Store := s.regs.filter fun e => keep (e.1 / 256) (e.1 % 256)

/-- A constant of the device. -/
def isCst (i k : Nat) : Bool := match Dict.find i k with
  | some r => decide (r.acc = .cst)
  | none => false

/-- What OTP holds: constants, lifecycle, slots, counters, slot hashes, the blown ledger bits (R636, R637, R648, R677). -/
def keptCold (i k : Nat) : Bool :=
  isCst i k || decide ((i = 0x1900 ∧ 1 ≤ k ∧ k ≤ 6) ∨ (i = 0x1901 ∧ 1 ≤ k ∧ k ≤ 4) ∨ (i = 0xF100 ∧ k = 8))

/-- What a warm reset keeps: R42 and R270 to R571 by their owning chapters, beside OTP. -/
def keptWarm (i k : Nat) : Bool :=
  keptCold i k || decide (i = 0x1200 ∨ i = 0x1202 ∨ (i = 0x1900 ∧ k ≠ 0x0A) ∨ i = 0x1901 ∨
    (i = 0x1400 ∧ (k = 0x0B ∨ (4 ≤ k ∧ k ≤ 8) ∨ (0x0C ≤ k ∧ k ≤ 0x0E))) ∨ (i = 0x1A00 ∧ k = 7) ∨ (i = 0x1300 ∧ k = 3) ∨
    (i = 0x4021 ∧ k = 1) ∨ (i = 0xF100 ∧ (k ≤ 3 ∨ k = 7)) ∨
    (i = 0x1700 ∧ (k ≤ 5 ∨ k = 0x20 ∨ k = 0x29 ∨ k = 0x2A)))

/-- A slot whose programming a cold reset cut off reads back FAULT (R637, R655). -/
def programLost (s : State) : State :=
  match s.root.program with
  | some (k, _, _) =>
    let v := (List.range 4).foldl (fun a j => a + (if j = k then 3 else s.keySlot j) * 4 ^ j) 0
    s.put 0x1900 0x02 v
  | none => s

/-- A power loss leaves a counter that was being raised at a value between its old and its new one (R649). -/
def raiseLost (s : State) : State :=
  s.raiseCut.foldl (fun s x =>
    let d := s.draw
    d.2.put 0x1900 (0x02 + x.1) ((x.2.1 + d.1 % (s.rollbackOf x.1 - x.2.1 + 1) : Nat) : Int)) s

/-- ALARM_N is released (R603). -/
def alarmOff (s : State) : State :=
  if s.rst.ambiguous || s.ctl.bootStopped then s.send (.pin "ALARM_N" 1) else s

/-- Everything but OTP takes its reset state; ST64 restarts at 0 (R409, R600). What has left the device, the free values
drawn and the queue of waiting commands are the model's own. -/
def clearCold (s : State) : State :=
  let s := s.programLost
  let s : State := { State.reset with regs := s.keptRegs keptCold, sent := s.sent, draws := s.draws, pending := s.pending, rst := s.rst }
  let s := if s.reg 0x1900 0x01 = 2 then s.put 0x1900 0x09 0 else s
  s.drawNonce.showLife

/-- A capture record that a warm reset keeps (R455). -/
def keptCapture (h : HarvestUnit) : HarvestUnit := if h.state = .done then h else HarvestUnit.idle

/-- Everything warm at its reset state, before the time and the bank are shown: mode is the one the reset leaves. -/
def warmState (s : State) (mode : Mode) (cloche : Bool) : State :=
  let done (i : Nat) : Bool := decide (0x9020 ≤ i ∧ i ≤ 0x9023 ∧ (s.hunit (i - 0x9020)).state = .done)
  let regs := s.keptRegs fun i k => keptWarm i k || (done i && decide (k = 0x01 ∨ k = 0x09))
  let bank := if s.cloche.state = .updatePause then !s.cloche.bank else s.cloche.bank
  let images := (Vector.replicate 2 none).set 0 (vget s.graft.images s.activePair none)
  { State.reset with
    ctl := { Ctl.reset with prevMode := mode, entryTime := s.now, recoveryBoot := s.ctl.recoveryBoot,
                            guard := if cloche then .pendingOpen else s.ctl.guard }
    now := s.now, regs := regs, active := s.active, shadow := s.active, sent := s.sent, draws := s.draws
    time := { TimeUnit.reset with everLocked := s.time.everLocked, steerLog := s.time.steerLog, ref10m := s.time.ref10m,
                                  lref := s.time.lref, coldFraction := s.time.coldFraction }
    cloche := { Cloche.reset with bank := bank }
    harvest := vmapi s.harvest fun _ h => keptCapture h
    graft := { GraftUnit.idle with images := images, handoverSeq := s.graft.handoverSeq, handover := s.graft.handover,
                                   activeImage := s.graft.activeImage, shadowImage := s.graft.activeImage,
                                   activeSigned := s.graft.activeSigned }
    root := { s.root with loaded := none, nonce := none, above := [] }
    runner := { RunnerUnit.alone with reform := s.runner.reform }
    rst := s.rst, pending := s.pending }

/-- TIME_STATE after a warm reset (R415). -/
def warmTime (s : State) : State :=
  if s.reg 0x1400 0x04 = 0 then s
  else if s.time.everLocked then (s.put 0x1400 0x03 3).putT 0x1400 0x0F s.now
  else s.put 0x1400 0x03 1

/-- Every domain but COLD and MEM is cleared; the active bed is restored from its copy, and the shadow bed equals it (R42,
R415, R455, R488, R600, R616). cloche says that the Cloche's escalation is among the sources (R26). -/
def clearWarm (s : State) (cloche : Bool) : State :=
  let s := ((s.harvestEndWhere fun u => decide ((s.hunit u).state = .triggered)).warmState s.ctl.mode cloche).warmTime
  (s.put 0x8060 0x04 (s.cloche.bank.toNat : Int)).drawNonce

/-! ## Assertion and release (R598 to R602, R610, R611) -/

/-- A source of cold reach is asserted. Power-on takes the record of any reset in progress with it (R598, R601). -/
def assertCold (s : State) (bit : Nat) (resetnLow : Bool) : State :=
  let r := s.rst
  let held := r.asserted.filter fun b => decide (b ≠ 4 ∧ b ≠ 2)
  let low : List Nat := if bit = 2 then [2] else if resetnLow then (if r.asserted.contains 2 ∧ bit ≠ 0 then [2] else [4]) else []
  let asserted := addNew bit ((if bit = 0 then held.filter fun b => decide (b = 1) else held) ++ low.filter fun b => decide (b ≠ bit))
  let old := if bit = 0 ∨ r.reach = 0 then 0 else r.sources
  let sources := asserted.foldl (fun m b => withBit m b true) old
  let s := s.alarmOff.clearCold
  s.modRst fun _ =>
    { grace := [], asserted := asserted, reach := 1, sources := sources, atTime := 0#64, resetnLow := resetnLow, ambiguous := false
      measured := false, booting := false, domainRuns := none }

/-- Sources of warm reach are asserted: outside a reset everything warm is cleared, inside one they are recorded (R601). -/
def assertWarm (s : State) (bits : List Nat) : State :=
  let s' := if s.rst.reach ≠ 0 then s
    else
      let s := (s.alarmOff).clearWarm (bits.contains 5)
      s.modRst fun r =>
        { r with reach := 2, sources := 0, atTime := s.now, asserted := [], booting := false, domainRuns := none }
  s'.modRst fun r =>
    { r with grace := [], asserted := bits.foldl (fun l b => addNew b l) r.asserted
             sources := bits.foldl (fun m b => withBit m b true) r.sources }

/-- One record of the reset-cause log (R611). -/
def resetRecord (cold : Bool) (at_ : ST64) (us sources : Nat) : Bytes :=
  toLe 8 (if cold then 0 else (at_.toNat : Int)) ++ toLe 4 (if cold then 0xFFFFFFFF else (us : Int)) ++ toLe 2 sources ++
    toLe 1 (if cold then 1 else 2) ++ [0#8]

/-- The last source is gone: the record is logged, and the device leaves reset unless the Dibber holds it (R601, R607,
R611, R613). -/
def leaveReset (s : State) : State :=
  let r := s.rst
  let cold := decide (r.reach = 1)
  let src := r.sources % 8192
  let record := resetRecord cold r.atTime (wholeUs (sdiff s.now r.atTime)).toNat src
  let old := if cold then List.replicate 256 0#8 else s.regB 0x1200 0x04
  let s := ((s.put 0x1200 0x01 r.reach).put 0x1200 0x02 src).putT 0x1200 0x03 s.now
  let s := s.putB 0x1200 0x04 ((record ++ old).take 256)
  let s := if cold then s else s.count 0x1200 0x05
  s.modRst fun r => { r with reach := if r.ambiguous then 1 else 0, asserted := [], booting := !r.ambiguous }

/-- A source of cold or warm reach is released. -/
def releaseSource (s : State) (src : Nat) : State :=
  if !s.rst.asserted.contains src then s
  else
    let s := s.modRst fun r =>
      { r with asserted := r.asserted.filter fun b => decide (b ≠ src)
               resetnLow := r.resetnLow && decide (src ≠ 2 ∧ src ≠ 4) }
    if s.rst.asserted = [] then s.leaveReset else s

/-- A source of cold reach is asserted now: the Cold frame is down. -/
def coldHeld (s : State) : Bool := s.rst.asserted.any coldBit

end State

/-! ## Reset commands -/

/-- Power-on, or VDD_CF below 0.72 V: held until VDD_CF is valid; RESET_N low holds a warm reset beside it (R598, R610). -/
def execPowerOnReset (resetnLow : Bool) (s : State) : Host.Outcome State Fault Refusal :=
  if s.raiseCut.isEmpty then .next (s.assertCold 0 resetnLow)
  else .next ((s.raiseLost.assertCold 0 resetnLow).flag 0x1900 0x0D 3)

/-- VDDA below 1.62 V for 2 us (R598). -/
def execVddaBrownout (s : State) : Host.Outcome State Fault Refusal := .next (s.assertCold 1 s.rst.resetnLow)

/-- An accepted RESET_N pulse asserts a warm reset at once; a grace in progress ends (R599, R610). -/
def execResetnPulse (s : State) : Host.Outcome State Fault Refusal :=
  .next ((s.assertWarm (addNew 4 s.rst.grace)).modRst fun r => { r with resetnLow := true })

/-- RESET_N has been low for 100 ms: the reach widens to cold (R599, R610). -/
def execResetnLong (s : State) : Host.Outcome State Fault Refusal := .next (s.assertCold 2 true)

/-- The JTAG instruction COLD_RESET, which a LOCKED device offers only with debug open (R598, R652, R653). -/
def execJtagColdReset (s : State) : Host.Outcome State Fault Refusal :=
  if s.reg 0x1900 0x01 = 2 ∧ s.reg 0x1900 0x09 = 0 then .next s else .next (s.assertCold 3 s.rst.resetnLow)

/-- ENGINEER and SAFETY sessions and the cores (R609). -/
def resetWriters : Writers := ⟨[.engineer, .safety], true⟩

/-- WARM_RESET, in every mode: HALT causes that are pending first, then the answer, then the grace (R602, R609, R610). -/
def execWarmReset (req : Requester) (s : State) : Host.Outcome State Fault Refusal :=
  if s.present req && mayWrite s req resetWriters then
    .next ((s.takeCauses.answer req 0x1201 0x01 0).requestWarm 8)
  else .next (guarded req 0x1201 0x01 resetWriters true true 0 id s)

/-- The grace of 2 us ends: the warm reset is asserted with every source that shares it (R602, R610). -/
def execWarmGraceEnd (s : State) : Host.Outcome State Fault Refusal :=
  match s.rst.grace with
  | [] => .next s
  | bits => .next (s.assertWarm bits)

/-- A source is released; the device leaves reset with its last one (R601). -/
def execResetRelease (src : Fin 16) (s : State) : Host.Outcome State Fault Refusal := .next (s.releaseSource src)

/-- The Dibber's reading is taken, once after each cold reset: an even RAW selects its code, an odd one holds the device in
reset with ALARM_N low (R606, R607, R613). -/
def execDibberMeasureEnd (raw : Fin 31) (s : State) : Host.Outcome State Fault Refusal :=
  if s.rst.measured || s.rst.ambiguous || s.coldHeld then .next s
  else
    let s := s.put 0x1202 0x04 (raw.val : Nat)
    if raw.val % 2 = 1 then
      .next ((s.modRst fun r => { r with ambiguous := true, reach := 1, booting := false }).send (.pin "ALARM_N" 0))
    else
      let code := (30 - raw.val) / 2
      let s := ((s.put 0x1202 0x01 code).put 0x1202 0x02 (code / 8 : Nat)).put 0x1202 0x03 (code % 8 : Nat)
      let s := (s.putT 0x1202 0x05 s.now).put 0x1700 0x20 (code % 8 : Nat)
      .next ((s.modCtl fun c => { c with recoveryBoot := decide (8 ≤ code) }).modRst fun r => { r with measured := true })

/-! ## Boot (R24, R604, R605, R642, R643, R646, R647, R654) -/

/-- The image of a class in a bank. -/
def bankImage (bank : List Bytes) (c : Nat) : Bytes := (bank.find? fun b => decide (imgClass b = c)).getD []

/-- The choice for one class: the code, the bank (0 A, 1 B, 2 none) and the image. -/
structure BootPick where
  code : Nat
  bank : Nat
  image : Bytes

namespace State

/-- Bank A first, then bank B; with neither, the code of the last one tried. -/
def pickImage (s : State) (f : BootFlash) (c : Nat) : BootPick :=
  let ok (b : Bytes) : Bool := decide (imgClass b = c) && decide (s.imageCode b = 0)
  let a := bankImage f.bankA c
  let b := bankImage f.bankB c
  if ok a then ⟨0, 0, a⟩ else if ok b then ⟨0, 1, b⟩ else ⟨s.imageCode b, 2, []⟩

/-- The outcome of a class's check: BOOT_RESULT and BOOT_CHECK. -/
def bootCheck (s : State) (c : Nat) (p : BootPick) : State :=
  let r := s.regB 0x1900 0x07
  (s.putB 0x1900 0x07 (slice r 0 (2 * (c - 1)) ++ toLe 2 p.code ++ slice r (2 * c) (8 - 2 * c))).event 0x1910 [c, p.bank, p.code]

/-- The bit of a report's FLAGS that a class sets when its image came from bank B: 5 firmware, 6 Cloche, 7 bed (R651). -/
def fromBank (s : State) (bit : Nat) (p : BootPick) : State :=
  s.modRoot fun r => { r with bankB := withBit r.bankB bit (decide (p.bank = 1)) }

/-- Boot stops in DORMANT; ALARM_N is driven low unless the lifecycle is BLANK (R603, R647). -/
def bootStop (s : State) : State :=
  let s := (s.modCtl fun c => { c with bootStopped := true }).modRst fun r => { r with booting := false }
  if s.reg 0x1900 0x01 = 0 then s else s.send (.pin "ALARM_N" 0)

/-- The key of slot k from whichever bank's key block matches the slot hash; zeros where none does (R642). -/
def bootKey (s : State) (f : BootFlash) (k : Nat) : Bytes :=
  let fits (keys : Bytes) : Bool :=
    !((slice keys (388 * k) 388).all fun x => decide (x = 0#8)) && ownerKeyOk s keys k
  if fits f.keysA then slice f.keysA (388 * k) 388 else if fits f.keysB then slice f.keysB (388 * k) 388 else List.replicate 388 0#8

/-- OWNER_KEYS and CERT_DENY from the key block; a warm reset has kept them (R642, R657). -/
def readKeys (s : State) (f : BootFlash) : State :=
  (s.putB 0x1901 0x05 ((List.range 4).flatMap fun k => s.bootKey f k)).putB 0x1901 0x06 (slice f.deny 0 512)

/-- The latest reset was warm. -/
def warmBoot (s : State) : Bool := decide (s.reg 0x1200 0x01 = 2)

/-- Class 4: the extension, or none. -/
def bootExt (s : State) (f : BootFlash) : State :=
  let p := s.pickImage f 4
  let s := s.modRoot fun r => { r with ext := if p.code = 0 then some (imgRollback p.image, imgMeasure p.image) else none }
  s.bootCheck 4 p

/-- The Cloche runs an image. -/
def startCloche (s : State) (i : PairImage) : State :=
  let s := (s.modCloche fun c => { c with state := .running }).modRoot fun r => { r with cloche := some i }
  s.put 0x8000 0x07 (satU 32 (i.version : Int))

/-- The application firmware starts on pair A; HOLD_DORMANT comes from its header (R24, R512). -/
def startFirmware (s : State) (i : PairImage) : State :=
  let s := (s.put 0x1A00 0x01 0).put 0x1A00 0x02 1
  let s := s.modCores fun c => { c with kicks := vmod c.kicks 0 fun _ => s.now }
  let s := (s.modGraft fun g => { g with images := Vector.replicate 2 none }).setImage 0 (some i)
  s.put 0x1100 0x05 (i.hold.toNat : Int)

/-- Class 1 after a cold reset: the bed from flash in both beds, or the defaults (R616, R647). -/
def bootBed (s : State) (f : BootFlash) : State :=
  let p := s.pickImage f 1
  let good := decide (p.code = 0)
  let bed := if good then bedOf ((imgRecords p.image).getD []) else []
  let image := if good then some (imgSlot p.image, imgRollback p.image) else none
  let s := (s.setBeds bed bed).modGraft fun g =>
    { g with activeImage := image, shadowImage := image, activeSigned := good }
  let s := (s.put 0x1800 0x28 (good.toNat : Int)).put 0x1900 0x08 (if good then (imgRollback p.image : Int) else 0)
  let s := if good then s else s.flag 0x1900 0x0D 0
  (s.fromBank 7 p).bootCheck 1 p

/-- Every loop slot takes INIT_STATE of the active bed (R168). -/
def bootSlots (s : State) : State :=
  (List.range 16).foldl (fun s e => (List.range 8).foldl (fun s l =>
    let st := s.initSlot e l
    (s.modSlot e l fun _ => { LoopSlot.unused with state := st }).put (Bed.slot e l) 0x20 (loopCode st)) s) s

/-- The configuration in force is loaded: loop slots, Furrow settings, lane equalisation, power budget. -/
def loadConfig (s : State) : State :=
  let s := ((s.clearPwm).bootSlots).swapFurrows
  let s := (List.range 16).foldl (fun s l =>
    if s.slaneOn l then (s.put (laneIx l) 0x24 (s.reg (laneIx l) 0x01)).put (laneIx l) 0x25 (s.reg (laneIx l) 0x02) else s) s
  s.refreshReserved

/-- Boot is complete: RESET_DONE, and DORMANT is left unless the device is held (R21, R24, R270, R612). -/
def bootDone (s : State) (hold : Bool) : State :=
  let warm := s.warmBoot
  let s := (s.measureTap.modCtl fun c => { c with bootComplete := true }).modRst fun r => { r with booting := false }
  let s := if warm then s.modSounder fun n => { n with modePending := some (s.regN 0x4021 0x01), modeKept := true } else s
  let s := s.event 0x1210 [s.reg 0x1200 0x01, s.reg 0x1200 0x02, (leNat (slice (s.regB 0x1200 0x04) 8 4) : Nat), s.reg 0x1202 0x01]
  if hold then s else s.leaveDormant

/-- A recovery boot stays in DORMANT; the ports take their addresses from the key block's network record, or a link-local
one (R654). -/
def bootRecovery (s : State) (f : BootFlash) : State :=
  let mac := s.regB 0x1500 0x01
  let octet (k : Nat) : Nat := let n := leNat (slice mac k 1); if n = 0 ∨ n = 255 then 1 else n
  let a := f.network.getD (169 * 16777216 + 254 * 65536 + octet 4 * 256 + octet 5, 0xFFFF0000, 0)
  (((s.put 0x1500 0x02 a.1).put 0x1500 0x03 a.2.1).put 0x1500 0x04 a.2.2).loadConfig.bootDone true

/-- The images a warm boot holds in SRAM: the Cloche's and the active pair's. -/
def heldImages (s : State) (f : BootFlash) : Option (PairImage × Option PairImage) :=
  if s.warmBoot && f.heldGood then
    match s.root.cloche with
    | some c =>
      match vget s.graft.images 0 none with
      | some i => some (c, some i)
      | none => if s.ctl.recoveryBoot then some (c, none) else none
    | none => none
  else none

/-- The firmware, the bed and the end of a normal boot; fw is the choice of class 2. -/
def bootNormal (s : State) (f : BootFlash) (i : PairImage) : State :=
  let s := s.startFirmware i
  let warm := s.warmBoot
  let s := if warm then s.bootCheck 1 ⟨0, 2, []⟩ else s.bootBed f
  let defaulted := !warm && !s.graft.activeSigned
  s.loadConfig.bootDone (defaulted || i.hold)

/-- Boot from flash: classes 4, 3, 2 and 1. -/
def bootFlash (s : State) (f : BootFlash) : State :=
  let s := s.bootExt f
  let c := s.pickImage f 3
  let s := s.bootCheck 3 c
  if c.code ≠ 0 then s.bootStop
  else
    let s := (s.startCloche (pairImage c.image)).fromBank 6 c
    if s.ctl.recoveryBoot then s.bootRecovery f
    else
      let p := s.pickImage f 2
      let s := s.bootCheck 2 p
      if p.code ≠ 0 then s.bootStop else (s.fromBank 5 p).bootNormal f (pairImage p.image)

/-- Boot from the images held in SRAM (R600, R605). -/
def bootHeld (s : State) (f : BootFlash) (c : PairImage) (i : Option PairImage) : State :=
  let held : BootPick := ⟨0, 2, []⟩
  let s := ((s.bootCheck 4 held).bootCheck 3 held).startCloche c
  match i with
  | some x => if s.ctl.recoveryBoot then s.bootRecovery f else (s.bootCheck 2 held).bootNormal f x
  | none => s.bootRecovery f

end State

/-- Rootstock's boot checks are done, with what flash holds. Nothing happens where no boot is under way, or the Cloche has
stopped it (R396, R646). -/
def execBootComplete (flash : BootFlash) (s : State) : Host.Outcome State Fault Refusal :=
  if !s.rst.booting || !s.rst.measured || s.ctl.bootStopped || s.cloche.fault then .next s
  else
    let s := if s.warmBoot then s else s.readKeys flash
    .next (match s.heldImages flash with
      | some (c, i) => s.bootHeld flash c i
      | none => s.bootFlash flash)

/-! ## Domain resets (R608, R609) -/

/-- A write to DOMAIN_RESET of one kind. During a cold or warm reset it is absorbed (R601). DOMAIN_RESULT keeps the outcome
of the latest one. -/
def domainReset (req : Requester) (there modeOk : Bool) (own : Nat) (act : State → State) (s : State) : State :=
  if s.rst.reach ≠ 0 then s.modRst fun r => { r with sources := withBit r.sources 12 true }
  else
    let own := if !there then 0x0C0A else if s.rst.domainRuns.isSome then 0x0501 else own
    let code := if !modeOk then 0x0401 else own
    let s := if s.present req && mayWrite s req resetWriters then s.put 0x1201 0x03 code else s
    guarded req 0x1201 0x02 resetWriters true modeOk own act s

/-- Kind 1: electrical idle, counters cleared, a loopback ended, FULL retrain; it completes with the retrain (R547). -/
def execDomainResetLane (req : Requester) (target : BitVec 8) (s : State) : Host.Outcome State Fault Refusal :=
  let l := target.toNat
  let modeOk := decide (8 ≤ l) || wh s.ctl.mode || (decide (s.ctl.mode = .form) && s.gateLaneIdle l)
  let busy := decide (8 ≤ l ∧ l < 14) && s.inArray && decide (s.reg (State.laneIx (State.otherLane l)) 0x22 = 0) &&
    decide (s.arrayState ≠ 3)
  .next (domainReset req (decide (l < 16)) modeOk (if busy then 0x0C05 else 0)
    (fun s =>
      let s := [0x28, 0x29, 0x2B, 0x2C, 0x2D, 0x2E].foldl (fun s k => s.put (State.laneIx l) k 0) s
      let s := s.modRst fun r => { r with domainRuns := some (1, l) }
      if s.reg (State.laneIx l) 0x08 = 0 then s.fullRetrain l else s.endLoopback l 3) s)

/-- Kind 2: the period in progress is abandoned, memories, flags and counters go to zero, the loops take INIT_STATE but for
FAULTED ones, and no period starts for 1 us (R169, R190). -/
def execDomainResetEngine (req : Requester) (target : BitVec 8) (s : State) : Host.Outcome State Fault Refusal :=
  let e := target.toNat
  .next (domainReset req (decide (e < 16)) (dwh s.ctl.mode) 0
    (fun s =>
      let hold := some (later s.now (us 1 : Nat))
      let s := s.modEngine e fun n => { Engine.idle with slots := n.slots, ready := n.ready, holdOff := hold }
      let s := [0x02, 0x09, 0x0A, 0x0B, 0x0C, 0x0D, 0x0E, 0x0F, 0x10, 0x11].foldl (fun s k => s.put (Bed.status e) k 0) s
      let s := (List.range 8).foldl (fun s l =>
        if (s.slot e l).state = .faulted then s
        else
          let st := s.initSlot e l
          (s.modSlot e l fun w => { LoopSlot.unused with state := w.state, cmds := w.cmds, mark := w.mark }).setLoop e l st 7) s
      s.refreshLoopCauses.domainDone 2 e) s)

/-- A sensing channel exists and is enabled (R608). -/
def sieveTarget (s : State) (c : Nat) : Bool :=
  decide (c < 208 ∧ s.cfg (0x2000 + c) 0x01 ≠ 0)

/-- Kind 3: a sensing channel, in every mode. -/
def execDomainResetSieve (req : Requester) (target : BitVec 8) (s : State) : Host.Outcome State Fault Refusal :=
  let c := target.toNat
  let i := 0x2000 + c
  .next (domainReset req (sieveTarget s c) true 0
    (fun s =>
      let s := if c < 48 then
          let s := (s.put i 0x27 0).put i 0x28 0
          if (s.chan c).status = .off then s else s.startChan c
        else if c < 192 then (((s.put i 0x20 0).put i 0x21 0).putStatus c 0).put i 0x23 0
        else s.put i 0x21 0
      s.domainDone 3 c) s)

/-- Kind 4: a Furrow, with its pairs at the off level, restarts on its grid (R276). -/
def execDomainResetFurrow (req : Requester) (target : BitVec 8) (s : State) : Host.Outcome State Fault Refusal :=
  let f := target.toNat
  .next (domainReset req (decide (f < 12)) (dwh s.ctl.mode) 0
    (fun s =>
      let was := (s.furrow f).running
      let s := (s.stopFurrow f).modFurrow f fun _ => Furrow.stopped
      let s := (s.takeFurrow f).put (0x5000 + f) 0x22 (s.cfg (0x5000 + f) 0x03)
      let s := if was then s.startFurrow f else s
      s.domainDone 4 f) s)

/-- Kind 5: a local pair: compares, flags and counters at zero, the fault latch evaluated again from the sources active now
(R290). -/
def execDomainResetPair (req : Requester) (target : BitVec 8) (s : State) : Host.Outcome State Fault Refusal :=
  let p := target.toNat
  .next (domainReset req (decide (p < 24)) (dwh s.ctl.mode) 0
    (fun s =>
      let sources := (s.pair p).sources
      let s := s.modPair p fun _ => { LocalPair.idle with waitReload := true }
      let s := [0x20, 0x21, 0x22, 0x23, 0x24, 0x27, 0x28, 0x29, 0x2A].foldl (fun s k => s.put (0x5020 + p) k 0) s
      let s := sources.foldl (fun s x => s.pairFault p x) s
      s.domainDone 5 p) s)

end Sys2Proof.Machine
end

