-- ==== Sys2Proof/Machine/Pins.lean ====
section
/-! DEFINITION. What every output does now, by the mode and its configuration (R19, R48, R68, R295, R307, R387, R431, R534,
R603): a reading of the state, which no command changes. -/

namespace Sys2Proof.Machine

/-- The outputs of R19, and ALARM_N (R603). -/
inductive Output where
  | pwm (pair : Nat) (low : Bool)
  | gateLane (lane : Nat)
  | pen
  | safety (n : Nat)
  | mclk (k : Nat)
  | cko (n : Nat)
  | timed (o : Nat)               -- TEV0 to TEV3, PPS_OUT
  | gpio (n : Nat)
  | runner (lane : Nat)
  | alarm
deriving DecidableEq, Repr

/-- What an output does. -/
inductive Drive where
  | highZ
  | level (high : Bool)
  | released                                  -- an open-drain or gated output that is not driven
  | clock (period high : Nat) (edge : ST64)   -- rising edges every period, high for so many counts, one of them at edge
  | crystal (delay : Int)                     -- the 25 MHz crystal clock, delayed
  | reference (delay : Int)                   -- REF10M_IN, delayed
  | electricalIdle
  | line (kbps : Nat) (inhibit : Bool)        -- a serial lane at its rate; inhibit: INHIBIT to every channel
  | firmware                                  -- under firmware control, which the spec does not describe
deriving DecidableEq, Repr

namespace State

/-- A bit of PIN_STATE as a drive. -/
def pairDrive (s : State) (p : Nat) (low : Bool) : Drive :=
  if bitOf (s.pinState p) 2 then .highZ else .level (bitOf (s.pinState p) (if low then 1 else 0))

/-- A clock derived from 800 MHz by a divider; with an odd divider it is high one cycle longer than low (R48, R431). -/
def dividedClock (div : Nat) (edge : ST64) : Drive := .clock (320 * div) (320 * ((div + 1) / 2)) edge

/-- An MCLK runs with the channels of its group (R19, R48, R68; that a group none of whose channels runs is high-impedance in
WATCH and HALT is DEDUCED, log entry 108). -/
def mclkDrive (s : State) (k : Nat) : Drive :=
  let div := s.cfgN 0x2101 (k + 1)
  if div = 0 ∨ !((List.range 6).any fun j => s.chanWanted (6 * k + j)) then .highZ
  else dividedClock div (s.mclkEdge div s.now)

/-- A clock output, by FORMAT, SOURCE and the divider in force (R19, R431). -/
def ckoDrive (s : State) (n : Nat) : Drive :=
  let e := 0x1230 + n
  if s.ctl.mode = .dormant ∨ s.reg e 0x01 = 0 then .highZ
  else match s.regN e 0x02 with
    | 0 =>
      let div := s.regN e 0x05
      let step : Int := (div * 320 : Nat)
      dividedClock div (later s.now ((s.reg e 0x04 - s.now.toNat) % step))
    | 1 => .crystal (s.reg e 0x04)
    | _ => if s.time.ref10m then .reference (s.reg e 0x04) else .level false

/-- The lane configuration has been loaded by Rootstock: DORMANT after boot, or any other mode (R19, R603). -/
def lanesLoaded (s : State) : Bool := s.ctl.bootComplete || decide (s.ctl.mode ≠ .dormant)

/-- A serial lane; a lane that is off is electrically idle. -/
def laneDrive (s : State) (l : Nat) : Drive :=
  if !s.lanesLoaded || decide (s.slaneRate l = 0) then .electricalIdle
  else .line (s.slaneRate l) (decide (l < 8) && !s.pulsing)

/-- What an output does in the present state. -/
def drive (s : State) : Output → Drive
  | .pwm p low => s.pairDrive p low
  | .gateLane l => s.laneDrive l
  | .pen => if s.penActive then .level true else .released
  | .safety n => match s.soLevel n with | some v => .level v | none => .highZ
  | .mclk k => s.mclkDrive k
  | .cko n => s.ckoDrive n
  | .timed o => if s.toutDrive o = 2 then .highZ else .level (decide (s.toutDrive o = 1))
  | .gpio _ => if s.ctl.mode = .dormant then .highZ else .firmware
  | .runner l => s.laneDrive (8 + l)
  | .alarm => if s.ctl.bootStopped || s.rst.ambiguous then .level false else .released

end State

end Sys2Proof.Machine
end

