-- ==== Sys2Proof/Machine/Access.lean ====
section
/-! DEFINITION. Reads of the object dictionary: existence, the values the device computes at a read, and the value of any
sub-index (R486 to R498). -/

namespace Sys2Proof.Machine

namespace State

/-! ## Values computed at a read -/

/-- A number as a value. -/
def shown (n : Nat) : Option DVal := some (.num (n : Int))

/-- A signed number as a value. -/
def shownInt (n : Int) : Option DVal := some (.num n)

/-- Entry 0x0000: the reading core's own copy (R498, R509). -/
def liveWindow (s : State) (req : Requester) (k : Nat) : Option DVal :=
  match req with
  | .window c =>
    let w := vget s.win c.val WinStatus.clear
    match k with
    | 0x01 => shown w.status
    | 0x02 => shown w.addr
    | 0x03 => shown w.refused
    | _ => none
  | _ => none

/-- Entry 0x1100 (R42). -/
def liveModes (s : State) (k : Nat) : Option DVal :=
  match k with
  | 0x01 => shown (modeCode s.ctl.mode)
  | 0x02 => shown (subCode s.ctl.sub)
  | 0x03 => shown (modeCode s.ctl.prevMode)
  | 0x04 => shown s.ctl.entryTime.toNat
  | 0x06 => shown (causeMap s.ctl.causes)
  | 0x07 => shown (match s.ctl.firstCause with
    | some c => causeBit c
    | none => 0xFF)
  | 0x08 => shown (guardCode s.ctl.guard)
  | _ => none

/-- BEAT_COUNT and NEXT_BEAT (R84, R116). The next boundary lies after the present instant, and before BEAT_ORIGIN no beat
is counted. -/
def liveBeat (s : State) (k : Nat) : Option DVal :=
  match k with
  | 0x02 => shownInt (satU 64 (s.sinceOrigin s.now / (Bed.beat s.active * 320 : Nat)))
  | 0x03 => shown (s.beatFrom (later s.now 1)).toNat
  | _ => none

/-- Clocks and time: entries 0x1220, 0x1238, 0x1400, 0x1402 (R409, R414, R421, R428, R430). -/
def liveTime (s : State) (i k : Nat) : Option DVal :=
  if i = 0x1220 ∧ k = 0x01 then shown (if s.ctl.pllRunning then 2 else 0)
  else if i = 0x1220 ∧ 3 ≤ k ∧ k ≤ 6 then shown (s.cadenceShadow (k - 3))
  else if i = 0x1238 ∧ k = 0x01 then shown (if !s.ctl.pllRunning then 0 else if s.time.aligner then 2 else 1)
  else if i = 0x1400 ∧ k = 0x01 then shown s.now.toNat
  else if i = 0x1400 ∧ k = 0x02 then shownInt s.nowTime
  else if i = 0x1402 ∧ k = 0x02 then shown (s.portState 0 + 256 * s.portState 1)
  else none

/-- The number of open sessions. -/
def sessionsOpen (s : State) : Nat := (s.sessions.toList.filter fun x => decide (x.state = .open)).length

/-- ROLE as ACCEPT and the session table carry it (R501). -/
def roleCode : Role → Nat
  | .viewer => 1 | .operator => 2 | .engineer => 3 | .safety => 4 | .security => 5

/-- SESSION of entry 0x1505, as 16 bytes (R3, R511). -/
def sessionBytes (s : State) (n : Nat) : Bytes :=
  let x := vget s.sessions n Session.closed
  match x.state with
  | .free => List.replicate 16 0#8
  | st =>
    let idle : Nat := (sdiff s.now x.latestPacket).toNat / sec 1
    toLe 1 (if st = .open then 2 else 1) ++ toLe 1 (if st = .open then roleCode x.role else 0) ++ toLe 1 x.outstanding ++
      toLe 1 x.subs.length ++ toLe 4 x.addr ++ toLe 2 x.port ++ [0#8, 0#8] ++ toLe 4 idle

/-- A ring's HEAD, TAIL and FILL (R519). -/
def liveRing (s : State) (q k : Nat) : Option DVal :=
  let r := s.ring q
  match k with
  | 0x20 => shown r.head
  | 0x21 => shown (if s.ringSize q = 0 then 0 else (r.head + s.ringFill q) % s.ringSize q)
  | 0x22 => shown (s.ringFill q)
  | _ => none

/-- SNAPSHOT of a sample (R78). -/
def sampleBytes (s : State) (i : Nat) : Bytes :=
  toLe 4 (s.reg i 0x20) ++ toLe 8 (s.reg i 0x21) ++ toLe 1 (s.reg i 0x22) ++ [0#8, 0#8, 0#8]

/-- A sensing channel's disclosed figures and its snapshot; a channel that is OFF or unclocked shows the table's 0 (R56 to R59,
R65, R78; log entry 113). -/
def liveSensing (s : State) (i k : Nat) : Option DVal :=
  let ch := i - 0x2000
  let on := decide (s.cfg i 0x01 ≠ 0 ∧ s.chanK ch ≠ 0)
  let figure (n : Nat) : Option DVal := if ch < 48 then shown (if on then n else 0) else none
  match k with
  | 0x23 => figure (s.groupDelay ch)
  | 0x24 => figure (s.availLatency ch)
  | 0x25 => figure (s.outputPeriod ch)
  | 0x26 => figure (s.settleSamples ch)
  | 0x2A => some (.bytes (s.sampleBytes i))
  | _ => none

/-- OUTPUTk and STATEk of a block instance (R112): the state words its type has; STATE0 of the PROBE that the sounder is
bound to is the sounder's generator (R117, R154). -/
def liveInstance (s : State) (e b k : Nat) : Option DVal :=
  if 0x60 ≤ k ∧ k < 0x68 then
    let w := peek (b * 8 + (k - 0x60)) (s.engine e).outputs
    shownInt (if outputAngle (Bed.type s.active e b) (k - 0x60) then (w.toNat : Int) else w.toInt)
  else if 0x68 ≤ k ∧ k < 0x70 then
    let type := Bed.type s.active e b
    if type = 30 then shown (if k = 0x68 ∧ s.cfgN 0x4020 0x01 = e * 0x100 + b then s.sounder.register else 0)
    else if blockStateWords type (Bed.whole s.active e b 0x10) ≤ k - 0x68 then shown 0
    else shownInt (BitVec.ofInt 64 ((look (b * 8 + (k - 0x68)) (s.engine e).words).getD 0)).toInt
  else none

/-- Parameter memory an engine's list uses (R114). -/
def paramWords (s : State) (e : Nat) : Nat :=
  ((Bed.list s.active e).map fun w => blockParamWords (Bed.type s.active e w.2)).sum

/-- Engine status and loop slots. PERIOD is that of the bed's cadence in an engine that is not in use too (DESIGN CHOICE, log
entry 111; R114, R190). -/
def liveEngine (s : State) (e b k : Nat) : Option DVal :=
  if b < 0xF0 then s.liveInstance e b k
  else if b < 0xF8 then
    if k = 0x23 then shown ((List.range 240).filter fun n => decide (Bed.loop s.active e n = some (b - 0xF0)) &&
      decide (Bed.type s.active e n ≠ 0)).length
    else none
  else if b = 0xFE then
    match k with
    | 0x01 => shown (s.engineState e)
    | 0x03 => shown (Bed.length s.active e)
    | 0x04 => shown (Bed.period s.active e)
    | 0x05 => shown (Bed.outputPhase s.active e - 8 - Bed.length s.active e)
    | 0x15 => shown (s.paramWords e)
    | _ => none
  else none

/-- ISL_FREQ_REF's word times F_BASE in mHz (R219). -/
def gridFreq (s : State) : Nat :=
  let r := s.cfgN 0x4001 0x05
  if r = 0xFFFF then 0
  else (satU 32 (roundDiv ((s.published r).toInt * s.reg 0x4000 0x03) 16777216)).toNat

/-- Grid forming and the sounder (R198, R204, R219, R247, R248, R253, R272). -/
def liveGrid (s : State) (i k : Nat) : Option DVal :=
  if i = 0x4002 then
    match k with
    | 0x22 => shown (match rampOf s.active with
      | some r => (wholeUs (r.2 : Nat)).toNat
      | none => 0)
    | 0x23 => shown (match rampOf s.active with
      | some r => r.1
      | none => 0)
    | 0x25 => shown s.rotorForm
    | 0x27 => shown s.gridFreq
    | _ => none
  else if i = 0x4020 then
    match k with
    | 0x20 => shownInt (wholeUs (Bed.estCycles s.active * 320 : Nat))
    | 0x21 => shownInt (wholeUs (Bed.seqCycles s.active * 320 : Nat))
    | 0x22 => shown (Bed.binsEligible s.active)
    | _ => none
  else if i = 0x4021 ∧ k = 0x03 then shown s.pauseBits
  else if i = 0x4022 ∧ k = 0x0A then some (.bytes (s.soundSnapshot (s.regN 0x4022 0x02)))
  else none

/-- Furrows and local pairs (R301, R302, R304). -/
def livePwm (s : State) (i k : Nat) : Option DVal :=
  if 0x5000 ≤ i ∧ i ≤ 0x500B then
    if k = 0x20 then shown (s.periodSh (i - 0x5000)) else if k = 0x23 then shown (s.counter (i - 0x5000)) else none
  else if 0x5020 ≤ i ∧ i ≤ 0x5037 then
    if k = 0x25 then shown (s.faultState (i - 0x5020)) else if k = 0x2B then shown (s.pinState (i - 0x5020)) else none
  else if i = 0x5040 ∧ k = 0x20 then shown (s.fltActive.foldl (fun m n => m ||| (1 <<< n)) 0)
  else none

/-- STATE of a gate lane: off, idle while it retrains, drip, full, down (R335). -/
def laneCode (s : State) (l : Nat) : Nat :=
  if !s.laneEnabled l then 0
  else if (s.slane l).retrain = some 2 then 1
  else if (s.slane l).down then 4
  else if (s.lane l).fullRate then 3 else 2

/-- Remote pair's commanded levels and stops (R337): bit 2 tells that a STOP named H, bit 3 that turn-ons of L are refused,
after a STOP of either switch (R316; DESIGN CHOICE, log entry 111). -/
def remoteLevels (s : State) (l p : Nat) : Nat :=
  let r := s.remote l p
  ofBits [s.cmdLevel r.hCmds, s.cmdLevel r.lCmds, r.hStop, r.hStop || r.lStop]

/-- VCAP_MV of a node, in millivolts, rounded (R10, R339). -/
def vcapMv (s : State) (l n : Nat) : Nat :=
  let e := nodeEntry l n
  (satU 32 (roundDiv (s.reg e 0x23 * s.cfg e 0x03) 1000)).toNat

/-- VCAP of an arm: the codes of its local slots (R341). -/
def armVcap (s : State) (a : Nat) : Bytes :=
  let pairs := s.armPairs a
  (List.range 64).flatMap fun slot =>
    toLe 2 (match pairs.find? fun x => decide (x.2.2 = slot) with
      | some (l, p, _) => (s.pairVcap l p : Int)
      | none => 0)

/-- Gate lanes, remote pairs, nodes and arms (R335 to R341). -/
def liveGate (s : State) (i k : Nat) : Option DVal :=
  if 0x6000 ≤ i ∧ i ≤ 0x6007 then (if k = 0x20 then shown (s.laneCode (i - 0x6000)) else none)
  else if 0x6100 ≤ i ∧ i < 0x6200 then
    (if k = 0x23 then shown (s.remoteLevels ((i - 0x6100) / 0x20) (i % 0x20)) else none)
  else if 0x6200 ≤ i ∧ i < 0x6300 then
    let l := (i - 0x6200) / 0x20
    let n := i % 0x20
    if k = 0x24 then shown (s.vcapMv l n)
    else if k = 0x2C then shown (if !(s.node l n).present then 0 else if (s.node l n).linkFault then 2 else 1)
    else none
  else if 0x6300 ≤ i ∧ i ≤ 0x6305 then
    if k = 0x24 then some (.bytes (s.armVcap (i - 0x6300)))
    else if k = 0x29 then shown (s.armPairs (i - 0x6300)).length
    else none
  else none

/-- The Shears (R370 to R372). -/
def liveShears (s : State) (i k : Nat) : Option DVal :=
  if 0x7100 ≤ i ∧ i ≤ 0x71D7 then (if k = 0x20 then shown (s.legState (i - 0x7100)) else none)
  else if 0x7200 ≤ i ∧ i ≤ 0x720F then
    if k = 0x20 then shown (s.sgroup (i - 0x7200)).tripped.toNat
    else if k = 0x21 then shown (s.affCount (i - 0x7200))
    else none
  else if i = 0x7300 ∧ k = 0x02 then shown s.shears.allActive.toNat
  else none

/-- STATE of the Cloche (R404). -/
def clocheCode (s : State) : Nat :=
  match s.cloche.state with
  | .boot => 0 | .running => 1 | .updatePause => 2 | .fault => 3

/-- The Cloche (R404 to R407). -/
def liveCloche (s : State) (i k : Nat) : Option DVal :=
  if i = 0x8000 then
    match k with
    | 0x01 => shown s.clocheCode
    | 0x02 => shown s.ctl.permission.toNat
    | 0x03 => shown s.demands
    | 0x0B => shown s.penState
    | _ => none
  else if k ≠ 0x20 then none
  else if 0x8010 ≤ i ∧ i ≤ 0x8017 then shown (s.siState (i - 0x8010))
  else if 0x8020 ≤ i ∧ i ≤ 0x8027 then shown (s.soState (i - 0x8020))
  else if 0x8040 ≤ i ∧ i ≤ 0x8047 then shown (s.rxState (i - 0x8040))
  else none

/-- Harvest: the active bed's record, and the data READ_FRAME selects (R445, R446, R452). -/
def liveHarvest (s : State) (u k : Nat) : Option DVal :=
  match k with
  | 0x04 => shown (harvestLength s.active u)
  | 0x05 => shown (frameBytes s.active u)
  | 0x0B => some (.bytes (s.harvestData u))
  | _ => none

/-- A value the device computes at the read, where the sub-index has one. -/
def liveValue (s : State) (req : Requester) (i k : Nat) : Option DVal :=
  if i = 0 then s.liveWindow req k
  else if i = 0x1100 then s.liveModes k
  else if i = 0x1211 then s.liveBeat k
  else if 0x1220 ≤ i ∧ i ≤ 0x1402 then s.liveTime i k
  else if i = 0x1504 ∧ k = 0x02 then shown s.sessionsOpen
  else if i = 0x1505 then some (.bytes (s.sessionBytes (k - 1)))
  else if 0x1600 ≤ i ∧ i ≤ 0x160F then
    (if k = 0x20 then shown (s.slaneState (i - 0x1600)) else if k = 0x21 then shown (s.slaneRate (i - 0x1600)) else none)
  else if 0x1701 ≤ i ∧ i ≤ 0x1703 ∧ k = 0x01 then shown (s.runnerPort (i - 0x1701))
  else if i = 0x1800 ∧ k = 0x26 then some (.bytes (bedHash s.active))
  else if i = 0x1800 ∧ k = 0x27 then some (.bytes (bedHash s.shadow))
  else if i = 0x1900 ∧ 3 ≤ k ∧ k ≤ 6 then some (.num (s.counterNow (k - 2) : Int))
  else if i = 0x1801 ∧ k = 0x22 then some (.bytes (slice s.graft.stage 0 128))
  else if 0x1A20 ≤ i ∧ i ≤ 0x1A3F then s.liveRing (i - 0x1A20) k
  else if 0x2000 ≤ i ∧ i < 0x20C0 then s.liveSensing i k
  else if 0x3000 ≤ i ∧ i < 0x4000 then s.liveEngine ((i - 0x3000) / 0x100) (i % 0x100) k
  else if 0x4000 ≤ i ∧ i < 0x5000 then s.liveGrid i k
  else if 0x5000 ≤ i ∧ i < 0x6000 then s.livePwm i k
  else if 0x6000 ≤ i ∧ i < 0x7000 then s.liveGate i k
  else if 0x7000 ≤ i ∧ i < 0x8000 then s.liveShears i k
  else if 0x8000 ≤ i ∧ i < 0x9000 then s.liveCloche i k
  else if 0x9020 ≤ i ∧ i ≤ 0x9023 then s.liveHarvest (i - 0x9020) k
  else none

/-! ## Existence and reads (R486, R487, R490, R491) -/

/-- Sub-index 0x00 of every entry. -/
def highestRow (i : Nat) : Row := ⟨i, i, 0, 0, "HIGHEST", .u8, .ro, 0, .any⟩

/-- The row of a block's output shows its port's type (R113). -/
def portRow (s : State) (i k : Nat) (r : Row) : Row :=
  if isInstance i ∧ 0x60 ≤ k ∧ k < 0x68 then
    { r with ty := if outputAngle (Bed.type s.active ((i - 0x3000) / 0x100) (i % 0x100)) (k - 0x60) then .ang32 else .pu32 }
  else r

/-- The existence check: the row, or the code that refuses the sub-index. Entry 0x0000 exists only in the window. -/
def rowOf (s : State) (req : Requester) (i k : Nat) : Except Nat Row :=
  let visible := match req with
    | .window _ => true
    | _ => decide (i ≠ 0)
  if !visible || !s.hasEntry i then .error 0x0101
  else if k = 0 then .ok (highestRow i)
  else
    let r := if 0x80 ≤ k then bedRow (Bed.nat s.shadow i 0x01) i (k - 0x80)
      else if isInstance i ∧ 0x10 ≤ k ∧ k < 0x50 then
        Dict.findParam (Bed.type s.active ((i - 0x3000) / 0x100) (i % 0x100)) k
      else Dict.find i k
    match r with
    | some r => .ok (s.portRow i k r)
    | none => .error 0x0102

/-- The value of a sub-index that exists. -/
def valueOf (s : State) (req : Requester) (i k : Nat) (r : Row) : DVal :=
  if k = 0 then .num (Dict.highest i : Nat)
  else if 0x80 ≤ k then Bed.value s.shadow i (k - 0x80)
  else match s.liveValue req i k with
    | some v => v
    | none => if r.acc = .rwo then Bed.value s.active i k else storeGet s.regs (Dict.key i k)

/-- A read of a sub-index: its row and value, or the code that refuses it. It changes nothing (R493). -/
def dictRead (s : State) (req : Requester) (i k : Nat) : Except (Nat × Nat) (Row × DVal) :=
  match s.rowOf req i k with
  | .error c => .error (c, 0)
  | .ok r => if r.acc = .wo then .error (0x0203, r.ty.code) else .ok (r, s.valueOf req i k r)

/-- A value as the bytes of a request, least or most significant byte first (R3, R503). -/
def valueBytes (little : Bool) (r : Row) (v : DVal) : Bytes :=
  match v with
  | .bytes b => b
  | .num n =>
    if little then toLe r.ty.width n
    else match r.ty with
      | .time80 => time80Bytes n
      | t => toBe t.width n

end State

/-! ## Window loads (R496 to R498) -/

/-- The slot's 64 bits: a number sign- or zero-extended; a TIME80, STRING or DOMAIN slot reads as zero. -/
def slotBits (r : Row) (v : DVal) : BitVec 64 :=
  match r.ty with
  | .time80 | .string | .domain => 0#64
  | _ => BitVec.ofInt 64 (numOf v)

/-- A load from the dictionary window. A load must begin at byte 0 of its slot, of 8, 16, 32 or 64 bits. An address outside
the window is no window access. -/
def execWindowLoad (core : Fin 4) (address bits : Nat) (s : State) : Host.Outcome State Fault Refusal :=
  if address < 0x40000000 ∨ 0x48000000 ≤ address then .next s
  else
    let i := (address - 0x40000000) / 0x800
    let k := address % 0x800 / 8
    let legal := decide (address % 8 = 0) && [8, 16, 32, 64].contains bits
    match s.dictRead (.window core) i k with
    | .error c => .next ((s.answer (.window core) i k c.1).send (.load core 0#64))
    | .ok (r, v) =>
      if !legal then .next ((s.answer (.window core) i k 0x0301).send (.load core 0#64))
      else .next (s.send (.load core (BitVec.ofNat 64 ((slotBits r v).toNat % (1 <<< bits)))))

end Sys2Proof.Machine
end

