-- ==== Sys2Proof/Machine/Writes.lean ====
section
/-! DEFINITION. Writes through the object dictionary: the roles and conditions of every entry, the commands that a written
sub-index stands for, shadow writes and plain writes (R5, R29, R30, R487, R490, R491, R497). -/

namespace Sys2Proof.Machine

/-- The state an outcome carries; the old one where it stops. -/
def outcomeState (s : State) : Host.Outcome State Fault Refusal → State
  | .next t => t
  | _ => s

/-! ## Roles (R29, R491) -/

/-- The writers of a sub-index, as its owning chapter or the table of R491 gives them. -/
def writersOf (s : State) (i k : Nat) : Writers :=
  if i = 0x1101 ∧ k = 0x01 then operators
  else if i = 0x1201 then resetWriters
  else if i = 0x1800 ∧ k = 0x03 then rootWriters s false
  else if i = 0x1901 ∧ 1 ≤ k ∧ k ≤ 4 then rootWriters s true
  else if i = 0x1901 ∧ k = 0x0B then
    ⟨if s.reg 0x1900 0x01 = 0 then [] else [.viewer, .operator, .engineer, .safety, .security], true⟩
  else if 0x1900 ≤ i ∧ i ≤ 0x19FF then rootWriters s false
  else if i = 0x1A00 ∧ k = 0x05 then ⟨[], true⟩
  else if (0x7100 ≤ i ∧ i ≤ 0x71D7 ∧ k = 0x22) ∨ (0x7200 ≤ i ∧ i ≤ 0x720F ∧ k = 0x23) ∨ (i = 0x7300 ∧ k = 0x01) ∨
      (0x6100 ≤ i ∧ i ≤ 0x61FF ∧ k = 0x26) then operators
  else if 0x8000 ≤ i ∧ i ≤ 0x8FFF then safetyOnly
  else if 0x9020 ≤ i ∧ i ≤ 0x9023 ∧ k = 0x02 then harvestWriters
  else engineers

/-- The pair a requester belongs to; 2 for a session. -/
def pairOf : Requester → Nat
  | .session _ => 2
  | .queue c | .window c => c.val / 2

/-- Refusals at the access check beside the access code: the handover flags belong to one pair (R635), CLASS is fixed but
for the user rings and CONSUMER for the rings hardware consumes (R532), and the standby pair touches no ring but the user
rings (R512). -/
def accessCode (s : State) (req : Requester) (i k : Nat) : Nat :=
  if i = 0x1803 ∧ k = 0x03 then (if pairOf req = s.standbyPair then 0 else 0x0201)
  else if i = 0x1803 ∧ k = 0x04 then (if pairOf req = s.activePair then 0 else 0x0201)
  else if 0x1A20 ≤ i ∧ i ≤ 0x1A3F then
    let q := i - 0x1A20
    if standbyCore s req q then 0x0201
    else if k = 0x02 ∧ !userRing q then 0x0202
    else if k = 0x04 ∧ Dict.hwConsumer q then 0x0202
    else 0
  else 0

/-! ## Commands a sub-index stands for -/

/-- A mode command's value (R20, R43). -/
def modeWrite (req : Requester) (n : Int) (s : State) : Option State :=
  match n with
  | 1 => some (outcomeState s (execGoWatch req s))
  | 2 => some (outcomeState s (execEnergize req s))
  | 3 => some (outcomeState s (execConnect req s))
  | 4 => some (outcomeState s (execCancelConnect req s))
  | 5 => some (outcomeState s (execStop req s))
  | 6 => some (outcomeState s (execToDormant req s))
  | 7 => some (outcomeState s (execHalt req s))
  | 8 => some (outcomeState s (execClearHalt req s))
  | _ => none

/-- A value of DOMAIN_RESET: kind and target (R608). -/
def domainWrite (req : Requester) (n : Int) (s : State) : State :=
  let t := BitVec.ofInt 8 n
  match n / 256 with
  | 1 => outcomeState s (execDomainResetLane req t s)
  | 2 => outcomeState s (execDomainResetEngine req t s)
  | 3 => outcomeState s (execDomainResetSieve req t s)
  | 4 => outcomeState s (execDomainResetFurrow req t s)
  | 5 => outcomeState s (execDomainResetPair req t s)
  | _ => domainReset req false true 0 id s

/-- Reset, beat, clocks, power and time: entries 0x1201 to 0x1414. -/
def timeWrite (req : Requester) (i k : Nat) (n : Int) (s : State) : Option State :=
  if i = 0x1201 ∧ k = 0x01 then some (outcomeState s (execWarmReset req s))
  else if i = 0x1201 ∧ k = 0x02 then some (domainWrite req n s)
  else if i = 0x1211 ∧ k = 0x01 then some (outcomeState s (execBeatOriginWrite req n s))
  else if i = 0x1220 ∧ k = 0x07 then some (outcomeState s (execClockUpdateRequest req s))
  else if i = 0x1301 then some (outcomeState s (execBudgetWrite req k n s))
  else if i = 0x1400 ∧ k = 0x04 then some (outcomeState s (execTimeSourceWrite req n s))
  else if i = 0x1400 ∧ k = 0x09 then some (outcomeState s (execTimeSet req n s))
  else if 0x1410 ≤ i ∧ i ≤ 0x1414 ∧ k = 0x06 then some (outcomeState s (execTimedOutputArm req (Fin.ofNat 5 (i - 0x1410)) s))
  else none

/-- GOOSE words, lanes and the Runner: entries 0x1540 to 0x1700. -/
def linkWrite (req : Requester) (i k : Nat) (n : Int) (v : DVal) (s : State) : Option State :=
  if 0x1540 ≤ i ∧ i ≤ 0x154F ∧ k = 0x20 then some (outcomeState s (execFwWordWrite req (Fin.ofNat 16 (i - 0x1540)) (bytesOf v) s))
  else if 0x1600 ≤ i ∧ i ≤ 0x160F then
    let l := Fin.ofNat 16 (i - 0x1600)
    match k with
    | 0x08 => some (outcomeState s (execLoopbackWrite req l n s))
    | 0x26 => some (outcomeState s (if n = 1 then execRelock req l s else execFullRetrain req l s))
    | 0x27 => some (outcomeState s (execInject req l n s))
    | _ => none
  else if i = 0x1700 ∧ k = 0x06 then
    some (match n with
      | 1 => outcomeState s (execArrayForm req s)
      | 2 => outcomeState s (execArrayDissolve req s)
      | 3 => outcomeState s (execArrayResetCmd req s)
      | 4 => outcomeState s (execArrayLeave req s)
      | _ => if 0x10 ≤ n ∧ n < 0x18 then outcomeState s (execArrayAdmitCmd req (Fin.ofNat 8 (n - 0x10).toNat) s)
        else arrayCommand req false id s)
  else none

/-- Graft, security and cores: entries 0x1800 to 0x1A3F. What lies in the slots of a POST is firmware's own, and free. -/
def coreWrite (req : Requester) (i k : Nat) (n : Int) (v : DVal) (s : State) : Option State :=
  if i = 0x1800 ∧ k = 0x01 then
    some (outcomeState s (match n with
      | 1 => execGraftCopy req s
      | 2 => execGraftSwap req s
      | 3 => execGraftSwapBack req s
      | 4 => execGraftCancel req s
      | _ => execGraftLoad req s))
  else if i = 0x1801 ∧ k = 0x02 then some (outcomeState s (execStageDataWrite req (bytesOf v) s))
  else if i = 0x1801 ∧ k = 0x03 then some (outcomeState s (if n = 1 then execStageClear req s else execStageVerify req s))
  else if i = 0x1803 ∧ k = 0x01 then
    some (outcomeState s (match n with
      | 1 => execFwStartStandby req s
      | 2 => execFwHandoverCmd req s
      | 3 => execFwCommit req s
      | 4 => execFwBack req s
      | _ => execFwStopStandby req s))
  else if i = 0x1901 then
    match k with
    | 0x01 | 0x02 | 0x03 | 0x04 => some (outcomeState s (execSlotProgram req (Fin.ofNat 4 (k - 1)) (bytesOf v) s))
    | 0x05 => some (outcomeState s (execOwnerKeysWrite req (bytesOf v) s))
    | 0x07 => some (outcomeState s (match n with
      | 1 => execKeyRevoke req s
      | 2 => execOwnerLock req s
      | 3 => execRollbackAdvance req s
      | 4 => execDebugUnlock req s
      | 5 => execDebugRelock req s
      | _ => execRecoveryStart req s))
    | 0x0B => some (outcomeState s (execAttestRequest req (bytesOf v) s))
    | _ => none
  else if i = 0x1A00 ∧ k = 0x05 then some (outcomeState s (execWdtKick req s))
  else if i = 0x1A00 ∧ k = 0x06 then some (outcomeState s (execCoreResetCmd req (Fin.ofNat 2 n.toNat) s))
  else if 0x1A20 ≤ i ∧ i ≤ 0x1A3F then
    let q := Fin.ofNat 32 (i - 0x1A20)
    match k with
    | 0x01 => some (outcomeState s (execRingEntriesWrite req q false n s))
    | 0x02 => some (outcomeState s (execRingEntriesWrite req q true n s))
    | 0x23 =>
      let d := (List.range (min n.toNat 4097)).foldl (fun (a : List Bytes × State) _ =>
        let x := a.2.draw
        (a.1 ++ [toLe 64 x.1], x.2)) ([], s)
      some (outcomeState d.2 (execRingPost req q d.1 d.2))
    | 0x24 => some (outcomeState s (execRingRelease req q n s))
    | _ => none
  else none

/-- Sensing, loops, sounder and PWM: entries 0x2100 to 0x5037. -/
def controlWrite (req : Requester) (i k : Nat) (n : Int) (s : State) : Option State :=
  if i = 0x2100 ∧ k = 0x01 then some (outcomeState s (execSyncAtWrite req (BitVec.ofInt 64 n) s))
  else if 0x3000 ≤ i ∧ i < 0x4000 ∧ 0xF0 ≤ i % 0x100 ∧ i % 0x100 < 0xF8 ∧ k = 0x21 then
    let e := Fin.ofNat 16 ((i - 0x3000) / 0x100)
    let l := Fin.ofNat 8 (i % 0x100 - 0xF0)
    some (outcomeState s (if n = 1 then execLoopOpen req e l s else execLoopClose req e l s))
  else if i = 0x4021 ∧ k = 0x01 then some (outcomeState s (execSounderModeWrite req n s))
  else if 0x5000 ≤ i ∧ i ≤ 0x500B then
    let f := Fin.ofNat 12 (i - 0x5000)
    match k with
    | 0x20 => some (outcomeState s (execPwmShadowWrite req (.period f) n s))
    | 0x21 => some (outcomeState s (execCommit req f n.toNat s))
    | _ => none
  else if 0x5020 ≤ i ∧ i ≤ 0x5037 then
    let p := Fin.ofNat 24 (i - 0x5020)
    match k with
    | 0x20 => some (outcomeState s (execPwmShadowWrite req (.compare p false) n s))
    | 0x21 => some (outcomeState s (execPwmShadowWrite req (.compare p true) n s))
    | 0x26 => some (outcomeState s (execFaultClear req p n s))
    | _ => none
  else none

/-- Gate link, Shears, Cloche and Harvest: entries 0x6000 to 0x9023. -/
def stageWrite (req : Requester) (i k : Nat) (n : Int) (v : DVal) (s : State) : Option State :=
  if 0x6000 ≤ i ∧ i ≤ 0x6007 ∧ k = 0x21 then
    let l := Fin.ofNat 8 (i - 0x6000)
    some (outcomeState s (if n = 1 then execBringUp req l s else execResync req l s))
  else if 0x6100 ≤ i ∧ i ≤ 0x61FF then
    let l := Fin.ofNat 8 ((i - 0x6100) / 0x20)
    let p := Fin.ofNat 24 (i % 0x20)
    match k with
    | 0x20 => some (outcomeState s (execPwmShadowWrite req (.remote l p false) n s))
    | 0x21 => some (outcomeState s (execPwmShadowWrite req (.remote l p true) n s))
    | 0x26 => some (outcomeState s (execLegRelease req (Fin.ofNat 216 (24 + l.val * 24 + p.val)) true s))
    | _ => none
  else if 0x6200 ≤ i ∧ i ≤ 0x62FF ∧ k = 0x2B then
    let l := Fin.ofNat 8 ((i - 0x6200) / 0x20)
    let m := Fin.ofNat 24 (i % 0x20)
    some (outcomeState s (if n = 1 then execBypassClose req l m s else execBypassOpen req l m s))
  else if 0x7100 ≤ i ∧ i ≤ 0x71D7 ∧ k = 0x22 then some (outcomeState s (execLegRelease req (Fin.ofNat 216 (i - 0x7100)) false s))
  else if 0x7200 ≤ i ∧ i ≤ 0x720F ∧ k = 0x23 then some (outcomeState s (execGroupClear req (Fin.ofNat 16 (i - 0x7200)) s))
  else if i = 0x7300 ∧ k = 0x01 then some (outcomeState s (execClearAll req s))
  else if i = 0x7310 ∧ k = 0x01 then some (outcomeState s (execTestCmp req (Fin.ofNat 16 n.toNat) s))
  else if i = 0x7310 ∧ k = 0x02 then some (outcomeState s (execTestNode req (BitVec.ofInt 32 n) s))
  else if i = 0x8000 ∧ k = 0x0C then some (outcomeState s (execPenClear req (!bitOf s.penState 1) s))
  else if 0x8020 ≤ i ∧ i ≤ 0x8027 ∧ k = 0x22 then some (outcomeState s (execSoFaultClear req (Fin.ofNat 8 (i - 0x8020)) s))
  else if i = 0x8060 ∧ k = 0x01 then
    some (outcomeState s (if n = 1 then execClocheUpdateStart req s else execClocheUpdateAbort req s))
  else if State.clocheConfig i k then some (outcomeState s (execClocheConfigWrite req i k v s))
  else if 0x9020 ≤ i ∧ i ≤ 0x9023 then
    let u := Fin.ofNat 4 (i - 0x9020)
    match k with
    | 0x02 => some (outcomeState s (match n with
      | 1 => execHarvestArm req u s
      | 2 => execHarvestTriggerCmd req u s
      | _ => execHarvestAbort req u s))
    | 0x03 => some (outcomeState s (execArmAtWrite req u (BitVec.ofInt 64 n) s))
    | _ => none
  else none

/-- The command a written sub-index stands for, where it has one. -/
def commandWrite (req : Requester) (i k : Nat) (v : DVal) (s : State) : Option State :=
  let n := numOf v
  if i = 0x1101 ∧ k = 0x01 then modeWrite req n s
  else if i < 0x1500 then timeWrite req i k n s
  else if i < 0x1800 then linkWrite req i k n v s
  else if i < 0x2000 then coreWrite req i k n v s
  else if i < 0x6000 then controlWrite req i k n s
  else stageWrite req i k n v s

/-! ## Plain writes -/

/-- Whether the present mode permits a plain write (R42, R194, R416, R420, R431, R461, R554, R634, R640). -/
def plainMode (s : State) (i k : Nat) : Bool :=
  if i = 0x1100 ∧ k = 0x05 then decide (s.ctl.mode = .dormant)
  else if i = 0x4000 ∨ (i = 0x1400 ∧ k = 0x05) ∨ i = 0x1401 ∨ (0x1230 ≤ i ∧ i ≤ 0x1237 ∧ (k = 0x01 ∨ k = 0x02)) ∨
      (0x1500 ≤ i ∧ i ≤ 0x1503) ∨ (i = 0x1700 ∧ 1 ≤ k ∧ k ≤ 5) ∨ (i = 0x1800 ∧ k = 0x03) then dwh s.ctl.mode
  else true

/-- An output's FORMAT and SOURCE with a new value: its divided frequency is beyond the format's limit (R431). -/
def ckoBad (s : State) (i k : Nat) (n : Int) : Bool :=
  let format : Int := if k = 0x01 then n else s.reg i 0x01
  let source : Int := if k = 0x02 then n else s.reg i 0x02
  decide (format ≠ 0 ∧ source = 0 ∧ s.regN i 0x05 < ckoMinDiv format.toNat)

/-- A plain write's own conditions: 0, or the code (R63, R431, R434, R543, R554, R637). -/
def plainOwn (s : State) (i k : Nat) (v : DVal) : Nat :=
  let n := numOf v
  if 0x1230 ≤ i ∧ i ≤ 0x1237 ∧ (k = 0x01 ∨ k = 0x02) then (if ckoBad s i k n then 0x0CD1 else 0)
  else if i = 0x1400 ∧ k = 0x05 then (if s.position ≠ 0 then 0x0CD2 else 0)
  else if 0x1600 ≤ i ∧ i ≤ 0x160F ∧ k = 0x06 then (if n = 1 ∧ ¬(0x1608 ≤ i ∧ i ≤ 0x160D) then 0x0C04 else 0)
  else if i = 0x1700 ∧ k = 0x02 then (if s.position ≠ 0 then 0x0C06 else 0)
  else if i = 0x1901 ∧ (k = 0x06 ∨ k = 0x08 ∨ k = 0x09) then (if s.programming then 0x0501 else 0)
  else if i = 0x2100 ∧ k = 0x02 then (if n = 1 ∧ s.position ≠ 0 then 0x0C22 else 0)
  else 0

/-- A clock output's period in ST64 counts: the divided clock, the crystal clock or REF10M_IN (R431, R439). -/
def ckoPeriod (s : State) (i : Nat) : Nat :=
  match s.regN i 0x02 with
  | 0 => 320 * s.regN i 0x05
  | 1 => 10240
  | _ => 25600

/-- A range that another entry sets: IRQ_LEVEL lies within ENTRIES, PHASE within the output's period (R439, R532). -/
def plainRange (s : State) (i k : Nat) (v : DVal) : Bool :=
  if 0x1230 ≤ i ∧ i ≤ 0x1237 ∧ k = 0x04 then decide (numOf v < ckoPeriod s i)
  else if 0x1A20 ≤ i ∧ i ≤ 0x1A3F ∧ k = 0x05 then decide (numOf v ≤ s.ringSize (i - 0x1A20)) else true

/-- What a plain write brings about: the value, and the end of a membership at ENABLE = 0, or a JOIN at ENABLE = 1 (R554, R568). FW_FROZEN outside a
handover has no effect (R632). -/
def plainApply (s : State) (i k : Nat) (v : DVal) : State :=
  if i = 0x1803 ∧ k = 0x04 ∧ s.fwState ≠ 2 then s
  else
    let s := s.putV i k v
    if i = 0x1700 ∧ k = 0x01 then (if v = .num 0 then s.leaveArray else s.joinFormed) else s

/-! ## A write of any sub-index -/

/-- A window store carries its raw bytes; the value is truncated to the type (R497). A store not at byte 0, of another
width, narrower than the type, or to a TIME80, STRING or DOMAIN slot has no value of the type. -/
def storeValue (req : Requester) (r : Row) (byte : Nat) (v : DVal) : DVal :=
  match req with
  | .window _ =>
    match r.ty, v with
    | .string, _ | .domain, _ => .num 0
    | .time80, _ => .bytes []
    | t, .bytes b =>
      if byte = 0 ∧ [1, 2, 4, 8].contains b.length ∧ t.width ≤ b.length then
        .num (if t.signed then leInt (b.take t.width) else (leNat (b.take t.width) : Int))
      else .bytes []
    | _, .num n => if byte = 0 then .num n else .bytes []
  | _ => v

/-- A refused write; a refused write of COMMAND is kept as LAST_COMMAND, 0 where its value is none of a U8 (R43). -/
def refuseWrite (s : State) (req : Requester) (i k : Nat) (v : DVal) (code : Nat) : State :=
  let s := if i = 0x1101 ∧ k = 0x01 then s.lastCommand (if code = 0x0301 then 0 else ((numOf v) % 256).toNat) code else s
  s.answer req i k code

/-- Where a shadow write leaves the parameters of an instance whose TYPE it changes: the new type's defaults (R122). -/
def dropParams (st : Store) (i : Nat) : Store :=
  st.filter fun e => !decide (e.1 / 256 = i ∧ 0x10 ≤ e.1 % 256 ∧ e.1 % 256 < 0x50)

/-- What a shadow write brings about: the bed's value, and the end of what the shadow bed was known to be (R615, R616,
R625). -/
def shadowApply (s : State) (i k : Nat) (v : DVal) : State :=
  let s := s.setShadow (storePut (if isInstance i ∧ k = 0x01 then dropParams s.shadow i else s.shadow) (Dict.key i k) (Dict.stored i k v))
  (((s.put 0x1800 0x25 0).put 0x1800 0x28 0)).modGraft fun g => { g with shadowImage := none }

/-- The ranges that other values of the shadow bed bound: a TAP's shared samples lie within 0 to 63 (R161), a Furrow's
OFFSET within its carrier and its event levels within its PERIOD (R301). -/
def shadowFits (s : State) (i k : Nat) (v : DVal) : Bool :=
  if isInstance i ∧ 0x10 ≤ k ∧ k < 0x50 then State.tapFits s.shadow ((i - 0x3000) / 0x100) (i % 0x100) k v
  else if 0x5000 ≤ i ∧ i < 0x500C then
    if k = 0x06 then decide (numOf v * 640 < Bed.carrierLen s.shadow (i - 0x5000))
    else if k = 0x0C ∨ k = 0x0D then decide (numOf v ≤ Bed.num s.shadow i 0x03)
    else true
  else true

/-- A write of the shadow bed's copy of sub-index k (R487, R490). -/
def shadowWrite (req : Requester) (i k byte : Nat) (v : DVal) (s : State) : State :=
  if !s.present req then s
  else if i = 0 ∨ !s.hasEntry i then s.answer req i (k + 0x80) 0x0101
  else
    match bedRow (Bed.nat s.shadow i 0x01) i k with
    | none => s.answer req i (k + 0x80) 0x0102
    | some r =>
      let v := storeValue req r byte v
      if !mayWrite s req engineers then s.answer req i (k + 0x80) 0x0201
      else if !typeOk r v then s.answer req i (k + 0x80) 0x0301
      else if !rangeOk r.rng v || !shadowFits s i k v then s.answer req i (k + 0x80) 0x0302
      else if s.graftBusy then s.answer req i (k + 0x80) 0x0501
      else (shadowApply s i k v).answer req i (k + 0x80) 0

/-- Bits written as 1 are cleared (R5). -/
def clearBits (s : State) (i k : Nat) (n : Int) : State :=
  let m := s.regN i k
  s.put i k ((m &&& (m ^^^ (m &&& n.toNat)) : Nat) : Int)

/-- A write of an active sub-index of an existing row, checked in the order of R30. -/
def activeWrite (req : Requester) (i k : Nat) (r : Row) (v : DVal) (s : State) : State :=
  if !mayWrite s req (writersOf s i k) then refuseWrite s req i k v 0x0201
  else if accessCode s req i k ≠ 0 then refuseWrite s req i k v (accessCode s req i k)
  else if r.acc = .ro ∨ r.acc = .cst ∨ r.acc = .rwo then s.answer req i k 0x0202
  else if !typeOk r v then refuseWrite s req i k v 0x0301
  else if r.acc = .w1c then (clearBits s i k (numOf v)).answer req i k 0
  else if !(rangeOk r.rng v && plainRange s i k v) then refuseWrite s req i k v 0x0302
  else match commandWrite req i k v s with
    | some t => t
    | none => guarded req i k (writersOf s i k) true (plainMode s i k) (plainOwn s i k v) (fun s => plainApply s i k v) s

/-- A write of any sub-index. byte is where in its slot a window store begins. -/
def writeAny (req : Requester) (i k byte : Nat) (v : DVal) (s : State) : State :=
  if !s.present req then s
  else if 0x80 ≤ k then shadowWrite req i (k - 0x80) byte v s
  else match s.rowOf req i k with
    | .error c => s.answer req i k c
    | .ok r =>
      let v := storeValue req r byte v
      if isInstance i ∧ 0x10 ≤ k ∧ k < 0x50 then
        outcomeState s (execParamWrite req (Fin.ofNat 16 ((i - 0x3000) / 0x100)) (Fin.ofNat 240 (i % 0x100)) k v s)
      else activeWrite req i k r v s

/-! ## Commands -/

/-- A write of a shadow-bed sub-index: k is the active one (R487). -/
def execShadowWrite (req : Requester) (i k : Nat) (v : DVal) (s : State) : Host.Outcome State Fault Refusal :=
  .next (shadowWrite req i k 0 v s)

/-- A write to a dictionary entry (R30). -/
def execDictWrite (req : Requester) (i k byte : Nat) (v : DVal) (s : State) : Host.Outcome State Fault Refusal :=
  .next (writeAny req i k byte v s)

end Sys2Proof.Machine
end

