-- ==== Sys2Proof/Machine/Xdp.lean ====
section
/-! DEFINITION. The Xever Dictionary Protocol and the dictionary service of Q0 to Q2: sessions, requests, snapshots, staged
writes and notifications (R499 to R508, R521). -/

namespace Sys2Proof.Machine

namespace State

/-- REFUSE in a session, which it frees (R501). -/
def refuseSession (s : State) (n reqId code : Nat) : State := (s.sendXdp n 0x3F reqId (toBe 2 code)).endSession n

/-! ## Opening (R501, R638, R645) -/

/-- The sessions in a state. -/
def sessionsIn (s : State) (st : SessionState) : List Nat := (List.range 16).filter fun n => decide ((s.session n).state = st)

/-- The session a HELLO continues: one still opening, of the same client and CLIENT_NONCE. -/
def helloSession (s : State) (h : HelloMsg) : Option Nat :=
  (s.sessionsIn .opening).find? fun n =>
    decide ((s.session n).clientNonce = h.nonce ∧ (s.session n).addr = h.addr ∧ (s.session n).port = h.port)

/-- CERT_DENY lists a certificate. -/
def certDenied (s : State) (hash : Bytes) : Bool :=
  (List.range 16).any fun k => decide (slice (s.regB 0x1901 0x06) (32 * k) 32 = hash ∧ hash.any fun b => decide (b ≠ 0#8))

/-- The ROLE a code gives. -/
def roleOfCode (n : Int) : Option Role :=
  match n with
  | 1 => some .viewer | 2 => some .operator | 3 => some .engineer | 4 => some .safety | 5 => some .security
  | _ => none

/-- The role and owner-key slot a chain opens a session with; none where it fails. In BLANK a self-signed root gives
SECURITY, with no slot. -/
def judgeChain (s : State) (f : ChainFacts) : Option (Role × Nat) :=
  if s.reg 0x1900 0x01 = 0 then (if f.selfSigned then some (.security, 4) else none)
  else
    let slot := s.activeSlots.find? fun k => decide (s.regB 0x1901 (1 + k) = f.rootHash)
    let current := !s.mapValid || f.validity.all fun v => decide (v.1 ≤ s.taiNs s.now ∧ s.taiNs s.now ≤ v.2)
    match slot, f.role.bind roleOfCode with
    | some k, some r =>
      if (f.count = 2 ∨ f.count = 3) ∧ f.chained ∧ f.issuersCa ∧ !(f.hashes.any s.certDenied) ∧ current then some (r, k) else none
    | _, _ => none

/-- A chain is judged without a valid time map (R645). In BLANK its validity is not asked for. -/
def timeUnchecked (s : State) : State :=
  if s.reg 0x1900 0x01 ≠ 0 ∧ !s.mapValid then s.flag 0x1900 0x0D 1 else s

/-- A chain fails: REFUSE 0x0601, and the session is free. -/
def chainFails (s : State) (n reqId : Nat) : State := (s.count 0x1504 0x03).refuseSession n reqId 0x0601

/-- CHALLENGE: nonce, session key under the leaf's key, and the device's signature. -/
def challenge (s : State) (n reqId : Nat) (r : Role × Nat) (leafKey : Bytes) : State :=
  let a := s.draw
  let b := a.2.draw
  let c := b.2.draw
  let d := c.2.draw
  let nonce := toBe 32 a.1
  let key := toBe 32 b.1
  let body := nonce ++ slice (Config.encrypt c.1 leafKey key) 0 384
  let sig := slice (Config.identitySign d.1 (body ++ (s.session n).clientNonce ++ toBe 2 (n + 1 : Nat))) 0 384
  let s := d.2.modSession n fun x =>
    { x with role := r.1, chainSlot := r.2, leafKey := leafKey, deviceNonce := nonce, key := key, openedAt := s.now }
  s.sendXdp n 0x02 reqId (body ++ sig)

/-- A part of a chain arrives in a session: in order, and complete, it is judged. -/
def takePart (s : State) (n : Nat) (h : HelloMsg) : State :=
  let x := s.session n
  if h.total < 1 ∨ 8192 < h.total ∨ h.total ≠ x.chainTotal ∨ h.offset ≠ x.chain.length ∨ h.total < h.offset + h.part.length then
    s.chainFails n h.reqId
  else
    let s := s.modSession n fun x => { x with chain := x.chain ++ h.part }
    if h.offset + h.part.length < h.total then s
    else
      let s := s.timeUnchecked
      match s.judgeChain h.facts with
      | some r => s.challenge n h.reqId r h.facts.leafKey
      | none => s.chainFails n h.reqId

/-! ## Requests (R503 to R505) -/

/-- A snapshot is taken; a third ends the oldest. -/
def takeSnapshot (s : State) (req : Requester) (i k : Nat) (b : Bytes) : Nat × State :=
  let id := (s.record req).nextSnap
  (id, s.modRecord req fun x =>
    { x with snaps := (if x.snaps.length < 2 then x.snaps else x.snaps.drop (x.snaps.length - 1)) ++ [⟨id, i, k, b, s.now⟩]
             nextSnap := if id = 0xFFFF then 1 else id + 1 })

/-- A READ (R503, R505): cap is how many bytes a reply may carry. A value of fixed type is returned whole. -/
def readRequest (s : State) (req : Requester) (little : Bool) (cap : Nat) (r : ReadReq) : Reply × State :=
  let want := if r.maxLen = 0 then cap else min r.maxLen cap
  match s.dictRead req r.index r.sub with
  | .error c => (refusal c.1 c.2 r.offset, s)
  | .ok (row, v) =>
    let t := row.ty.code
    match row.ty with
    | .string | .domain =>
      if r.offset = 0 then
        let b := bytesOf v
        if b.length ≤ want then (⟨0, t, 0, b.length, 0, b⟩, s)
        else
          let x := s.takeSnapshot req r.index r.sub b
          (⟨0, t, x.1, b.length, 0, b.take want⟩, x.2)
      else
        match (s.record req).snaps.find? fun x => decide (x.id = r.snapId ∧ x.index = r.index ∧ x.sub = r.sub) with
        | none => (refusal 0x0C00 t r.offset, s)
        | some x =>
          let d := (x.value.drop r.offset).take want
          let last := decide (x.value.length ≤ r.offset + d.length)
          (⟨0, t, x.id, x.value.length, r.offset, d⟩,
            s.modRecord req fun y =>
              let l := if last then y.snaps.filter fun z => decide (z.id ≠ x.id)
                else y.snaps.map fun z => if z.id = x.id then { z with latestRead := s.now } else z
              { y with snaps := l })
    | _ =>
      if r.offset ≠ 0 then (refusal 0x0301 t r.offset, s)
      else
        let b := valueBytes little row v
        (⟨0, t, 0, b.length, 0, b⟩, s)

/-- The value a WRITE's data spell for a row of the type the request names; a value of no type where it names another. -/
def wireValue (little : Bool) (row : Row) (type : Nat) (b : Bytes) : DVal :=
  match row.ty with
  | .string | .domain => if type = row.ty.code then .bytes b else .num 0
  | .time80 =>
    if type = row.ty.code ∧ b.length = 10 then
      .num (if little then (leNat b : Int) else (beNat (b.take 6) : Int) + p2 48 * beNat (b.drop 6))
    else .bytes []
  | t =>
    if type = t.code ∧ b.length = t.width then
      .num (let c := if little then b else b.reverse; if t.signed then leInt c else (leNat c : Int))
    else .bytes []

/-- The abort code of the latest answer; none where a write has not been answered yet (R390). -/
def lastAbort : List Sent → Option Nat
  | .response _ _ _ a :: _ => some a
  | _ :: r => lastAbort r
  | [] => none

/-- The answers a write gave in the short form of the log of sent things leave it: the request has its own. -/
def dropAnswers (n : Nat) (l : List Sent) : List Sent :=
  (l.take (l.length - n)).filter (fun m => match m with
    | .response _ _ _ _ => false
    | _ => true) ++ l.drop (l.length - n)

/-- A whole value is written: the code of its outcome, where it is answered at once. -/
def writeValue (s : State) (req : Requester) (little : Bool) (i k type : Nat) (b : Bytes) : Option Nat × State :=
  let n := s.sent.length
  match s.rowOf req i k with
  | .error c => (some c, s)
  | .ok row =>
    let t := writeAny req i k 0 (wireValue little row type b) s
    let new := t.sent.take (t.sent.length - n)
    (lastAbort new, t.setSent (dropAnswers n t.sent))

/-- TYPE of a reply to a write: the row's, 0 where none exists. -/
def replyType (s : State) (req : Requester) (i k : Nat) : Nat :=
  match s.rowOf req i k with
  | .ok r => r.ty.code
  | .error _ => 0

/-- A WRITE or one of its segments (R503, R505); a write that is answered later leaves a request that waits. -/
def writeRequest (s : State) (req : Requester) (little : Bool) (reqId : Nat) (w : WriteReq) : Option Reply × State :=
  let t := s.replyType req w.index w.sub
  let clear (s : State) : State := s.modRecord req fun x => { x with staged := none }
  let done (s : State) (b : Bytes) : Option Reply × State :=
    let r := (clear s).writeValue req little w.index w.sub w.type b
    match r.1 with
    | some c => (some ⟨c, t, 0, if c = 0 then w.total else 0, w.offset, []⟩, r.2)
    | none => (none, if !r.2.present req then r.2 else r.2.modRecord req fun x =>
        { x with waiting := x.waiting ++ [⟨reqId, w.index, w.sub, t, w.total, w.offset⟩], outstanding := x.outstanding + 1 })
  if w.offset = 0 then
    if w.total ≤ w.data.length then
      if w.total = w.data.length then done s w.data else done s []
    else
      (some ⟨0, t, 0, w.total, 0, []⟩,
        s.modRecord req fun x => { x with staged := some ⟨w.index, w.sub, w.total, w.data, s.now⟩ })
  else
    match (s.record req).staged with
    | none => (some (refusal 0x0C00 t w.offset), s)
    | some g =>
      if g.index ≠ w.index ∨ g.sub ≠ w.sub ∨ g.total ≠ w.total ∨ g.got.length ≠ w.offset ∨ w.total < w.offset + w.data.length then
        (some (refusal 0x0C00 t w.offset), clear s)
      else if w.offset + w.data.length < w.total then
        (some ⟨0, t, 0, w.total, w.offset, []⟩,
          s.modRecord req fun x => { x with staged := some { g with got := g.got ++ w.data, latest := s.now } })
      else done s (g.got ++ w.data)

/-! ## Packets of a session (R500, R504) -/

/-- A packet of an open session: MAC, PSN, retransmission and the limit of 8, then the request. -/
def xdpPacket (s : State) (h : XdpHead) (act : State → State) : State :=
  let n := h.session.val
  let x := s.session n
  if x.state ≠ .open then s
  else if !h.macOk then s.count 0x1504 0x03
  else if h.psn ≤ x.psnIn then s.count 0x1504 0x04
  else
    let s := s.modSession n fun x => { x with psnIn := h.psn, latestPacket := s.now }
    match x.kept.find? fun r => decide (r.reqId = h.reqId) with
    | some r => s.sendXdp n 0x30 h.reqId r.payload
    | none =>
      if x.waiting.any fun w => decide (w.reqId = h.reqId) then s
      else if 8 ≤ x.outstanding then (s.count 0x1504 0x06).respond n h.reqId (replyBytes false 0 0 (refusal 0x0501 0 0))
      else act s

/-! ## Notifications (R506) -/

/-- A result object: SEQUENCE and STATUS at 0x01 and 0x02 (R494). -/
def isResult (i : Nat) : Bool := decide (i = 0x1902 ∨ i = 0x4022 ∨ i = 0x7311)

/-- What KIND 1 watches of an entry: SEQUENCE of a result object, else the value. -/
def watched (s : State) (n : Fin 16) (i k : Nat) : DVal :=
  match s.dictRead (.session n) i (if isResult i then 0x01 else k) with
  | .ok (_, v) => v
  | .error _ => .num 0

/-- The NOTIFY payload. -/
def notifyBytes (seq : BitVec 32) (number : Nat) (t : ST64) (i k type : Nat) (data : Bytes) : Bytes :=
  toBe 4 seq.toNat ++ toBe 2 number ++ [0#8, 0#8] ++ toBe 8 t.toNat ++ toBe 2 i ++ toBe 1 k ++ toBe 1 type ++ toBe 2 data.length ++
    [0#8, 0#8] ++ data

/-- A notification goes to Q2, or is dropped where Q2 is full; NOTIFY_SEQ advances either way. -/
def notify (s : State) (n : Nat) (number : Nat) (t : ST64) (i k type : Nat) (data : Bytes) : State :=
  let seq := nextSeq (s.session n).notifySeq
  let s := s.modSession n fun x => { x with notifySeq := seq }
  let e : RingEntry := ⟨0, [(n : Int), ((s.session n).openedAt.toNat : Int)], notifyBytes seq number t i k type data, s.now⟩
  if s.ringFill 2 < s.ringSize 2 then s.ringAppend 2 e else (s.ringLost 2 1).count 0x1504 0x07

/-- XDP transmit takes the oldest notification of Q2; one whose session has ended is not sent (R508). -/
def transmitNotify (s : State) : State :=
  match (s.ring 2).entries with
  | [] => s
  | e :: _ =>
    let s := s.ringRelease 2 1
    let n := (e.fields.headD 0).toNat
    let x := s.session n
    if x.state = .open ∧ (x.openedAt.toNat : Int) = e.fields.getD 1 0 then s.sendXdp n 0x22 0 e.data else s

/-- A value as NOTIFY carries it: a STRING or DOMAIN is not carried. -/
def notifyValue (r : Row) (v : DVal) : Bytes :=
  match r.ty with
  | .string | .domain => []
  | _ => valueBytes false r v

/-- The oldest event of Q3 that a KIND 3 subscription has not looked at and that lies in its range; EVENT_SEQ rises in the
ring. -/
def nextEvent (s : State) (x : Subscription) : Option RingEntry :=
  (s.ring 3).entries.find? fun e =>
    let seq := BitVec.ofInt 32 (e.fields.headD 0)
    decide (0 < (seq - x.lastSeq).toInt ∧ x.codeLo ≤ e.kind ∧ e.kind ≤ x.codeHi)

/-- A subscription, by session and number. -/
def subscription (s : State) (n number : Nat) : Option Subscription := look number (s.session n).subs

def setSubscription (s : State) (n number : Nat) (x : Subscription) : State :=
  s.modSession n fun y => { y with subs := ins number x y.subs }

/-- The lowest free subscription number. -/
def freeNumber (l : List (Nat × Subscription)) : Nat :=
  ((List.range 32).map (· + 1)).find? (fun k => (look k l).isNone) |>.getD 33

/-- KIND 3 watches Q3, and names no entry of its own. -/
def subscribeEvents (s : State) (r : SubscribeReq) (n reqId : Nat) : State :=
  if 32 ≤ (s.session n).subs.length then
    s.respond n reqId (replyBytes false r.index r.sub (refusal 0x0C01 0 0))
  else
    let number := freeNumber (s.session n).subs
    let s := s.setSubscription n number ⟨r.index, r.sub, r.kind, r.interval, r.codeLo, r.codeHi, .num 0, s.eventSeq⟩
    s.respond n reqId (replyBytes false r.index r.sub ⟨0, 0, number, 0, 0, []⟩)

/-! ## The queues Q0 and Q1 (R518, R521) -/

/-- The READ of a Q0 entry's payload. -/
def queueRead (p : Bytes) : ReadReq :=
  ⟨leNat (slice p 0 2), leNat (slice p 2 1), leNat (slice p 4 4), leNat (slice p 8 2), leNat (slice p 10 2)⟩

/-- The WRITE of a Q0 entry's payload; its DATA are at most 44 bytes. -/
def queueWrite (p : Bytes) : WriteReq :=
  ⟨leNat (slice p 0 2), leNat (slice p 2 1), leNat (slice p 3 1), leNat (slice p 4 4), leNat (slice p 8 4),
    slice p 16 (min 44 (leNat (slice p 12 2)))⟩

end State

/-! ## Commands -/

/-- HELLO: a chain, in one packet or several; the last part brings CHALLENGE or REFUSE. -/
def execXdpHello (h : HelloMsg) (s : State) : Host.Outcome State Fault Refusal :=
  match s.helloSession h with
  | some n =>
    if h.psn ≤ (s.session n).psnIn then .next (s.count 0x1504 0x04)
    else .next ((s.modSession n fun x => { x with psnIn := h.psn, latestPacket := s.now }).takePart n h)
  | none =>
    match s.sessionsIn .free with
    | [] => .next ((s.count 0x1504 0x06).send (.xdp 0 (State.xdpDatagram [] 0x3F 0 1 h.reqId (toBe 2 0x0501))))
    | n :: _ =>
      if 2 ≤ (s.sessionsIn .opening).length then
        .next ((s.count 0x1504 0x06).send (.xdp 0 (State.xdpDatagram [] 0x3F 0 1 h.reqId (toBe 2 0x0501))))
      else
        let s := s.modSession n fun _ =>
          { Session.closed with state := .opening, clientNonce := h.nonce, chainTotal := h.total, addr := h.addr, port := h.port
                                psnIn := h.psn, openedAt := s.now, latestPacket := s.now }
        .next (s.takePart n h)

/-- PROVE: the role key's signature opens the session. -/
def execXdpProve (h : XdpHead) (signature : Bytes) (s : State) : Host.Outcome State Fault Refusal :=
  let n := h.session.val
  let x := s.session n
  if x.state ≠ .opening ∨ x.deviceNonce = [] then .next s
  else if h.psn ≤ x.psnIn then .next (s.count 0x1504 0x04)
  else if Config.verifies x.leafKey (x.deviceNonce ++ x.clientNonce ++ toBe 2 (n + 1 : Nat)) signature then
    let s := s.modSession n fun x =>
      { x with state := .open, psnIn := h.psn, timeout := s.regN 0x1504 0x01, openedAt := s.now, latestPacket := s.now }
    let s := s.put 0x1102 (n + 1) 0
    .next (s.sendXdp n 0x04 h.reqId (toBe 1 (State.roleCode x.role) ++ [8#8] ++ toBe 2 (s.session n).timeout))
  else .next ((s.count 0x1504 0x03).refuseSession n h.reqId 0x0601)

/-- No PROVE within 5 s of CHALLENGE. -/
def execXdpProveTimeout (n : Fin 16) (s : State) : Host.Outcome State Fault Refusal :=
  let x := s.session n
  if x.state = .opening ∧ x.deviceNonce ≠ [] then .next ((s.count 0x1504 0x03).refuseSession n 0 0x0601) else .next s

/-- READ. -/
def execXdpRead (h : XdpHead) (r : ReadReq) (s : State) : Host.Outcome State Fault Refusal :=
  .next (s.xdpPacket h fun s =>
    let x := s.readRequest (.session h.session) false 1408 r
    x.2.respond h.session h.reqId (State.replyBytes false r.index r.sub x.1))

/-- WRITE. A session that the write itself ends gets no RESPONSE (R502, R508). -/
def execXdpWrite (h : XdpHead) (w : WriteReq) (s : State) : Host.Outcome State Fault Refusal :=
  .next (s.xdpPacket h fun s =>
    let x := s.writeRequest (.session h.session) false h.reqId w
    match x.1 with
    | some r =>
      if (x.2.session h.session).state = .open then x.2.respond h.session h.reqId (State.replyBytes false w.index w.sub r)
      else x.2
    | none => x.2)

/-- SUBSCRIBE: existence and readability first, then the payload's ranges and the limit of 32. -/
def execXdpSubscribe (h : XdpHead) (r : SubscribeReq) (s : State) : Host.Outcome State Fault Refusal :=
  .next (s.xdpPacket h fun s =>
    let n := h.session.val
    let answer (s : State) (code type number : Nat) : State :=
      s.respond n h.reqId (State.replyBytes false r.index r.sub ⟨code, type, number, 0, 0, []⟩)
    let read := s.dictRead (.session h.session) r.index r.sub
    match read with
    | .error c => if r.kind = 3 then s.subscribeEvents r n h.reqId else answer s c.1 c.2 0
    | .ok (row, _) =>
      if r.kind = 3 then s.subscribeEvents r n h.reqId
      else if r.kind < 1 ∨ 3 < r.kind ∨ r.interval < 1 ∨ 60000 < r.interval then answer s 0x0302 row.ty.code 0
      else if 32 ≤ (s.session n).subs.length then answer s 0x0C01 row.ty.code 0
      else
        let number := State.freeNumber (s.session n).subs
        let s := s.setSubscription n number
          ⟨r.index, r.sub, r.kind, r.interval, r.codeLo, r.codeHi, s.watched h.session r.index r.sub, s.eventSeq⟩
        answer s 0 row.ty.code number)

/-- UNSUBSCRIBE; a number that names no subscription is out of range. -/
def execXdpUnsubscribe (h : XdpHead) (number : Nat) (s : State) : Host.Outcome State Fault Refusal :=
  .next (s.xdpPacket h fun s =>
    let n := h.session.val
    let code : Nat := if (s.subscription n number).isSome then 0 else 0x0302
    (s.modSession n fun x => { x with subs := del number x.subs }).respond n h.reqId
      (State.replyBytes false 0 0 ⟨code, 0, number, 0, 0, []⟩))

/-- KEEPALIVE. -/
def execXdpKeepalive (h : XdpHead) (s : State) : Host.Outcome State Fault Refusal :=
  .next (s.xdpPacket h fun s => s.respond h.session h.reqId (State.replyBytes false 0 0 (State.refusal 0 0 0)))

/-- CLOSE. -/
def execXdpClose (h : XdpHead) (s : State) : Host.Outcome State Fault Refusal :=
  .next (s.xdpPacket h fun s =>
    (s.respond h.session h.reqId (State.replyBytes false 0 0 (State.refusal 0 0 0))).endSession h.session)

/-- A datagram that is no XDP packet. -/
def execXdpMalformed (s : State) : Host.Outcome State Fault Refusal := .next (s.count 0x1504 0x05)

/-- No valid packet for SESSION_TIMEOUT. -/
def execXdpSessionTimeout (n : Fin 16) (s : State) : Host.Outcome State Fault Refusal := .next (s.endSession n)

/-- Whose snapshot or staged write a timer ends: a session's, or the cores'. -/
def timedRecord (s : State) (n : Option (Fin 16)) (f : Session → Session) : State :=
  match n with
  | some n => s.modSession n f
  | none => s.modCoreReq f

/-- A snapshot ends 1 s after its latest read. -/
def execXdpSnapshotExpiry (n : Option (Fin 16)) (id : Nat) (s : State) : Host.Outcome State Fault Refusal :=
  .next (timedRecord s n fun x => { x with snaps := x.snaps.filter fun y => decide (y.id ≠ id) })

/-- A staged write pauses for 1 s. -/
def execXdpStagedWriteTimeout (n : Option (Fin 16)) (s : State) : Host.Outcome State Fault Refusal :=
  .next (timedRecord s n fun x => { x with staged := none })

/-- A subscription's change, period or event. -/
def execXdpNotify (n : Fin 16) (number : Nat) (s : State) : Host.Outcome State Fault Refusal :=
  if (s.session n).state ≠ .open then .next s
  else
    match s.subscription n number with
    | none => .next s
    | some x =>
      if x.kind = 3 then
        match s.nextEvent x with
        | none => .next s
        | some e =>
          let seq := (e.fields.headD 0).toNat
          let t := BitVec.ofInt 64 (e.fields.getD 1 0)
          let s := s.setSubscription n number { x with lastSeq := BitVec.ofNat 32 seq }
          .next (s.notify n number t x.index x.sub 0 (State.eventEntry e.kind seq t (e.fields.drop 2)))
      else
        match s.dictRead (.session n) x.index x.sub with
        | .error _ => .next s
        | .ok (r, v) =>
          let w := s.watched n x.index x.sub
          if x.kind = 1 ∧ w = x.last then .next s
          else
            let s := s.setSubscription n number { x with last := w }
            .next (s.notify n number s.now x.index x.sub r.ty.code (State.notifyValue r v))

/-- The dictionary service takes the oldest request of Q0 once it can reserve a slot of Q1. -/
def execDictServiceTake (s : State) : Host.Outcome State Fault Refusal :=
  match (s.ring 0).entries with
  | [] => .next s
  | e :: _ =>
    if s.ringSize 1 ≤ s.ringFill 1 + s.coreReq.waiting.length then .next s
    else
      let s := s.ringRelease 0 1
      let reqId := leNat (slice e.data 0 2)
      let p := e.data.drop 4
      let i := leNat (slice p 0 2)
      let k := leNat (slice p 2 1)
      let req := Requester.queue (Fin.ofNat 4 s.activeCore)
      if e.kind = 1 then .next (s.respondQueue reqId i k (State.refusal 0x0501 0 0))
      else
        let s := s.modCoreReq fun x => { x with outstanding := x.outstanding - 1 }
        match leNat (slice e.data 2 1) with
        | 0x10 =>
          let x := s.readRequest req true 40 (State.queueRead p)
          .next (x.2.respondQueue reqId i k x.1)
        | 0x11 =>
          let x := s.writeRequest req true reqId (State.queueWrite p)
          match x.1 with
          | some r => .next (x.2.respondQueue reqId i k r)
          | none => .next x.2
        | _ => .next (s.respondQueue reqId i k (State.refusal 0x0301 0 0))

end Sys2Proof.Machine
end

