-- ==== Sys2Proof/Machine/Dispatch.lean ====
section
/-! DEFINITION. The command dispatch: one arm per row of the table. -/

namespace Sys2Proof.Machine

/-- The effect of one command on everything but the queue. -/
def exec (i : Instr) (s : State) : Host.Outcome State Fault Refusal :=
  match i with
  | .goWatch req => Sys2Proof.Machine.execGoWatch req s
  | .energize req => Sys2Proof.Machine.execEnergize req s
  | .connect req => Sys2Proof.Machine.execConnect req s
  | .cancelConnect req => Sys2Proof.Machine.execCancelConnect req s
  | .stop req => Sys2Proof.Machine.execStop req s
  | .toDormant req => Sys2Proof.Machine.execToDormant req s
  | .halt req => Sys2Proof.Machine.execHalt req s
  | .clearHalt req => Sys2Proof.Machine.execClearHalt req s
  | .bootComplete flash => Sys2Proof.Machine.execBootComplete flash s
  | .wakeEdge => Sys2Proof.Machine.execWakeEdge s
  | .syncCheckPass => Sys2Proof.Machine.execSyncCheckPass s
  | .connectTimerExpiry => Sys2Proof.Machine.execConnectTimerExpiry s
  | .energizeRampComplete => Sys2Proof.Machine.execEnergizeRampComplete s
  | .stopRampComplete => Sys2Proof.Machine.execStopRampComplete s
  | .enterRide => Sys2Proof.Machine.execEnterRide s
  | .recoveryTransition => Sys2Proof.Machine.execRecoveryTransition s
  | .recoveryRampComplete => Sys2Proof.Machine.execRecoveryRampComplete s
  | .leaveEnvelope => Sys2Proof.Machine.execLeaveEnvelope s
  | .haltCauseTaken cause => Sys2Proof.Machine.execHaltCauseTaken cause s
  | .sieveOutput ch bits last => Sys2Proof.Machine.execSieveOutput ch bits last s
  | .supvFaultStart ch stuck missing bits => Sys2Proof.Machine.execSupvFaultStart ch stuck missing bits s
  | .supvFaultEnd ch => Sys2Proof.Machine.execSupvFaultEnd ch s
  | .settleDone ch => Sys2Proof.Machine.execSettleDone ch s
  | .qpTrip ch high bits seen => Sys2Proof.Machine.execQpTrip ch high bits seen s
  | .qpRelease ch high bits => Sys2Proof.Machine.execQpRelease ch high bits s
  | .sieveSyncPin rising => Sys2Proof.Machine.execSieveSyncPin rising s
  | .syncAtWrite req value => Sys2Proof.Machine.execSyncAtWrite req value s
  | .syncTakeEffect => Sys2Proof.Machine.execSyncTakeEffect s
  | .sarScanRound codes => Sys2Proof.Machine.execSarScanRound codes s
  | .sarHandoverSlot incoming outgoing => Sys2Proof.Machine.execSarHandoverSlot incoming outgoing s
  | .sarCalibrationDone => Sys2Proof.Machine.execSarCalibrationDone s
  | .cmpTrip n level seen => Sys2Proof.Machine.execCmpTrip n level seen s
  | .cmpRelease n level => Sys2Proof.Machine.execCmpRelease n level s
  | .enginePeriod e mism => Sys2Proof.Machine.execEnginePeriod e mism s
  | .outputPhase e => Sys2Proof.Machine.execOutputPhase e s
  | .trellisReady => Sys2Proof.Machine.execTrellisReady s
  | .beatOriginWrite req value => Sys2Proof.Machine.execBeatOriginWrite req value s
  | .loopOpen req e l => Sys2Proof.Machine.execLoopOpen req e l s
  | .loopClose req e l => Sys2Proof.Machine.execLoopClose req e l s
  | .paramWrite req e b sub v => Sys2Proof.Machine.execParamWrite req e b sub v s
  | .shadowWrite req ix k v => Sys2Proof.Machine.execShadowWrite req ix k v s
  | .dictWrite req ix k byte v => Sys2Proof.Machine.execDictWrite req ix k byte v s
  | .breakerPulseEnd k => Sys2Proof.Machine.execBreakerPulseEnd k s
  | .estimateStart => Sys2Proof.Machine.execEstimateStart s
  | .estimateComplete e => Sys2Proof.Machine.execEstimateComplete e s
  | .sounderModeWrite req value => Sys2Proof.Machine.execSounderModeWrite req value s
  | .sounderModeApply => Sys2Proof.Machine.execSounderModeApply s
  | .sounderResultStale => Sys2Proof.Machine.execSounderResultStale s
  | .furrowReload f atPeriod => Sys2Proof.Machine.execFurrowReload f atPeriod s
  | .furrowEvent f ev => Sys2Proof.Machine.execFurrowEvent f ev s
  | .commit req f mask => Sys2Proof.Machine.execCommit req f mask s
  | .pwmShadowWrite req r value => Sys2Proof.Machine.execPwmShadowWrite req r value s
  | .pairTurnOn p low atT => Sys2Proof.Machine.execPairTurnOn p low atT s
  | .calSlot p edgeFree => Sys2Proof.Machine.execCalSlot p edgeFree s
  | .fltActive n seen => Sys2Proof.Machine.execFltActive n seen s
  | .fltInactive n => Sys2Proof.Machine.execFltInactive n s
  | .faultClear req p value => Sys2Proof.Machine.execFaultClear req p value s
  | .glDripTimer => Sys2Proof.Machine.execGlDripTimer s
  | .edgeCmdDeparture l cut => Sys2Proof.Machine.execEdgeCmdDeparture l cut s
  | .statusCycle l upLock => Sys2Proof.Machine.execStatusCycle l upLock s
  | .statusFrame l data arrival => Sys2Proof.Machine.execStatusFrame l data arrival s
  | .nodeMgmtResponse l n r => Sys2Proof.Machine.execNodeMgmtResponse l n r s
  | .bringUp req l => Sys2Proof.Machine.execBringUp req l s
  | .resync req l => Sys2Proof.Machine.execResync req l s
  | .chainComplete l refused late => Sys2Proof.Machine.execChainComplete l refused late s
  | .shareReportRx shareId head vcaps health => Sys2Proof.Machine.execShareReportRx shareId head vcaps health s
  | .shareSetRx shareId t part => Sys2Proof.Machine.execShareSetRx shareId t part s
  | .shareSetDeadline a => Sys2Proof.Machine.execShareSetDeadline a s
  | .shareMasterLost a => Sys2Proof.Machine.execShareMasterLost a s
  | .bypassClose req l n => Sys2Proof.Machine.execBypassClose req l n s
  | .bypassOpen req l n => Sys2Proof.Machine.execBypassOpen req l n s
  | .shearsBypassDelay n => Sys2Proof.Machine.execShearsBypassDelay n s
  | .blankWindowEnd n low => Sys2Proof.Machine.execBlankWindowEnd n low s
  | .legRelease req n pairEntry => Sys2Proof.Machine.execLegRelease req n pairEntry s
  | .groupClear req g => Sys2Proof.Machine.execGroupClear req g s
  | .clearAll req => Sys2Proof.Machine.execClearAll req s
  | .testCmp req n => Sys2Proof.Machine.execTestCmp req n s
  | .cmpTestDone trip release => Sys2Proof.Machine.execCmpTestDone trip release s
  | .testNode req value => Sys2Proof.Machine.execTestNode req value s
  | .nodeTestTimeout => Sys2Proof.Machine.execNodeTestTimeout s
  | .siStateChange n isOpen => Sys2Proof.Machine.execSiStateChange n isOpen s
  | .siTestPulse k => Sys2Proof.Machine.execSiTestPulse k s
  | .siTestWindowEnd k sawLow highNow => Sys2Proof.Machine.execSiTestWindowEnd k sawLow highNow s
  | .soTestPulse k => Sys2Proof.Machine.execSoTestPulse k s
  | .soPulseCheck k atEnd ok => Sys2Proof.Machine.execSoPulseCheck k atEnd ok s
  | .soReadbackFail k => Sys2Proof.Machine.execSoReadbackFail k s
  | .penReadbackFail => Sys2Proof.Machine.execPenReadbackFail s
  | .soFaultClear req k => Sys2Proof.Machine.execSoFaultClear req k s
  | .penClear req padLow => Sys2Proof.Machine.execPenClear req padLow s
  | .faultClearTestDone k pass => Sys2Proof.Machine.execFaultClearTestDone k pass s
  | .clockMonitorFault => Sys2Proof.Machine.execClockMonitorFault s
  | .coldFrameClocheWdt => Sys2Proof.Machine.execColdFrameClocheWdt s
  | .safeFrameTx c => Sys2Proof.Machine.execSafeFrameTx c s
  | .safeFrameRx h pdu => Sys2Proof.Machine.execSafeFrameRx h pdu s
  | .safeWatchdogExpiry c => Sys2Proof.Machine.execSafeWatchdogExpiry c s
  | .clocheFault kind => Sys2Proof.Machine.execClocheFault kind s
  | .clocheCoreWdt => Sys2Proof.Machine.execClocheCoreWdt s
  | .clocheUpdateStart req => Sys2Proof.Machine.execClocheUpdateStart req s
  | .clocheUpdateAbort req => Sys2Proof.Machine.execClocheUpdateAbort req s
  | .clocheUpdateSwitch => Sys2Proof.Machine.execClocheUpdateSwitch s
  | .clocheRunningReached => Sys2Proof.Machine.execClocheRunningReached s
  | .clocheUpdateFallback => Sys2Proof.Machine.execClocheUpdateFallback s
  | .clocheUpdateAbandon => Sys2Proof.Machine.execClocheUpdateAbandon s
  | .clocheConfigWrite req ix k v => Sys2Proof.Machine.execClocheConfigWrite req ix k v s
  | .ptpSyncRx p domain stamp origin => Sys2Proof.Machine.execPtpSyncRx p domain stamp origin s
  | .ptpAnnounceRx p domain m => Sys2Proof.Machine.execPtpAnnounceRx p domain m s
  | .ptpPdelayRx p msg stamp => Sys2Proof.Machine.execPtpPdelayRx p msg stamp s
  | .ptpMasterTx p => Sys2Proof.Machine.execPtpMasterTx p s
  | .ppsInEdge stamp => Sys2Proof.Machine.execPpsInEdge stamp s
  | .timeSourceLost src => Sys2Proof.Machine.execTimeSourceLost src s
  | .timeSet req value => Sys2Proof.Machine.execTimeSet req value s
  | .timeSourceWrite req value => Sys2Proof.Machine.execTimeSourceWrite req value s
  | .ref10mLoss => Sys2Proof.Machine.execRef10mLoss s
  | .ref10mReturn => Sys2Proof.Machine.execRef10mReturn s
  | .timedOutputArm req o => Sys2Proof.Machine.execTimedOutputArm req o s
  | .timedOutputEdge o => Sys2Proof.Machine.execTimedOutputEdge o s
  | .timeCapture n rising stamp => Sys2Proof.Machine.execTimeCapture n rising stamp s
  | .clockUpdateRequest req => Sys2Proof.Machine.execClockUpdateRequest req s
  | .clockUpdateStrobe => Sys2Proof.Machine.execClockUpdateStrobe s
  | .alignerLockLoss => Sys2Proof.Machine.execAlignerLockLoss s
  | .alignerRelock => Sys2Proof.Machine.execAlignerRelock s
  | .harvestArm req u => Sys2Proof.Machine.execHarvestArm req u s
  | .harvestTriggerCmd req u => Sys2Proof.Machine.execHarvestTriggerCmd req u s
  | .harvestAbort req u => Sys2Proof.Machine.execHarvestAbort req u s
  | .armAtWrite req u value => Sys2Proof.Machine.execArmAtWrite req u value s
  | .armAtInstant u => Sys2Proof.Machine.execArmAtInstant u s
  | .harvestFrame u => Sys2Proof.Machine.execHarvestFrame u s
  | .streamCopy u => Sys2Proof.Machine.execStreamCopy u s
  | .netLinkChange p speed full => Sys2Proof.Machine.execNetLinkChange p speed full s
  | .svFrameRx h f => Sys2Proof.Machine.execSvFrameRx h f s
  | .svStreamLost n => Sys2Proof.Machine.execSvStreamLost n s
  | .gooseFrameRx h f => Sys2Proof.Machine.execGooseFrameRx h f s
  | .gooseTalExpiry n => Sys2Proof.Machine.execGooseTalExpiry n s
  | .gooseEvaluation => Sys2Proof.Machine.execGooseEvaluation s
  | .gooseRepeat p => Sys2Proof.Machine.execGooseRepeat p s
  | .fwWordWrite req p data => Sys2Proof.Machine.execFwWordWrite req p data s
  | .prpSupervisionTx => Sys2Proof.Machine.execPrpSupervisionTx s
  | .prpSupervisionRx h => Sys2Proof.Machine.execPrpSupervisionRx h s
  | .lanSilent p => Sys2Proof.Machine.execLanSilent p s
  | .prpEntryForget mac seq => Sys2Proof.Machine.execPrpEntryForget mac seq s
  | .prpNodeForget mac => Sys2Proof.Machine.execPrpNodeForget mac s
  | .arpRequest h ip senderIp => Sys2Proof.Machine.execArpRequest h ip senderIp s
  | .icmpEcho h dstIp srcIp data => Sys2Proof.Machine.execIcmpEcho h dstIp srcIp data s
  | .ethFrameDiscard h why => Sys2Proof.Machine.execEthFrameDiscard h why s
  | .xdpHello h => Sys2Proof.Machine.execXdpHello h s
  | .xdpProve h signature => Sys2Proof.Machine.execXdpProve h signature s
  | .xdpProveTimeout n => Sys2Proof.Machine.execXdpProveTimeout n s
  | .xdpRead h r => Sys2Proof.Machine.execXdpRead h r s
  | .xdpWrite h w => Sys2Proof.Machine.execXdpWrite h w s
  | .xdpSubscribe h r => Sys2Proof.Machine.execXdpSubscribe h r s
  | .xdpUnsubscribe h number => Sys2Proof.Machine.execXdpUnsubscribe h number s
  | .xdpKeepalive h => Sys2Proof.Machine.execXdpKeepalive h s
  | .xdpClose h => Sys2Proof.Machine.execXdpClose h s
  | .xdpMalformed => Sys2Proof.Machine.execXdpMalformed s
  | .xdpSessionTimeout n => Sys2Proof.Machine.execXdpSessionTimeout n s
  | .xdpSnapshotExpiry n id => Sys2Proof.Machine.execXdpSnapshotExpiry n id s
  | .xdpStagedWriteTimeout n => Sys2Proof.Machine.execXdpStagedWriteTimeout n s
  | .xdpNotify n number => Sys2Proof.Machine.execXdpNotify n number s
  | .dictServiceTake => Sys2Proof.Machine.execDictServiceTake s
  | .ringPost req q slots => Sys2Proof.Machine.execRingPost req q slots s
  | .ringRelease req q value => Sys2Proof.Machine.execRingRelease req q value s
  | .ringEntriesWrite req q isClass value => Sys2Proof.Machine.execRingEntriesWrite req q isClass value s
  | .wdtKick req => Sys2Proof.Machine.execWdtKick req s
  | .coreWdtHalf pair => Sys2Proof.Machine.execCoreWdtHalf pair s
  | .coreWdtExpiry pair => Sys2Proof.Machine.execCoreWdtExpiry pair s
  | .coreResetCmd req pair => Sys2Proof.Machine.execCoreResetCmd req pair s
  | .coreCrash pair => Sys2Proof.Machine.execCoreCrash pair s
  | .coreRestartDone pair => Sys2Proof.Machine.execCoreRestartDone pair s
  | .drainBreach q => Sys2Proof.Machine.execDrainBreach q s
  | .transactionTimeout t attempt => Sys2Proof.Machine.execTransactionTimeout t attempt s
  | .relock req l => Sys2Proof.Machine.execRelock req l s
  | .fullRetrain req l => Sys2Proof.Machine.execFullRetrain req l s
  | .fullRetrainDone l ok => Sys2Proof.Machine.execFullRetrainDone l ok s
  | .laneLockLoss l => Sys2Proof.Machine.execLaneLockLoss l s
  | .laneLockAcquired l offset => Sys2Proof.Machine.execLaneLockAcquired l offset s
  | .loopbackWrite req l value => Sys2Proof.Machine.execLoopbackWrite req l value s
  | .inject req l value => Sys2Proof.Machine.execInject req l value s
  | .berWindowEnd l bits errs => Sys2Proof.Machine.execBerWindowEnd l bits errs s
  | .arrayForm req => Sys2Proof.Machine.execArrayForm req s
  | .arrayDissolve req => Sys2Proof.Machine.execArrayDissolve req s
  | .arrayResetCmd req => Sys2Proof.Machine.execArrayResetCmd req s
  | .arrayLeave req => Sys2Proof.Machine.execArrayLeave req s
  | .arrayAdmitCmd req p => Sys2Proof.Machine.execArrayAdmitCmd req p s
  | .joinTimeout => Sys2Proof.Machine.execJoinTimeout s
  | .runnerPortDown port => Sys2Proof.Machine.execRunnerPortDown port s
  | .runnerPortUp port neighbour formed => Sys2Proof.Machine.execRunnerPortUp port neighbour formed s
  | .runnerPartition duration => Sys2Proof.Machine.execRunnerPartition duration s
  | .runnerTimeLoss => Sys2Proof.Machine.execRunnerTimeLoss s
  | .runnerEchoTx port => Sys2Proof.Machine.execRunnerEchoTx port s
  | .runnerTimeRx port t arrival steer => Sys2Proof.Machine.execRunnerTimeRx port t arrival steer s
  | .runnerEchoRx port echoed turnaround => Sys2Proof.Machine.execRunnerEchoRx port echoed turnaround s
  | .runnerEchoReplyRx port echoed arrival turnaround => Sys2Proof.Machine.execRunnerEchoReplyRx port echoed arrival turnaround s
  | .topologyRx src mem reach state links epoch => Sys2Proof.Machine.execTopologyRx src mem reach state links epoch s
  | .samplesRx src t first words => Sys2Proof.Machine.execSamplesRx src t first words s
  | .harvestArmMsg t => Sys2Proof.Machine.execHarvestArmMsg t s
  | .harvestFireMsg t => Sys2Proof.Machine.execHarvestFireMsg t s
  | .sieveSyncMsg t => Sys2Proof.Machine.execSieveSyncMsg t s
  | .beatOriginMsg origin => Sys2Proof.Machine.execBeatOriginMsg origin s
  | .graftProposeRx beat set => Sys2Proof.Machine.execGraftProposeRx beat set s
  | .graftVoteRx p beat code => Sys2Proof.Machine.execGraftVoteRx p beat code s
  | .graftDecideRx beat commit code => Sys2Proof.Machine.execGraftDecideRx beat commit code s
  | .arrayHaltRx origin => Sys2Proof.Machine.execArrayHaltRx origin s
  | .arrayClearRx origin => Sys2Proof.Machine.execArrayClearRx origin s
  | .arrayResetRx => Sys2Proof.Machine.execArrayResetRx s
  | .joinRx p identity revision again => Sys2Proof.Machine.execJoinRx p identity revision again s
  | .bedDataRx offset total data => Sys2Proof.Machine.execBedDataRx offset total data s
  | .admitRx p beat => Sys2Proof.Machine.execAdmitRx p beat s
  | .userMsgRx port src data => Sys2Proof.Machine.execUserMsgRx port src data s
  | .powerMeasurement power sensors => Sys2Proof.Machine.execPowerMeasurement power sensors s
  | .rotationDecision => Sys2Proof.Machine.execRotationDecision s
  | .thermalCauseSet => Sys2Proof.Machine.execThermalCauseSet s
  | .userTaskRequest => Sys2Proof.Machine.execUserTaskRequest s
  | .userTaskRelease => Sys2Proof.Machine.execUserTaskRelease s
  | .budgetWrite req k value => Sys2Proof.Machine.execBudgetWrite req k value s
  | .powerOnReset resetnLow => Sys2Proof.Machine.execPowerOnReset resetnLow s
  | .vddaBrownout => Sys2Proof.Machine.execVddaBrownout s
  | .resetnPulse => Sys2Proof.Machine.execResetnPulse s
  | .resetnLong => Sys2Proof.Machine.execResetnLong s
  | .jtagColdReset => Sys2Proof.Machine.execJtagColdReset s
  | .warmReset req => Sys2Proof.Machine.execWarmReset req s
  | .warmGraceEnd => Sys2Proof.Machine.execWarmGraceEnd s
  | .resetRelease src => Sys2Proof.Machine.execResetRelease src s
  | .dibberMeasureEnd raw => Sys2Proof.Machine.execDibberMeasureEnd raw s
  | .domainResetLane req target => Sys2Proof.Machine.execDomainResetLane req target s
  | .domainResetEngine req target => Sys2Proof.Machine.execDomainResetEngine req target s
  | .domainResetSieve req target => Sys2Proof.Machine.execDomainResetSieve req target s
  | .domainResetFurrow req target => Sys2Proof.Machine.execDomainResetFurrow req target s
  | .domainResetPair req target => Sys2Proof.Machine.execDomainResetPair req target s
  | .graftCopy req => Sys2Proof.Machine.execGraftCopy req s
  | .graftLoad req => Sys2Proof.Machine.execGraftLoad req s
  | .graftSwap req => Sys2Proof.Machine.execGraftSwap req s
  | .graftSwapBack req => Sys2Proof.Machine.execGraftSwapBack req s
  | .graftCancel req => Sys2Proof.Machine.execGraftCancel req s
  | .swapChecksDone => Sys2Proof.Machine.execSwapChecksDone s
  | .swapCheckDeadline check => Sys2Proof.Machine.execSwapCheckDeadline check s
  | .swapBeat => Sys2Proof.Machine.execSwapBeat s
  | .graftDecideTx => Sys2Proof.Machine.execGraftDecideTx s
  | .graftNoDecision => Sys2Proof.Machine.execGraftNoDecision s
  | .stageClear req => Sys2Proof.Machine.execStageClear req s
  | .stageVerify req => Sys2Proof.Machine.execStageVerify req s
  | .stageDataWrite req data => Sys2Proof.Machine.execStageDataWrite req data s
  | .graftChunk firmware => Sys2Proof.Machine.execGraftChunk firmware s
  | .stageVerifyDone => Sys2Proof.Machine.execStageVerifyDone s
  | .fwStartStandby req => Sys2Proof.Machine.execFwStartStandby req s
  | .fwHandoverCmd req => Sys2Proof.Machine.execFwHandoverCmd req s
  | .fwFreezeBeat => Sys2Proof.Machine.execFwFreezeBeat s
  | .fwSwitchBeat => Sys2Proof.Machine.execFwSwitchBeat s
  | .fwCommit req => Sys2Proof.Machine.execFwCommit req s
  | .fwBack req => Sys2Proof.Machine.execFwBack req s
  | .fwStopStandby req => Sys2Proof.Machine.execFwStopStandby req s
  | .slotProgram req k hash => Sys2Proof.Machine.execSlotProgram req k hash s
  | .slotProgramDone readback => Sys2Proof.Machine.execSlotProgramDone readback s
  | .keyRevoke req => Sys2Proof.Machine.execKeyRevoke req s
  | .ownerLock req => Sys2Proof.Machine.execOwnerLock req s
  | .rollbackAdvance req => Sys2Proof.Machine.execRollbackAdvance req s
  | .debugUnlock req => Sys2Proof.Machine.execDebugUnlock req s
  | .debugRelock req => Sys2Proof.Machine.execDebugRelock req s
  | .jtagUnlock token => Sys2Proof.Machine.execJtagUnlock token s
  | .recoveryStart req => Sys2Proof.Machine.execRecoveryStart req s
  | .ownerKeysWrite req data => Sys2Proof.Machine.execOwnerKeysWrite req data s
  | .attestRequest req nonce => Sys2Proof.Machine.execAttestRequest req nonce s
  | .attestReportDone => Sys2Proof.Machine.execAttestReportDone s
  | .ledgerTick => Sys2Proof.Machine.execLedgerTick s
  | .ageingMeasurement margins => Sys2Proof.Machine.execAgeingMeasurement margins s
  | .measureLate => Sys2Proof.Machine.execMeasureLate s
  | .manchesterErr ch => Sys2Proof.Machine.execManchesterErr ch s
  | .patternCheckerSync l again bits errs => Sys2Proof.Machine.execPatternCheckerSync l again bits errs s
  | .codeError l => Sys2Proof.Machine.execCodeError l s
  | .laneFrameRx port okA okB test heads => Sys2Proof.Machine.execLaneFrameRx port okA okB test heads s
  | .runnerTimeTx => Sys2Proof.Machine.execRunnerTimeTx s
  | .shareReportTx a member => Sys2Proof.Machine.execShareReportTx a member s
  | .ptpPdelayReqTx p => Sys2Proof.Machine.execPtpPdelayReqTx p s
  | .lrefclkLoss => Sys2Proof.Machine.execLrefclkLoss s
  | .lrefclkReturn => Sys2Proof.Machine.execLrefclkReturn s
  | .clockMonitorReturn => Sys2Proof.Machine.execClockMonitorReturn s
  | .uncorrectableSoftError => Sys2Proof.Machine.execUncorrectableSoftError s
  | .windowLoad core address bits => Sys2Proof.Machine.execWindowLoad core address bits s

end Sys2Proof.Machine
end

