-- ==== Sys2Proof/Machine/Tick.lean ====
section
/-! DEFINITION. What an idle step does (DESIGN CHOICE, log entry 1): the Sundial counts one cycle (R409, R410), the Cloche
samples the guard input (R26), an admission beat that has come makes its device a member (R568), and the hardware consumers of the rings take what waits there (R518). Every other timed
effect of the spec is a command of the table. -/

namespace Sys2Proof.Machine.State

/-- ST64 counts of one cycle and the accumulator after it (R410): 320 at an 800 MHz edge, which lies on a multiple of 320;
10 240 with STEER applied through the accumulator, in 10^-9 counts, at a crystal cycle while the main PLL is stopped. -/
def cycle (s : State) : Nat × Int :=
  if s.ctl.pllRunning then (320 - s.now.toNat % 320, s.time.coldFraction)
  else
    let acc := s.time.coldFraction + 10240 * s.reg 0x1400 0x0B
    ((10240 + acc / 1000000000).toNat, acc % 1000000000)

/-- The Sundial counts on; it is held at 0 while a cold reset is asserted (R409), and a wrap is counted for the distance
from BEAT_ORIGIN and for the MCLK edges (R49, R84). What was prior to the instant that passes is no longer of use. -/
def countOn (s : State) : State :=
  if s.coldHeld then s
  else
    let c := s.cycle
    let t := s.now.toNat + c.1
    { s with now := BitVec.ofNat 64 t
             prior := Prior.none
             time := { s.time with coldFraction := c.2, laps := s.time.laps + t / 2 ^ 64, wraps := s.time.wraps + t / 2 ^ 64 } }

/-- The Runner takes one message from Q18 and sends it: its entries carry the whole message, whose byte 2 is DST; outside an
array it has nowhere to go (R522, R557). -/
def transmitUser (s : State) : State :=
  match (s.ring 18).entries with
  | [] => s
  | e :: r =>
    let len := leNat (slice e.data 0 2)
    let n := max 1 ((len + 47) / 48)
    if r.length + 1 < n then s
    else
      let msg := (((e :: r).take n).flatMap fun x => slice x.data 16 48).take len
      let s := s.ringRelease 18 n
      if s.inArray then
        s.send (.runner (leNat (slice msg 2 1)) 0x70 ((msg.drop 8).map fun b => (b.toNat : Int)))
      else s

/-- A hardware consumer whose entries the spec gives no format takes the oldest (log entry 1). -/
def consume (s : State) (q : Nat) : State := if (s.ring q).entries = [] then s else s.ringRelease q 1

/-- One idle step. -/
def tick (s : State) : State :=
  let s := s.countOn.guardSample.takeAdmissions.transmitNotify.transmitUser
  [5, 12, 14, 16].foldl (fun s q => s.consume q) s

end Sys2Proof.Machine.State
end

