-- ==== Sys2Proof/WellFormed.lean ====
section
/-! DEFINITION. The commands a sender or the wires can spell: each operand lies in the field the spec gives it. A meaning is
total and answers an ill-formed command too; statements that need a field's range take it from here. -/

namespace Sys2Proof

/-- A natural number of the given number of bits. -/
def fits (bits n : Nat) : Bool := decide (n < 2 ^ bits)

/-- An integer that a window store or a dictionary write of any fixed type of at most 64 bits can spell (R6, R496). -/
def fitsWord (n : Int) : Bool := decide (-(2 ^ 63) ≤ n ∧ n < 2 ^ 64)

/-- A dictionary value a request can carry: a TIME80 is the widest fixed type (R6). -/
def DVal.wf : DVal → Bool
  | .num n => decide (-(2 ^ 63) ≤ n ∧ n < 2 ^ 80)
  | .bytes _ => true

/-- An entry address: index and sub-index (R486). -/
def entryWf (i k : Nat) : Bool := fits 16 i && fits 8 k

/-- A received Ethernet frame: 48-bit addresses, a 12-bit VID, a PRP trailer of 16 and 4 bits (R464, R465). -/
def EthHeader.wf (h : EthHeader) : Bool :=
  fits 48 h.src && fits 48 h.dst && fits 16 h.size &&
    (match h.vid with
      | none => true
      | some v => fits 12 v) &&
    (match h.trailer with
      | none => true
      | some (seq, lan) => fits 16 seq && fits 4 lan)

/-- A Sampled Values frame: APPID, smpCnt and confRev in their widths, one to eight ASDUs (R470). -/
def SvFrame.wf (f : SvFrame) : Bool :=
  fits 16 f.appid && fits 32 f.confRev && f.asdus.all fun a => fits 16 a.smpCnt && fits 8 a.smpSynch &&
    a.members.all fun m => decide (-(2 ^ 31) ≤ m.1 ∧ m.1 < 2 ^ 31) && fits 32 m.2

/-- A GOOSE frame: APPID and the counters in their widths (R475). -/
def GooseFrame.wf (f : GooseFrame) : Bool :=
  fits 16 f.appid && fits 32 f.confRev && fits 32 f.stNum && fits 32 f.sqNum && fits 32 f.tal

/-- A master's Announce (R421). -/
def MasterInfo.wf (m : MasterInfo) : Bool :=
  fits 8 m.priority1 && fits 8 m.clockClass && fits 8 m.accuracy && fits 16 m.variance && fits 8 m.priority2 &&
    fits 64 m.identity && fits 16 m.stepsRemoved && decide (-(2 ^ 15) ≤ m.utcOffset ∧ m.utcOffset < 2 ^ 15)

/-- The head of a Runner message (R557). -/
def RunnerHead.wf (m : RunnerHead) : Bool :=
  fits 8 m.type && fits 3 m.src && (fits 3 m.dst || decide (m.dst = 0xFF)) && fits 16 m.seq && fits 8 m.hops

/-- The head of a session packet (R499). -/
def XdpHead.wf (h : XdpHead) : Bool := fits 32 h.psn && fits 16 h.reqId

/-- A HELLO: a client nonce of 16 bytes and a part of the chain that lies within CERT_TOTAL (R501). -/
def HelloMsg.wf (h : HelloMsg) : Bool :=
  fits 32 h.addr && fits 16 h.port && fits 32 h.psn && fits 16 h.reqId && decide (h.nonce.length = 16) &&
    fits 16 h.total && fits 16 h.offset && decide (h.part.length ≤ 1420)

/-- A READ (R503). -/
def ReadReq.wf (r : ReadReq) : Bool := entryWf r.index r.sub && fits 32 r.offset && fits 16 r.maxLen && fits 16 r.snapId

/-- A WRITE: at most 1408 data bytes (R503). -/
def WriteReq.wf (w : WriteReq) : Bool :=
  entryWf w.index w.sub && fits 8 w.type && fits 32 w.offset && fits 32 w.total && decide (w.data.length ≤ 1408)

/-- A SUBSCRIBE (R506). -/
def SubscribeReq.wf (r : SubscribeReq) : Bool :=
  entryWf r.index r.sub && fits 8 r.kind && fits 32 r.interval && fits 16 r.codeLo && fits 16 r.codeHi

/-- A node's answer on the management channel (R312). -/
def NodeAnswer.wf : NodeAnswer → Bool
  | .frame b => decide (b.length = 9)
  | .echoReply rt => fits 32 rt

/-- The address and values of a transaction of the interconnect (R525). -/
def Transaction.wf : Transaction → Bool
  | .window _ i k => entryWf i k
  | .post _ => true
  | .request _ i k => entryWf i k

/-- A command lies in the fields the spec gives its operands. -/
def Instr.wf : Instr → Bool
  | .paramWrite _ _ _ k v => fits 8 k && v.wf
  | .shadowWrite _ i k v => entryWf i k && v.wf
  | .dictWrite _ i k byte v => entryWf i k && fits 3 byte && v.wf
  | .clocheConfigWrite _ i k v => entryWf i k && v.wf
  | .budgetWrite _ k v => fits 8 k && fitsWord v
  | .beatOriginWrite _ v => fitsWord v
  | .sounderModeWrite _ v => fitsWord v
  | .pwmShadowWrite _ _ v => fitsWord v
  | .faultClear _ _ v => fitsWord v
  | .timeSet _ v => decide (-(2 ^ 79) ≤ v ∧ v < 2 ^ 80)
  | .timeSourceWrite _ v => fitsWord v
  | .ringRelease _ _ v => fitsWord v
  | .ringEntriesWrite _ _ _ v => fitsWord v
  | .loopbackWrite _ _ v => fitsWord v
  | .inject _ _ v => fitsWord v
  | .commit _ _ mask => fits 32 mask
  | .ringPost _ _ slots => slots.all fun b => decide (b.length = 64)
  | .slotProgramDone hash => decide (hash.length = 32)
  | .safeFrameRx h pdu => h.wf && decide (pdu.length ≤ 1500)
  | .svFrameRx h f => h.wf && f.wf
  | .gooseFrameRx h f => h.wf && f.wf
  | .prpSupervisionRx h => h.wf
  | .arpRequest h ip sender => h.wf && fits 32 ip && fits 32 sender
  | .icmpEcho h dst src data => h.wf && fits 32 dst && fits 32 src && decide (data.length ≤ 1500)
  | .ethFrameDiscard h _ => h.wf
  | .prpEntryForget mac seq => fits 48 mac && fits 16 seq
  | .prpNodeForget mac => fits 48 mac
  | .netLinkChange _ speed _ => fits 16 speed
  | .ptpSyncRx _ domain _ _ => fits 8 domain
  | .ptpAnnounceRx _ domain m => fits 8 domain && m.wf
  | .xdpHello h => h.wf
  | .xdpProve h signature => h.wf && decide (signature.length = 384)
  | .xdpRead h r => h.wf && r.wf
  | .xdpWrite h w => h.wf && w.wf
  | .xdpSubscribe h r => h.wf && r.wf
  | .xdpUnsubscribe h number => h.wf && fits 16 number
  | .xdpKeepalive h => h.wf
  | .xdpClose h => h.wf
  | .xdpSnapshotExpiry _ id => fits 16 id
  | .xdpNotify _ number => fits 16 number
  | .nodeMgmtResponse _ _ r => r.wf
  | .statusFrame _ data _ => decide (data.length = 8)
  | .shareReportRx _ _ vcaps health =>
      decide (vcaps.length ≤ 64) && vcaps.all (fits 16) && decide (health.length ≤ 64)
  | .sarScanRound codes => codes.all (fits 16)
  | .sarHandoverSlot a b => a.all (fits 16) && b.all (fits 16)
  | .transactionTimeout t _ => t.wf
  | .berWindowEnd _ bits errs => decide (errs ≤ bits)
  | .patternCheckerSync _ _ bits errs => decide (errs ≤ bits)
  | .laneFrameRx _ _ _ test heads =>
      (match test with
        | none => true
        | some (a, b) => decide (a ≤ 2048 ∧ b ≤ 2048)) && heads.all RunnerHead.wf
  | .topologyRx _ mem reach state links epoch =>
      fits 8 mem && fits 8 reach && fits 8 state && fits 16 links && fits 32 epoch
  | .samplesRx _ _ first words => decide (0 < words.length ∧ words.length ≤ 54 ∧ first.val + words.length ≤ 64)
  | .graftProposeRx _ set => decide (set.length = 32)
  | .graftVoteRx _ _ code => fits 16 code
  | .graftDecideRx _ _ code => fits 16 code
  | .joinRx _ identity revision _ => fits 32 identity && fits 32 revision
  | .bedDataRx offset total data => fits 32 total && decide (data.length ≤ 216 ∧ offset + data.length ≤ total)
  | .userMsgRx _ _ data => decide (data.length ≤ 240)
  | .windowLoad _ address bits => fits 32 address && [8, 16, 32, 64].contains bits
  | .goWatch _ | .energize _ | .connect _ | .cancelConnect _ | .stop _ | .toDormant _ | .halt _ | .clearHalt _
  | .bootComplete _ | .wakeEdge | .syncCheckPass | .connectTimerExpiry | .energizeRampComplete | .stopRampComplete
  | .enterRide | .recoveryTransition | .recoveryRampComplete | .leaveEnvelope | .haltCauseTaken _
  | .sieveOutput _ _ _ | .supvFaultStart _ _ _ _ | .supvFaultEnd _ | .settleDone _ | .qpTrip _ _ _ _
  | .qpRelease _ _ _ | .sieveSyncPin _ | .syncAtWrite _ _ | .syncTakeEffect | .sarCalibrationDone | .cmpTrip _ _ _
  | .cmpRelease _ _ | .enginePeriod _ _ | .outputPhase _ | .trellisReady | .loopOpen _ _ _ | .loopClose _ _ _
  | .breakerPulseEnd _ | .estimateStart | .estimateComplete _ | .sounderModeApply | .sounderResultStale
  | .furrowReload _ _ | .furrowEvent _ _ | .pairTurnOn _ _ _ | .calSlot _ _ | .fltActive _ _ | .fltInactive _
  | .glDripTimer | .edgeCmdDeparture _ _ | .statusCycle _ _ | .bringUp _ _ | .resync _ _ | .chainComplete _ _ _
  | .shareSetRx _ _ _ | .shareSetDeadline _ | .shareMasterLost _ | .bypassClose _ _ _ | .bypassOpen _ _ _
  | .shearsBypassDelay _ | .blankWindowEnd _ _ | .legRelease _ _ _ | .groupClear _ _ | .clearAll _ | .testCmp _ _
  | .cmpTestDone _ _ | .testNode _ _ | .nodeTestTimeout | .siStateChange _ _ | .siTestPulse _
  | .siTestWindowEnd _ _ _ | .soTestPulse _ | .soPulseCheck _ _ _ | .soReadbackFail _ | .penReadbackFail
  | .soFaultClear _ _ | .penClear _ _ | .faultClearTestDone _ _ | .clockMonitorFault | .coldFrameClocheWdt
  | .safeFrameTx _ | .safeWatchdogExpiry _ | .clocheFault _ | .clocheCoreWdt | .clocheUpdateStart _
  | .clocheUpdateAbort _ | .clocheUpdateSwitch | .clocheRunningReached | .clocheUpdateFallback | .clocheUpdateAbandon
  | .ptpPdelayRx _ _ _ | .ptpMasterTx _ | .ppsInEdge _ | .timeSourceLost _ | .ref10mLoss | .ref10mReturn
  | .timedOutputArm _ _ | .timedOutputEdge _ | .timeCapture _ _ _ | .clockUpdateRequest _ | .clockUpdateStrobe
  | .alignerLockLoss | .alignerRelock | .harvestArm _ _ | .harvestTriggerCmd _ _ | .harvestAbort _ _
  | .armAtWrite _ _ _ | .armAtInstant _ | .harvestFrame _ | .streamCopy _ | .svStreamLost _ | .gooseTalExpiry _
  | .gooseEvaluation | .gooseRepeat _ | .prpSupervisionTx | .lanSilent _ | .xdpProveTimeout _ | .xdpMalformed
  | .xdpSessionTimeout _ | .xdpStagedWriteTimeout _ | .dictServiceTake | .wdtKick _ | .coreWdtHalf _
  | .coreWdtExpiry _ | .coreResetCmd _ _ | .coreCrash _ | .coreRestartDone _ | .drainBreach _ | .relock _ _
  | .fullRetrain _ _ | .fullRetrainDone _ _ | .laneLockLoss _ | .laneLockAcquired _ _ | .arrayForm _
  | .arrayDissolve _ | .arrayResetCmd _ | .arrayLeave _ | .arrayAdmitCmd _ _ | .joinTimeout | .runnerPortDown _
  | .runnerPortUp _ _ _ | .runnerPartition _ | .runnerTimeLoss | .runnerEchoTx _ | .runnerTimeRx _ _ _ _
  | .runnerEchoRx _ _ _ | .runnerEchoReplyRx _ _ _ _ | .harvestArmMsg _ | .harvestFireMsg _ | .sieveSyncMsg _
  | .beatOriginMsg _ | .arrayHaltRx _ | .arrayClearRx _ | .arrayResetRx | .admitRx _ _ | .powerMeasurement _ _
  | .rotationDecision | .thermalCauseSet | .userTaskRequest | .userTaskRelease | .powerOnReset _ | .vddaBrownout
  | .resetnPulse | .resetnLong | .jtagColdReset | .warmReset _ | .warmGraceEnd | .resetRelease _
  | .dibberMeasureEnd _ | .domainResetLane _ _ | .domainResetEngine _ _ | .domainResetSieve _ _
  | .domainResetFurrow _ _ | .domainResetPair _ _ | .graftCopy _ | .graftLoad _ | .graftSwap _ | .graftSwapBack _
  | .graftCancel _ | .swapChecksDone | .swapCheckDeadline _ | .swapBeat | .graftDecideTx | .graftNoDecision
  | .stageClear _ | .stageVerify _ | .graftChunk _ | .stageVerifyDone | .fwStartStandby _ | .fwHandoverCmd _
  | .fwFreezeBeat | .fwSwitchBeat | .fwCommit _ | .fwBack _ | .fwStopStandby _ | .keyRevoke _ | .ownerLock _
  | .rollbackAdvance _ | .debugUnlock _ | .debugRelock _ | .recoveryStart _ | .attestReportDone | .ledgerTick
  | .ageingMeasurement _ | .measureLate | .manchesterErr _ | .codeError _ | .runnerTimeTx | .shareReportTx _ _
  | .ptpPdelayReqTx _ | .lrefclkLoss | .lrefclkReturn | .clockMonitorReturn | .uncorrectableSoftError
  | .fwWordWrite _ _ _ | .stageDataWrite _ _ | .slotProgram _ _ _ | .ownerKeysWrite _ _ | .attestRequest _ _ | .jtagUnlock _
    => true

end Sys2Proof
end

