-- ==== Sys2Proof/Safety.lean ====
section
/-! DEFINITION. What counts as a safe run of the block: a command that completes, what a command may change, and the
invariant its steps keep. -/

namespace Sys2Proof.Machine

/-- A step that neither faults nor refuses. -/
def goesOn (o : Host.Outcome State Fault Refusal) : Prop := ∃ s, o = .next s

/-- Command c completes on s: it answers a next state, and P holds of that state. -/
def Completes (c : Instr) (s : State) (P : State → Prop) : Prop := ∃ t, exec c s = .next t ∧ P t

/-- The modes each sub-state belongs to (R18). -/
def SubState.inMode (m : Mode) : SubState → Bool
  | .none => true
  | .connectPending => decide (m = .watch)
  | .stopping => decide (m = .form)
  | .recovering => decide (m = .form)

/-- The sub-state is one of the mode's own (R18). -/
def State.SubInMode (s : State) : Prop := s.ctl.sub.inMode s.ctl.mode = true

/-! ## What a command may change -/

/-- The parts of the state: one for each of its fields, and the mode with its sub-state once more by itself. -/
inductive Part where
  | ctl | mode | now | regs | active | shadow | rings | eventSeq | sessions | coreReq | sent | draws | sieve
  | engines | gf | ride | sounder | furrows | pairs | pwm | fltActive | lanes | nodes | remotes | arms | shears
  | cloche | time | win | harvest | shared | prior | net | rst | slanes | graft | runner | cores | power | root | pending
deriving DecidableEq, Repr

/-- Two states agree in a part. -/
def Part.same (p : Part) (s t : State) : Prop :=
  match p with
  | .ctl => t.ctl = s.ctl
  | .mode => t.ctl.mode = s.ctl.mode ∧ t.ctl.sub = s.ctl.sub
  | .now => t.now = s.now
  | .regs => t.regs = s.regs
  | .active => t.active = s.active
  | .shadow => t.shadow = s.shadow
  | .rings => t.rings = s.rings
  | .eventSeq => t.eventSeq = s.eventSeq
  | .sessions => t.sessions = s.sessions
  | .coreReq => t.coreReq = s.coreReq
  | .sent => t.sent = s.sent
  | .draws => t.draws = s.draws
  | .sieve => t.sieve = s.sieve
  | .engines => t.engines = s.engines
  | .gf => t.gf = s.gf
  | .ride => t.ride = s.ride
  | .sounder => t.sounder = s.sounder
  | .furrows => t.furrows = s.furrows
  | .pairs => t.pairs = s.pairs
  | .pwm => t.pwm = s.pwm
  | .fltActive => t.fltActive = s.fltActive
  | .lanes => t.lanes = s.lanes
  | .nodes => t.nodes = s.nodes
  | .remotes => t.remotes = s.remotes
  | .arms => t.arms = s.arms
  | .shears => t.shears = s.shears
  | .cloche => t.cloche = s.cloche
  | .time => t.time = s.time
  | .win => t.win = s.win
  | .harvest => t.harvest = s.harvest
  | .shared => t.shared = s.shared
  | .prior => t.prior = s.prior
  | .net => t.net = s.net
  | .rst => t.rst = s.rst
  | .slanes => t.slanes = s.slanes
  | .graft => t.graft = s.graft
  | .runner => t.runner = s.runner
  | .cores => t.cores = s.cores
  | .power => t.power = s.power
  | .root => t.root = s.root
  | .pending => t.pending = s.pending

/-- t is s but for the parts listed. -/
structure Frame (l : List Part) (s t : State) : Prop where
  same : ∀ p, p ∉ l → p.same s t

/-- What a counted and queued event touches: counters and flags, Q3, EVENT_SEQ, and the interrupt line. -/
def Part.noted : List Part := [.regs, .rings, .eventSeq, .sent, .runner]

/-- What an answered request touches beside its effect: the same, and the window status of a refused window access. -/
def Part.answered : List Part := [.regs, .rings, .eventSeq, .sent, .win, .runner]

/-- Every part but the queue of commands. -/
def Part.all : List Part :=
  [.ctl, .mode, .now, .regs, .active, .shadow, .rings, .eventSeq, .sessions, .coreReq, .sent, .draws, .sieve,
   .engines, .gf, .ride, .sounder, .furrows, .pairs, .pwm, .fltActive, .lanes, .nodes, .remotes, .arms, .shears,
   .cloche, .time, .win, .harvest, .shared, .prior, .net, .rst, .slanes, .graft, .runner, .cores, .power, .root]

/-- The parts each command may change where no swap is due ahead of it; it leaves every other one as it is. -/
def mayChange : Instr → List Part
  | .goWatch .. =>
      [.ctl, .mode, .sieve, .engines, .gf, .ride, .sounder, .furrows, .pairs, .lanes, .nodes, .remotes, .shears,
        .cloche, .harvest, .prior, .net, .rst, .slanes] ++ Part.answered
  | .energize .. | .connect .. =>
      [.ctl, .mode, .sieve, .engines, .gf, .ride, .sounder, .furrows, .pairs, .pwm, .lanes, .nodes, .remotes,
        .shears, .cloche, .harvest, .prior, .net, .rst, .slanes] ++ Part.answered
  | .cancelConnect .. | .stop .. =>
      [.ctl, .mode, .sieve, .engines, .gf, .ride, .sounder, .furrows, .pairs, .lanes, .nodes, .remotes, .shears,
        .cloche, .harvest, .prior, .net, .rst, .slanes] ++ Part.answered
  | .toDormant .. =>
      [.ctl, .mode, .draws, .sieve, .engines, .gf, .ride, .sounder, .furrows, .pairs, .lanes, .nodes, .remotes,
        .shears, .cloche, .time, .harvest, .prior, .net, .rst, .slanes] ++ Part.answered
  | .halt .. | .clearHalt .. =>
      [.ctl, .mode, .sieve, .engines, .gf, .ride, .sounder, .furrows, .pairs, .lanes, .nodes, .remotes, .shears,
        .cloche, .harvest, .prior, .net, .rst, .slanes] ++ Part.answered
  | .bootComplete .. =>
      [.ctl, .mode, .active, .shadow, .draws, .sieve, .engines, .gf, .ride, .sounder, .furrows, .pairs, .pwm,
        .lanes, .nodes, .remotes, .shears, .cloche, .harvest, .prior, .net, .rst, .slanes, .graft, .cores,
        .root] ++ Part.noted
  | .wakeEdge | .syncCheckPass | .connectTimerExpiry | .energizeRampComplete | .stopRampComplete | .enterRide
    | .recoveryTransition | .recoveryRampComplete | .leaveEnvelope | .haltCauseTaken .. =>
      [.ctl, .mode, .sieve, .engines, .gf, .ride, .sounder, .furrows, .pairs, .lanes, .nodes, .remotes, .shears,
        .cloche, .harvest, .prior, .net, .rst, .slanes] ++ Part.noted
  | .sieveOutput .. => [.draws, .sieve, .harvest, .prior] ++ Part.noted
  | .supvFaultStart .. => [.ctl, .sieve, .pairs, .lanes, .remotes, .shears, .harvest, .prior] ++ Part.noted
  | .supvFaultEnd .. | .settleDone .. => [.sieve, .harvest, .prior] ++ Part.noted
  | .qpTrip .. => [.ctl, .sieve, .pairs, .lanes, .remotes, .shears, .harvest] ++ Part.noted
  | .qpRelease .. => [.regs, .sieve]
  | .sieveSyncPin .. => [.sieve]
  | .syncAtWrite .. => [.sieve] ++ Part.answered
  | .syncTakeEffect => [.sieve, .harvest, .prior] ++ Part.noted
  | .sarScanRound .. => [.harvest, .prior] ++ Part.noted
  | .sarHandoverSlot .. => [.sieve] ++ Part.noted
  | .sarCalibrationDone => [.sieve]
  | .cmpTrip .. => [.ctl, .draws, .sieve, .pairs, .lanes, .remotes, .shears, .harvest, .prior] ++ Part.noted
  | .cmpRelease .. => [.regs, .draws, .sieve, .prior]
  | .enginePeriod .. =>
      [.ctl, .draws, .engines, .gf, .ride, .sounder, .pairs, .lanes, .remotes, .shears, .cloche, .harvest,
        .rst] ++ Part.noted
  | .outputPhase .. =>
      [.engines, .gf, .ride, .sounder, .furrows, .lanes, .remotes, .arms, .shared, .prior] ++ Part.noted
  | .trellisReady => [.ctl, .engines, .lanes] ++ Part.noted
  | .beatOriginWrite .. => [.time, .harvest] ++ Part.answered
  | .loopOpen .. | .loopClose .. => [.ctl, .engines, .cloche] ++ Part.answered
  | .paramWrite .. => [.regs, .active, .sent, .win, .runner]
  | .shadowWrite .. => [.regs, .shadow, .sent, .win, .graft, .runner]
  | .dictWrite .. =>
      [.ctl, .mode, .active, .shadow, .sessions, .coreReq, .draws, .sieve, .engines, .gf, .ride, .sounder, .furrows,
        .pairs, .pwm, .lanes, .nodes, .remotes, .shears, .cloche, .time, .harvest, .prior, .net, .rst, .slanes,
        .graft, .cores, .root] ++ Part.answered
  | .breakerPulseEnd .. => [.gf, .cloche] ++ Part.noted
  | .estimateStart => [.regs, .sounder]
  | .estimateComplete .. => [.active, .draws, .gf, .sounder] ++ Part.noted
  | .sounderModeWrite .. => [.sounder] ++ Part.answered
  | .sounderModeApply => [.sounder] ++ Part.noted
  | .sounderResultStale => [.regs]
  | .furrowReload .. => [.furrows, .pairs, .pwm, .lanes, .remotes] ++ Part.noted
  | .furrowEvent .. => [.furrows, .harvest] ++ Part.noted
  | .commit .. => [.furrows] ++ Part.answered
  | .pwmShadowWrite .. => [.furrows, .pairs, .remotes, .harvest] ++ Part.answered
  | .pairTurnOn .. => [.pairs] ++ Part.noted
  | .calSlot .. => [.regs, .pairs]
  | .fltActive .. => [.ctl, .pairs, .fltActive, .lanes, .remotes, .shears, .harvest] ++ Part.noted
  | .fltInactive .. => [.pairs, .fltActive] ++ Part.noted
  | .faultClear .. => [.pairs] ++ Part.answered
  | .glDripTimer => [.ctl, .lanes, .rst, .slanes] ++ Part.noted
  | .edgeCmdDeparture .. => [.lanes, .nodes, .remotes] ++ Part.noted
  | .statusCycle .. | .statusFrame .. => [.ctl, .pairs, .lanes, .nodes, .remotes, .shears, .harvest] ++ Part.noted
  | .nodeMgmtResponse .. => [.regs, .sent, .lanes, .nodes, .runner]
  | .bringUp .. | .resync .. => [.lanes, .nodes] ++ Part.answered
  | .chainComplete .. => [.regs, .lanes]
  | .shareReportRx .. => [.arms]
  | .shareSetRx .. => [.ctl, .regs, .lanes, .remotes, .arms, .runner]
  | .shareSetDeadline .. => [.arms] ++ Part.noted
  | .shareMasterLost .. => [.ctl, .sent, .runner]
  | .bypassClose .. | .bypassOpen .. => [.nodes, .shears] ++ Part.answered
  | .shearsBypassDelay .. => [.nodes, .shears] ++ Part.noted
  | .blankWindowEnd .. => [.ctl, .pairs, .lanes, .remotes, .shears, .harvest] ++ Part.noted
  | .legRelease .. | .groupClear .. => [.pairs, .remotes, .shears] ++ Part.answered
  | .clearAll .. => [.ctl, .pairs, .remotes, .shears] ++ Part.answered
  | .testCmp .. => [.shears] ++ Part.answered
  | .cmpTestDone .. => [.ctl, .pairs, .lanes, .remotes, .shears, .harvest, .prior] ++ Part.noted
  | .testNode .. => [.nodes, .shears] ++ Part.answered
  | .nodeTestTimeout => [.shears] ++ Part.noted
  | .siStateChange .. => [.ctl, .lanes, .remotes, .cloche] ++ Part.noted
  | .siTestPulse .. => [.cloche]
  | .siTestWindowEnd .. => [.ctl, .lanes, .remotes, .cloche] ++ Part.noted
  | .soTestPulse .. => [.cloche]
  | .soPulseCheck .. | .soReadbackFail .. | .penReadbackFail => [.ctl, .lanes, .remotes, .cloche] ++ Part.noted
  | .soFaultClear .. => [.cloche] ++ Part.answered
  | .penClear .. => [.ctl, .cloche] ++ Part.answered
  | .faultClearTestDone .. => [.ctl, .regs, .rings, .sessions, .coreReq, .sent, .cloche, .win, .runner]
  | .clockMonitorFault | .coldFrameClocheWdt => [.ctl, .lanes, .remotes, .cloche] ++ Part.noted
  | .safeFrameTx .. => [.net] ++ Part.noted
  | .safeFrameRx .. => [.ctl, .lanes, .remotes, .cloche, .net] ++ Part.noted
  | .safeWatchdogExpiry .. => [.ctl, .lanes, .remotes, .cloche] ++ Part.noted
  | .clocheFault .. | .clocheCoreWdt => [.ctl, .lanes, .remotes, .cloche, .rst] ++ Part.noted
  | .clocheUpdateStart .. => [.cloche, .root] ++ Part.answered
  | .clocheUpdateAbort .. => [.cloche] ++ Part.answered
  | .clocheUpdateSwitch => [.cloche] ++ Part.noted
  | .clocheRunningReached | .clocheUpdateFallback | .clocheUpdateAbandon => [.cloche, .root] ++ Part.noted
  | .clocheConfigWrite .. => [.ctl, .lanes, .remotes, .cloche] ++ Part.answered
  | .ptpSyncRx .. | .ptpAnnounceRx .. | .ptpPdelayRx .. => [.draws, .time, .net] ++ Part.noted
  | .ptpMasterTx .. => [.sent, .time, .runner]
  | .ppsInEdge .. | .timeSourceLost .. => [.draws, .time] ++ Part.noted
  | .timeSet .. => Part.answered
  | .timeSourceWrite .. => [.time] ++ Part.answered
  | .ref10mLoss => [.time] ++ Part.noted
  | .ref10mReturn => [.draws, .time] ++ Part.noted
  | .timedOutputArm .. => [.time] ++ Part.answered
  | .timedOutputEdge .. => [.regs, .sent, .time, .runner]
  | .timeCapture .. => [.regs, .time]
  | .clockUpdateRequest .. => [.time] ++ Part.answered
  | .clockUpdateStrobe => [.active, .time, .harvest, .graft] ++ Part.noted
  | .alignerLockLoss => [.time] ++ Part.noted
  | .alignerRelock => [.draws, .time] ++ Part.noted
  | .harvestArm .. | .harvestTriggerCmd .. | .harvestAbort .. | .armAtWrite .. => [.harvest] ++ Part.answered
  | .armAtInstant .. => [.regs, .harvest]
  | .harvestFrame .. => [.harvest] ++ Part.noted
  | .streamCopy .. => [.regs, .rings, .sent, .harvest, .runner]
  | .netLinkChange .. => Part.noted
  | .svFrameRx .. => [.sieve, .harvest, .prior, .net] ++ Part.noted
  | .svStreamLost .. => [.harvest, .prior] ++ Part.noted
  | .gooseFrameRx .. => [.net] ++ Part.noted
  | .gooseTalExpiry .. => Part.noted
  | .gooseEvaluation | .gooseRepeat .. => [.regs, .sent, .net, .runner]
  | .fwWordWrite .. => Part.answered
  | .prpSupervisionTx => [.sent, .net, .runner]
  | .prpSupervisionRx .. => [.net] ++ Part.noted
  | .lanSilent .. => Part.noted
  | .prpEntryForget .. | .prpNodeForget .. => [.regs, .net]
  | .arpRequest .. | .icmpEcho .. | .ethFrameDiscard .. => [.net] ++ Part.noted
  | .xdpHello .. => [.regs, .sessions, .sent, .draws, .runner]
  | .xdpProve .. | .xdpProveTimeout .. => [.regs, .sessions, .sent, .runner]
  | .xdpRead .. => [.regs, .sessions, .coreReq, .sent, .runner]
  | .xdpWrite .. =>
      [.ctl, .mode, .active, .shadow, .sessions, .coreReq, .draws, .sieve, .engines, .gf, .ride, .sounder, .furrows,
        .pairs, .pwm, .lanes, .nodes, .remotes, .shears, .cloche, .time, .harvest, .prior, .net, .rst, .slanes,
        .graft, .cores, .root] ++ Part.answered
  | .xdpSubscribe .. | .xdpUnsubscribe .. | .xdpKeepalive .. | .xdpClose .. => [.regs, .sessions, .sent, .runner]
  | .xdpMalformed => [.regs]
  | .xdpSessionTimeout .. => [.sessions]
  | .xdpSnapshotExpiry .. | .xdpStagedWriteTimeout .. => [.sessions, .coreReq]
  | .xdpNotify .. => [.sessions] ++ Part.noted
  | .dictServiceTake =>
      [.ctl, .mode, .active, .shadow, .sessions, .coreReq, .draws, .sieve, .engines, .gf, .ride, .sounder, .furrows,
        .pairs, .pwm, .lanes, .nodes, .remotes, .shears, .cloche, .time, .harvest, .prior, .net, .rst, .slanes,
        .graft, .cores, .root] ++ Part.answered
  | .ringPost .. => [.coreReq, .cores] ++ Part.answered
  | .ringRelease .. => [.cores] ++ Part.answered
  | .ringEntriesWrite .. => Part.answered
  | .wdtKick .. => [.cores] ++ Part.answered
  | .coreWdtHalf .. => [.sent, .runner]
  | .coreWdtExpiry .. => [.ctl, .lanes, .remotes, .rst, .graft, .cores] ++ Part.answered
  | .coreResetCmd .. | .coreCrash .. => [.rst, .graft, .cores] ++ Part.answered
  | .coreRestartDone .. => [.regs, .cores]
  | .drainBreach .. => Part.noted
  | .transactionTimeout .. => Part.answered
  | .relock .. => [.slanes] ++ Part.answered
  | .fullRetrain .. => [.lanes, .nodes, .remotes, .slanes] ++ Part.answered
  | .fullRetrainDone .. => [.lanes, .rst, .slanes] ++ Part.noted
  | .laneLockLoss .. => [.lanes, .slanes] ++ Part.noted
  | .laneLockAcquired .. => [.slanes] ++ Part.noted
  | .loopbackWrite .. => [.lanes, .nodes, .remotes, .slanes] ++ Part.answered
  | .inject .. => [.slanes] ++ Part.answered
  | .berWindowEnd .. => [.regs, .slanes]
  | .arrayForm .. => [.lanes, .rst, .slanes] ++ Part.answered
  | .arrayDissolve .. => [.ctl, .draws, .lanes, .time, .rst, .slanes] ++ Part.answered
  | .arrayResetCmd .. => [.ctl, .lanes, .remotes, .rst] ++ Part.answered
  | .arrayLeave .. => [.ctl, .draws, .lanes, .time, .rst, .slanes] ++ Part.answered
  | .arrayAdmitCmd .. => Part.answered
  | .joinTimeout => [.ctl, .draws, .lanes, .time, .rst, .slanes] ++ Part.noted
  | .runnerPortDown .. => [.ctl, .draws, .lanes, .rst, .slanes] ++ Part.noted
  | .runnerPortUp .. | .runnerPartition .. => [.lanes, .rst, .slanes] ++ Part.noted
  | .runnerTimeLoss => [.draws, .time] ++ Part.noted
  | .runnerEchoTx .. => [.sent, .runner]
  | .runnerTimeRx .. => [.draws, .time] ++ Part.noted
  | .runnerEchoRx .. => [.sent, .runner]
  | .runnerEchoReplyRx .. => [.regs]
  | .topologyRx .. => [.ctl, .draws, .lanes, .time, .rst, .slanes] ++ Part.noted
  | .samplesRx .. => [.shared, .prior]
  | .harvestArmMsg .. => [.harvest]
  | .harvestFireMsg .. => [.harvest] ++ Part.noted
  | .sieveSyncMsg .. => [.sieve]
  | .beatOriginMsg .. => [.time, .harvest] ++ Part.noted
  | .graftProposeRx .. => [.graft] ++ Part.noted
  | .graftVoteRx .. => [.graft]
  | .graftDecideRx .. => [.graft] ++ Part.noted
  | .arrayHaltRx .. | .arrayClearRx .. => [.ctl, .runner]
  | .arrayResetRx => [.ctl, .lanes, .remotes, .rst] ++ Part.noted
  | .joinRx .. | .bedDataRx .. => Part.noted
  | .admitRx .. =>
      [.ctl, .active, .shadow, .draws, .sieve, .engines, .gf, .ride, .sounder, .furrows, .pairs, .pwm, .lanes,
        .remotes, .shears, .cloche, .time, .harvest, .prior, .net, .rst, .slanes, .graft] ++ Part.noted
  | .userMsgRx .. => Part.noted
  | .powerMeasurement .. => [.ctl, .draws, .sounder, .power] ++ Part.noted
  | .rotationDecision => [.sounder, .power] ++ Part.noted
  | .thermalCauseSet => [.ctl] ++ Part.noted
  | .userTaskRequest => [.power] ++ Part.noted
  | .userTaskRelease => [.sounder, .power] ++ Part.noted
  | .budgetWrite .. => Part.answered
  | .powerOnReset .. | .vddaBrownout | .resetnPulse | .resetnLong | .jtagColdReset => Part.all
  | .warmReset .. =>
      [.ctl, .mode, .sieve, .engines, .gf, .ride, .sounder, .furrows, .pairs, .lanes, .nodes, .remotes, .shears,
        .cloche, .harvest, .prior, .net, .rst, .slanes] ++ Part.answered
  | .warmGraceEnd => Part.all
  | .resetRelease .. => [.regs, .rst]
  | .dibberMeasureEnd .. => [.ctl, .regs, .sent, .rst, .runner]
  | .domainResetLane .. => [.lanes, .nodes, .remotes, .rst, .slanes] ++ Part.answered
  | .domainResetEngine .. => [.ctl, .engines, .cloche, .rst] ++ Part.answered
  | .domainResetSieve .. => [.sieve, .harvest, .prior, .rst] ++ Part.answered
  | .domainResetFurrow .. => [.furrows, .pairs, .pwm, .rst] ++ Part.answered
  | .domainResetPair .. => [.pairs, .rst] ++ Part.answered
  | .graftCopy .. | .graftLoad .. => [.shadow, .graft] ++ Part.answered
  | .graftSwap .. | .graftSwapBack .. | .graftCancel .. => [.graft] ++ Part.answered
  | .swapChecksDone | .swapCheckDeadline .. => [.graft] ++ Part.noted
  | .swapBeat =>
      [.ctl, .active, .shadow, .draws, .sieve, .engines, .gf, .ride, .sounder, .furrows, .pairs, .pwm, .lanes,
        .remotes, .shears, .cloche, .time, .harvest, .prior, .net, .graft] ++ Part.noted
  | .graftDecideTx => [.graft] ++ Part.noted
  | .graftNoDecision => [.ctl, .graft] ++ Part.noted
  | .stageClear .. | .stageVerify .. | .stageDataWrite .. => [.graft] ++ Part.answered
  | .graftChunk .. => [.regs, .rings, .sent, .graft, .runner]
  | .stageVerifyDone => [.graft] ++ Part.noted
  | .fwStartStandby .. | .fwHandoverCmd .. => [.graft] ++ Part.answered
  | .fwFreezeBeat => [.graft] ++ Part.noted
  | .fwSwitchBeat => [.graft, .cores] ++ Part.answered
  | .fwCommit .. => [.graft, .root] ++ Part.answered
  | .fwBack .. | .fwStopStandby .. => [.graft] ++ Part.answered
  | .slotProgram .. => [.root] ++ Part.answered
  | .slotProgramDone .. => [.root] ++ Part.noted
  | .keyRevoke .. => [.sessions, .graft] ++ Part.answered
  | .ownerLock .. | .rollbackAdvance .. => [.root] ++ Part.answered
  | .debugUnlock .. => [.ctl, .draws, .lanes, .time, .rst, .slanes, .root] ++ Part.answered
  | .debugRelock .. => [.root] ++ Part.answered
  | .jtagUnlock .. => [.ctl, .draws, .lanes, .time, .rst, .slanes, .root] ++ Part.noted
  | .recoveryStart .. => [.graft, .cores] ++ Part.answered
  | .ownerKeysWrite .. => Part.answered
  | .attestRequest .. => [.root] ++ Part.answered
  | .attestReportDone | .ledgerTick => [.draws, .root] ++ Part.noted
  | .ageingMeasurement .. => [.root] ++ Part.noted
  | .measureLate | .manchesterErr .. => [.regs]
  | .patternCheckerSync .. => [.regs, .slanes]
  | .codeError .. => [.regs]
  | .laneFrameRx .. => [.regs, .sent, .slanes, .runner]
  | .runnerTimeTx | .shareReportTx .. => [.sent, .runner]
  | .ptpPdelayReqTx .. => [.sent, .time, .runner]
  | .lrefclkLoss | .lrefclkReturn => [.time] ++ Part.noted
  | .clockMonitorReturn => [.ctl, .cloche]
  | .uncorrectableSoftError => [.ctl, .sent, .lanes, .remotes, .rst, .runner]
  | .windowLoad .. => [.sent, .win, .runner]

/-- A swap stands at its beat: it is taken ahead of what starts then (R106). -/
def State.swapDue (s : State) : Bool :=
  match s.graft.swap with
  | some w => decide (0 ≤ sdiff s.now w.beat)
  | none => false

/-- The commands that a swap at its beat goes ahead of: what starts at a grid instant, a CANCEL, and the beats of the clocks
and of the firmware. -/
def swapGoesAhead (c : Instr) : Bool :=
  match c with
  | .enginePeriod .. | .furrowReload .. | .clockUpdateStrobe | .graftCancel .. | .fwFreezeBeat | .fwSwitchBeat => true
  | _ => false

/-- What a swap at its beat may change. -/
def Part.swapped : List Part :=
  [.ctl, .regs, .active, .shadow, .rings, .eventSeq, .sent, .draws, .sieve, .engines, .gf, .ride, .sounder, .furrows,
   .pairs, .pwm, .lanes, .remotes, .shears, .cloche, .time, .harvest, .prior, .net, .graft, .runner]

/-! ## Values of the dictionary -/

/-- Every value outside the beds is as before, but those of the listed entries and sub-indices. -/
def KeepsRegs (l : List (Nat × Nat)) (s t : State) : Prop :=
  ∀ i k, (∀ p ∈ l, Dict.key p.1 p.2 ≠ Dict.key i k) → storeGet t.regs (Dict.key i k) = storeGet s.regs (Dict.key i k)

/-- What an event may change outside the beds: LOST, PEAK_FILL and the flags of Q3 (R518 to R520). -/
def eventRegs : List (Nat × Nat) := [(0x1A23, 0x26), (0x1A23, 0x28), (0x1A23, 0x29)]

/-- What entries posted to a ring may change outside the beds (R518 to R520). -/
def ringRegs (q : Nat) : List (Nat × Nat) := [(0x1A20 + q, 0x26), (0x1A20 + q, 0x28), (0x1A20 + q, 0x29)]

/-- The requester exists and is among the writers of what it asks for (R29, R491). -/
def May (s : State) (req : Requester) (w : Writers) : Prop := s.present req = true ∧ mayWrite s req w = true

/-- The mode and the sub-state. -/
def State.In (s : State) (m : Mode) (b : SubState) : Prop := s.ctl.mode = m ∧ s.ctl.sub = b

/-- What a mode command meets: the causes and the transitions that stand presented are taken ahead of it (R35, R36). -/
def State.atCommand (s : State) : State := s.takeCauses.takeAutomatic

/-- What the HALT command meets: it ranks with the causes, ahead of every other transition (R35). -/
def State.atHalt (s : State) : State := s.takeCauses

/-- A packet of an open session that passes its checks and repeats no request (R500, R504). -/
def XdpPasses (h : XdpHead) (s : State) : Prop :=
  (s.session h.session).state = .open ∧ h.macOk = true ∧ (s.session h.session).psnIn < h.psn ∧
    ((s.session h.session).kept.find? fun r => decide (r.reqId = h.reqId)) = none ∧
    ((s.session h.session).waiting.any fun w => decide (w.reqId = h.reqId)) = false ∧
    (s.session h.session).outstanding < 8

/-- The state a packet's request meets: its PSN and instant are taken. -/
def State.taken (s : State) (h : XdpHead) : State :=
  s.modSession h.session fun x => { x with psnIn := h.psn, latestPacket := s.now }

/-- The session has answered the packet's request, and keeps the answer (R504). -/
def XdpAnswered (h : XdpHead) (t : State) : Prop :=
  (t.session h.session).state = .open ∧ (t.session h.session).psnIn = h.psn ∧
    ((t.session h.session).kept.head?.map fun r => r.reqId) = some h.reqId

/-- The latest answer of t is that of the request, with the code; a window requester sees a refusal alone (R32, R498). -/
def Answered (req : Requester) (i k code : Nat) (t : State) : Prop :=
  match req with
  | .window c => code ≠ 0 → (vget t.win c.val .clear).status = code
  | _ => t.sent.head? = some (.response req i k code)

end Sys2Proof.Machine
end

