-- ==== Sys2Proof/Certificates/Slice0/Obligations.lean ====
section
/-! DEFINITION. The statements for the provers: what each command of the table does where it completes, what it leaves
alone, the rules of the mode commands, and the invariant of the mode controller. -/

open Sys2Proof Sys2Proof.Machine

/-- A step takes the front of the queue. A step runs the command at the front of the queue on the state with the rest
of the queue; on an empty queue the model lets one tick pass, which is its own choice (log entries 1, 106). -/
def Obligations.StepTakesTheFrontCommand : Prop := ∀ s : State,
    (∀ (c : Instr) (rest : List Instr), s.pending = c :: rest → step s = exec c { s with pending := rest }) ∧
    (s.pending = [] → step s = .next s.tick)

/-- The state after reset. After reset the mode is DORMANT with no sub-state and no HALT cause, the permission is
withdrawn and the fast clocks stand still, the rings and the queue are empty, no session is open, and the counters of
refused commands are 0 (R16, R18, R42, R43, R517, R613; that a boot then runs is log entry 15). -/
def Obligations.ResetState : Prop :=
    State.reset.SubInMode ∧ State.reset.In .dormant .none ∧ State.reset.ctl.causes = [] ∧
    State.reset.ctl.permission = false ∧ State.reset.ctl.fastClocks = false ∧ State.reset.pending = [] ∧
    (∀ q : Fin 32, (State.reset.ring q).entries = []) ∧
    (∀ n : Fin 16, (vget State.reset.sessions n Session.closed).state = .free) ∧
    State.reset.reg 0x1101 0x02 = 0 ∧ State.reset.reg 0x1101 0x03 = 0 ∧
    (∀ n, n < 17 → State.reset.reg 0x1102 (n + 1) = 0) ∧ State.reset.reg 0x1100 0x09 = 0

/-- Every command completes and keeps the queue. On every state, every command of the table answers a next state, and
no command changes the queue of those that wait (log entries 6, 7, 106). -/
def Obligations.EveryCommandCompletesAndKeepsTheQueue : Prop := ∀ (c : Instr) (s : State),
    Completes c s fun t => t.pending = s.pending

/-- Each command changes only its parts. What a command leaves alone: every part of the state that mayChange does not
list for it is unchanged, whatever the state and the operands. Where a swap stands at its beat and goes ahead of the
command, the parts a swap changes may change as well (R106). The parts of a command are those the rules of its row give
it (log entries 8, 106). -/
def Obligations.EachCommandChangesOnlyItsParts : Prop := ∀ (c : Instr) (s t : State), exec c s = .next t →
    (s.swapDue = false ∨ swapGoesAhead c = false → Frame (mayChange c) s t) ∧
      Frame (mayChange c ++ Part.swapped) s t

/-- The sub-state stays one of its mode's. Every step, the idle one included, keeps the sub-state one of the present
mode's own: CONNECT_PENDING in WATCH, STOPPING and RECOVERING in FORM (R18). -/
def Obligations.SubStateStaysInItsMode : Prop := ∀ s t : State, s.SubInMode → step s = .next t → t.SubInMode

/-- Who may command the modes. A mode command of a core, or of a session of the OPERATOR, ENGINEER or SAFETY role, is
not refused with 0x0201; any other open session's is, and it then changes nothing but LAST_COMMAND, LAST_RESULT and
the answer. Sessions that are not open have no requests (log entry 6). -/
def Obligations.RolesThatCommandTheModes : Prop := ∀ (req : Requester) (s r : State) (c : Instr) (n : Nat),
    s.present req = true →
    (c, n, r) ∈ [(Instr.goWatch req, 1, s.atCommand), (.energize req, 2, s.atCommand), (.connect req, 3, s.atCommand),
      (.cancelConnect req, 4, s.atCommand), (.stop req, 5, s.atCommand), (.toDormant req, 6, s.atCommand),
      (.halt req, 7, s.atHalt), (.clearHalt req, 8, s.atCommand)] →
    (isCore req = true ∨ s.roleOf req ∈ [some .operator, some .engineer, some .safety] →
      Completes c s fun t => t.reg 0x1101 0x02 = n ∧ t.reg 0x1101 0x03 ≠ 0x0201) ∧
    (isCore req = false → s.roleOf req ∉ [some .operator, some .engineer, some .safety] →
      Completes c s fun t =>
        t.ctl = r.ctl ∧ t.reg 0x1101 0x02 = n ∧ t.reg 0x1101 0x03 = 0x0201 ∧ t.rings = r.rings ∧
          KeepsRegs [(0x1101, 0x02), (0x1101, 0x03)] r t ∧ Answered req 0x1101 0x01 0x0201 t)

/-- A mode command outside its modes. A mode command sent in another mode (GO_WATCH also in a recovery boot) is
refused with 0x0401: the answer, the requester's counter, the device counter and one MODE_CMD_REFUSED event,
LAST_COMMAND and LAST_RESULT, and nothing else; in its own mode it is not refused with 0x0401, and another refusal
leaves the counters and Q3 as they are (R28, R32, R654; log entries 9, 14). -/
def Obligations.CommandsRefusedInAMode : Prop := ∀ (req : Requester) (s r : State) (c : Instr) (n : Nat) (m : Mode),
    r = s.atCommand → s.present req = true → mayWrite s req operators = true →
    (c, n, m) ∈ [(Instr.goWatch req, 1, Mode.dormant), (.energize req, 2, .watch), (.connect req, 3, .watch),
      (.cancelConnect req, 4, .watch), (.stop req, 5, .form), (.toDormant req, 6, .watch), (.clearHalt req, 8, .halt)] →
    (r.ctl.mode ≠ m ∨ m = .dormant ∧ r.ctl.recoveryBoot = true →
      Completes c s fun t =>
        t.ctl = r.ctl ∧ t.reg 0x1101 0x02 = n ∧ t.reg 0x1101 0x03 = 0x0401 ∧
        t.reg 0x1102 (sessionNumber req) = satU 32 (r.reg 0x1102 (sessionNumber req) + 1) ∧
        t.reg 0x1100 0x09 = satU 32 (r.reg 0x1100 0x09 + 1) ∧ t.eventSeq = nextSeq r.eventSeq ∧
        (r.ringFill 3 < r.ringSize 3 → (t.ring 3).entries = (r.ring 3).entries ++
          [⟨0x0111, [((nextSeq r.eventSeq).toNat : Int), (r.now.toNat : Int), n, (modeCode r.ctl.mode : Nat),
            (sessionNumber req : Nat)], [], r.now⟩]) ∧
        KeepsRegs ((0x1101, 0x02) :: (0x1101, 0x03) :: (0x1102, sessionNumber req) :: (0x1100, 0x09) :: eventRegs) r t ∧
        Frame Part.answered r t ∧ Answered req 0x1101 0x01 0x0401 t) ∧
    (r.ctl.mode = m → ¬ (m = .dormant ∧ r.ctl.recoveryBoot = true) →
      Completes c s fun t => t.reg 0x1101 0x03 ≠ 0x0401 ∧ (t.reg 0x1101 0x03 ≠ 0 →
        t.ctl = r.ctl ∧ t.rings = r.rings ∧ t.eventSeq = r.eventSeq ∧
          KeepsRegs [(0x1101, 0x02), (0x1101, 0x03)] r t))

/-- HALT causes in DORMANT. A cause that becomes active in DORMANT leaves the mode and the sub-state, stands in
HALT_CAUSES, and when DORMANT is left with a cause active the device goes to HALT, by a WAKE edge and by GO_WATCH
alike. -/
def Obligations.HaltCausesInDormant : Prop := ∀ s : State, s.ctl.mode = .dormant →
    (∀ c : HaltCause, Completes (.haltCauseTaken c) (s.raiseCause c) fun t =>
      t.In .dormant s.ctl.sub ∧ (causeMap t.ctl.causes).testBit (causeBit c) = true) ∧
    (s.ctl.causes ≠ [] →
      s.leaveDormant.In .halt .none ∧
      (s.ctl.bootComplete = true → s.ctl.recoveryBoot = false → Completes .wakeEdge s fun t => t.In .halt .none) ∧
      (∀ req : Requester, s.present req = true → mayWrite s req operators = true → s.ctl.bootComplete = true →
        s.ctl.recoveryBoot = false → Completes (.goWatch req) s fun t => t.In .halt .none))

/-- COPY copies the whole active bed. A write of 1 to COMMAND of entry 0x1800, where no swap runs, makes the whole
shadow bed equal the active bed in one step and leaves the active bed; it is the same step as the row GRAFT_COPY. -/
def Obligations.CopyFillsTheShadowBed : Prop := ∀ (req : Requester) (s : State), May s req engineers →
    s.graftBusy = false →
    Completes (.dictWrite req 0x1800 0x01 0 (.num 1)) s fun t =>
      exec (.graftCopy req) s = .next t ∧ t.shadow = s.active ∧ t.active = s.active ∧ Answered req 0x1800 0x01 0 t

/-- Slot programming, REVOKE and OWNER_LOCK in their modes. In ENERGIZE, FORM and RIDE the three are refused with
0x0401, no fuse and no session changes and no programming starts; in DORMANT, WATCH and HALT none is refused with
0x0401, and OWNER_LOCK blows its fuse, or answers 0x0C0F while no slot is ACTIVE. The requester is one who may write
the entry, and no programming runs. -/
def Obligations.SlotsAndFusesInTheirModes : Prop := ∀ (req : Requester) (s : State), s.present req = true →
    s.programming = false → mayWrite s req (rootWriters s false) = true →
    (s.ctl.mode = .energize ∨ s.ctl.mode = .form ∨ s.ctl.mode = .ride →
      (Completes (.ownerLock req) s fun t => t.reg 0x1900 0x01 = s.reg 0x1900 0x01 ∧ t.reg 0x1901 0x0A = 0x0401 ∧
          t.root = s.root ∧ Answered req 0x1901 0x07 0x0401 t) ∧
      (Completes (.keyRevoke req) s fun t => t.reg 0x1900 0x02 = s.reg 0x1900 0x02 ∧ t.reg 0x1901 0x0A = 0x0401 ∧
          t.sessions = s.sessions ∧ t.root = s.root ∧ Answered req 0x1901 0x07 0x0401 t) ∧
      (∀ (k : Fin 4) hash, hash.length = 32 →
        Completes (.slotProgram req k hash) s fun t => t.root = s.root ∧ Answered req 0x1901 (1 + k.val) 0x0401 t)) ∧
    (s.ctl.mode = .dormant ∨ s.ctl.mode = .watch ∨ s.ctl.mode = .halt →
      (s.activeSlots = [] →
        Completes (.ownerLock req) s fun t => t.reg 0x1900 0x01 = s.reg 0x1900 0x01 ∧ t.reg 0x1901 0x0A = 0x0C0F ∧
          t.root = s.root ∧ Answered req 0x1901 0x07 0x0C0F t) ∧
      (s.activeSlots ≠ [] →
        Completes (.ownerLock req) s fun t => t.reg 0x1900 0x01 = 2 ∧ t.reg 0x1901 0x0A = 0 ∧
            Answered req 0x1901 0x07 0 t) ∧
      (Completes (.keyRevoke req) s fun t => t.reg 0x1901 0x0A ≠ 0x0401) ∧
      (∀ (k : Fin 4) hash, hash.length = 32 →
        Completes (.slotProgram req k hash) s fun t => ¬ Answered req 0x1901 (1 + k.val) 0x0401 t))

/-- The eight mode commands reach their modes. From a requester who may command the modes, each of the eight mode
commands completes under its conditions: it reaches its mode and sub-state (or leaves them, where it is a success with
no effect), LAST_COMMAND and LAST_RESULT record it, and it is answered with success. What it meets is the state after
the causes and transitions that stand presented were taken; HALT, which ranks with the causes, meets the state after
the causes alone. Rules of its rows: R21. Readings of the model: log entry 9. -/
def Obligations.ModeCommandsComplete : Prop :=
  ∀ (req : Requester) (s r h : State), r = s.atCommand → h = s.atHalt → s.present req = true →
    mayWrite r req operators = true → mayWrite h req operators = true →
    (r.ctl.mode = .dormant → r.ctl.recoveryBoot = false → r.ctl.bootComplete = true →
      Completes (.goWatch req) s fun t =>
        t.In (if r.ctl.causes = [] then .watch else .halt) .none ∧ t.reg 0x1101 0x02 = 1 ∧ t.reg 0x1101 0x03 = 0 ∧
          Answered req 0x1101 0x01 0 t) ∧
    (r.ctl.mode = .watch → r.ctl.sub ≠ .connectPending → r.cfgN 0x4001 0x02 ≠ 0xFFFF → r.graft.remaps = false →
      r.ctl.guard = .satisfied → r.gf.deadbus = 2 →
      Completes (.energize req) s fun t =>
        t.In .energize .none ∧ t.ctl.fastClocks = true ∧ t.reg 0x1101 0x02 = 2 ∧ t.reg 0x1101 0x03 = 0 ∧
          Answered req 0x1101 0x01 0 t) ∧
    (r.ctl.mode = .watch → r.cfgN 0x4001 0x03 ≠ 0xFFFF → r.graft.remaps = false → r.ctl.guard = .satisfied →
      r.gf.deadbus ≠ 2 →
      Completes (.connect req) s fun t =>
        t.In .watch .connectPending ∧ (r.ctl.sub ≠ .connectPending → t.ctl.fastClocks = true) ∧
          t.reg 0x1101 0x02 = 3 ∧ t.reg 0x1101 0x03 = 0 ∧ Answered req 0x1101 0x01 0 t) ∧
    (r.ctl.mode = .watch →
      Completes (.cancelConnect req) s fun t =>
        (r.ctl.sub = .connectPending → t.In .watch .none ∧ t.ctl.connectDeadline = none) ∧
          (r.ctl.sub ≠ .connectPending → t.ctl = r.ctl) ∧ t.reg 0x1101 0x02 = 4 ∧ t.reg 0x1101 0x03 = 0 ∧
          Answered req 0x1101 0x01 0 t) ∧
    (r.ctl.mode = .form →
      Completes (.stop req) s fun t =>
        t.In .form .stopping ∧ (r.ctl.sub ≠ .stopping → t.ctl.stopStart = some s.now) ∧ t.reg 0x1101 0x02 = 5 ∧
          t.reg 0x1101 0x03 = 0 ∧ Answered req 0x1101 0x01 0 t) ∧
    (r.ctl.mode = .watch →
      Completes (.toDormant req) s fun t =>
        t.In .dormant .none ∧ t.ctl.pllRunning = false ∧ t.reg 0x1101 0x02 = 6 ∧
          t.reg 0x1101 0x03 = 0 ∧ Answered req 0x1101 0x01 0 t) ∧
    (Completes (.halt req) s fun t =>
        t.ctl.mode = (if h.ctl.mode = .dormant then .dormant else .halt) ∧
          .command ∈ t.ctl.causes ∧
          t.reg 0x1101 0x02 = 7 ∧ t.reg 0x1101 0x03 = 0 ∧ Answered req 0x1101 0x01 0 t) ∧
    (r.ctl.mode = .halt → (∀ c ∈ r.ctl.causes, c = .command) → r.ctl.guard = .satisfied →
      Completes (.clearHalt req) s fun t =>
        t.In .watch .none ∧ t.reg 0x1101 0x02 = 8 ∧ t.reg 0x1101 0x03 = 0 ∧
          Answered req 0x1101 0x01 0 t)

/-- The automatic transitions reach their modes. Each automatic transition of the table of transitions, taken when its
condition stands presented, reaches its mode and sub-state; a pending HALT cause leads to HALT outside DORMANT; a
breaker pulse ends for its own output alone. Rules of its rows: R21, R35, R203, R207, R209, R210, R227, R232, R233,
R235, R576. Readings of the model: log entries 7, 9, 19. -/
def Obligations.ModeTransitionsComplete : Prop := ∀ s : State,
    (s.ctl.mode = .dormant → s.ctl.bootComplete = true → s.ctl.recoveryBoot = false →
      Completes .wakeEdge s fun t => t.In (if s.ctl.causes = [] then .watch else .halt) .none) ∧
    (∀ r, r = s.takeCauses → r.gf.syncPass = true → r.ctl.mode = .watch → r.ctl.sub = .connectPending →
      Completes .syncCheckPass s fun t => t.In .form .none) ∧
    (∀ r, r = s.takeCauses.takeSync → r.ctl.mode = .watch → r.ctl.sub = .connectPending →
      Completes .connectTimerExpiry s fun t => t.In .watch .none) ∧
    (∀ r, r = s.takeCauses → r.gf.rampDone = true → r.ctl.mode = .energize →
      Completes .energizeRampComplete s fun t => t.In .form .none) ∧
    (∀ r, r = s.takeCauses.takeRide → r.ctl.mode = .form → r.ctl.sub = .stopping →
      Completes .stopRampComplete s fun t => t.In .watch .none) ∧
    (∀ r, r = s.takeCauses → r.ride.entry.isSome = true → r.ctl.mode = .form →
      Completes .enterRide s fun t => t.In .ride .none ∧ t.ride.entry = none) ∧
    (∀ r, r = s.takeCauses.takeExit → r.ride.recovery = true → r.ctl.mode = .ride →
      Completes .recoveryTransition s fun t => t.In .form .recovering ∧ t.ride.rampStart = some s.now) ∧
    (∀ r, r = s.takeCauses.takeRide → r.ctl.mode = .form → r.ctl.sub = .recovering →
      Completes .recoveryRampComplete s fun t => t.In .form .none ∧ t.ride.episode = none) ∧
    (∀ r, r = s.takeCauses → r.ride.exit.isSome = true → r.ctl.mode = .ride →
      Completes .leaveEnvelope s fun t => t.In .halt .none) ∧
    (∀ c, c ∈ s.ctl.pendingCauses →
      Completes (.haltCauseTaken c) s fun t =>
        t.ctl.mode = (if s.ctl.mode = .dormant then .dormant else .halt) ∧ (s.SubInMode → t.ctl.sub = .none)) ∧
    (∀ k : Fin 8, s.breakerPulse k = true →
      Completes (.breakerPulseEnd k) s fun t => t.breakerPulse k = false ∧ ∀ j, j ≠ k.val →
          t.breakerPulse j = s.breakerPulse j)

/-- What the rows of a sensing channel do. The bits of a channel are taken one after the other; a bit short of a sinc
output fills the integrators and changes no entry, one that ends a sinc output short of a sample moves the FIR phase,
and one that ends a sample gives it its stamp, counted from that bit's edge, and shows it; a supervisor fault, its end
and the end of settling move the status; the quick-path trip and release change their own side alone; a Manchester
error sets its bit alone. Rules of its rows: R51, R58, R61, R65. Readings of the model: log entries 30, 35, 98. -/
def Obligations.SieveChannelsComplete : Prop := ∀ (ch : Fin 48) (s : State),
    (∀ first b rest last r, exec (.sieveOutput ch first b) s = .next r →
      Completes (.sieveOutput ch (first ++ b :: rest) last) s fun t => exec (.sieveOutput ch rest last) r = .next t) ∧
    (∀ b c, (s.chan ch).status ≠ .off → c = sincBit (phaseStart (s.chan ch)) (s.chanClock ch) b →
      (c.sincPhase < s.cfgN (0x2000 + ch) 0x03 →
        Completes (.sieveOutput ch [] b) s fun t => t.chan ch = c ∧ t.regs = s.regs ∧
          (∀ k, k ≠ ch.val → t.chan k = s.chan k)) ∧
      (s.cfgN (0x2000 + ch) 0x03 ≤ c.sincPhase → c.firPhase + 1 < s.cfgN (0x2000 + ch) 0x05 →
        Completes (.sieveOutput ch [] b) s fun t =>
          (t.chan ch).sincPhase = 0 ∧ (t.chan ch).firPhase = c.firPhase + 1 ∧ (t.chan ch).integ = c.integ ∧
            t.regs = s.regs) ∧
      (s.cfgN (0x2000 + ch) 0x03 ≤ c.sincPhase → s.cfgN (0x2000 + ch) 0x05 ≤ c.firPhase + 1 →
        s.cfgN (0x2000 + ch) 0x11 = 0 →
        Completes (.sieveOutput ch [] b) s fun t =>
          (t.chan ch).stamp = later (phaseStart (s.chan ch)).edge (s.cfg (0x2000 + ch) 0x08 - s.groupDelay ch) ∧
            (t.chan ch).sincPhase = 0 ∧ (t.chan ch).firPhase = 0 ∧
            t.regT (0x2000 + ch) 0x21 = (t.chan ch).stamp ∧ t.reg (0x2000 + ch) 0x20 = (t.chan ch).sample)) ∧
    (∀ stuck missing bits, (s.chan ch).status ≠ .off → (s.chan ch).status ≠ .supvFault →
      (stuck = true ∨ missing = true) →
      Completes (.supvFaultStart ch stuck missing bits) s fun t =>
        (t.chan ch).status = .supvFault ∧
          (t.chan ch).faultFlags = (s.chan ch).faultFlags ||| ofBits [stuck, missing]) ∧
    ((s.chan ch).status = .supvFault →
      Completes (.supvFaultEnd ch) s fun t =>
        (t.chan ch).status = .settling ∧ (t.chan ch).settleLeft = s.settleSamples ch ∧ (t.chan ch).faultFlags = 0) ∧
    ((s.chan ch).status = .settling → (s.chan ch).settleLeft = 0 →
      Completes (.settleDone ch) s fun t => (t.chan ch).status = .valid) ∧
    (∀ high bits seen, (s.chan ch).status ≠ .off → s.qpBeyond ch high (s.qpValue ch bits) = true →
      s.qpOwn ch high = false →
      Completes (.qpTrip ch high bits seen) s fun t => t.qpOwn ch high = true ∧
          t.qpOwn ch (!high) = s.qpOwn ch (!high)) ∧
    (∀ high bits, (s.chan ch).status ≠ .off → s.qpBack ch high (s.qpValue ch bits) = true →
      Completes (.qpRelease ch high bits) s fun t =>
        t.qpOwn ch high = false ∧ t.qpOwn ch (!high) = s.qpOwn ch (!high) ∧ KeepsRegs [(0x2000 + ch, 0x29)] s t) ∧
    ((s.chan ch).status ≠ .off → s.cfg (0x2000 + ch) 0x01 = 2 →
      Completes (.manchesterErr ch) s fun t =>
        bitOf (t.regN (0x2000 + ch) 0x27) 2 = true ∧ KeepsRegs [(0x2000 + ch.val, 0x27)] s t)

/-- Synchronisation of the Sieve. A pin edge and a Runner message put their instant among the synchronisations when
none is within a period before it; an accepted SYNC_AT is stored; the first synchronisation takes effect and is shown.
Rules of its rows: R63, R64. Readings of the model: log entry 31. -/
def Obligations.SieveSynchronisationComplete : Prop := ∀ s : State,
    (∀ rising, s.regN 0x2100 0x03 = (if rising = true then 1 else 2) →
      (∀ l, s.sieve.lastSyncAt = some l → ¬ (0 ≤ sdiff (later s.now 12800) l ∧
        sdiff (later s.now 12800) l < s.syncPeriod)) →
      Completes (.sieveSyncPin rising) s fun t => (later s.now 12800, 1) ∈ t.sieve.syncs ∧ Frame [.sieve] s t) ∧
    (∀ req value, May s req engineers →
      value = 0#64 ∨ (2560000 ≤ sdiff value s.now ∧ sdiff value s.now ≤ 256000000000) →
      Completes (.syncAtWrite req value) s fun t =>
        t.regT 0x2100 0x01 = value ∧ KeepsRegs [(0x2100, 0x01)] s t ∧ Answered req 0x2100 0x01 0 t) ∧
    (∀ at0 source r, s.sieve.syncs = (at0, source) :: r →
      Completes .syncTakeEffect s fun t =>
        t.sieve.lastSyncAt = some at0 ∧ (∀ x ∈ t.sieve.syncs, x ∈ r) ∧ t.regT 0x2100 0x04 = at0) ∧
    (∀ t0 : BitVec 64, s.inArray = true →
      (∀ l, s.sieve.lastSyncAt = some l → ¬ (0 ≤ sdiff (s.fromArray t0) l ∧ sdiff (s.fromArray t0) l < s.syncPeriod)) →
      Completes (.sieveSyncMsg t0) s fun t => (s.fromArray t0, 3) ∈ t.sieve.syncs ∧ Frame [.sieve] s t)

/-- Scans and hand-over of the SAR converters. A scan round shows every enabled input's code as Q1.31 with status
VALID; a hand-over whose codes agree changes the roles of the group, counts, and changes nothing else of the
dictionary; a finished calibration waits for its slot. Rules of its rows: R71, R73, R584. Readings of the model: log
entry 33. -/
def Obligations.AuxiliaryConvertersComplete : Prop := ∀ s : State,
    (∀ codes, s.ctl.mode ≠ .dormant →
      Completes (.sarScanRound codes) s fun t => ∀ k < 16, s.cfg (0x2030 + k) 0x01 = 1 →
        t.reg (0x2030 + k) 0x20 = ((codes.getD k 0 % 65536 * 32768 : Nat) : Int) ∧ t.reg (0x2030 + k) 0x22 = 2) ∧
    (∀ incoming outgoing, s.ctl.mode ≠ .dormant → s.sieve.sarReady = true →
      (∀ k < 8, ((incoming.getD k 0 : Int) - (outgoing.getD k 0 : Nat)).natAbs ≤ s.regN 0x2100 0x06) →
      Completes (.sarHandoverSlot incoming outgoing) s fun t =>
        t.sieve.sarReady = false ∧ t.sieve.sarStep = s.sieve.sarStep + 1 ∧
          t.reg 0x2100 0x08 = sarSwap (s.regN 0x2100 0x08) (s.sieve.sarStep.val % 2) ∧
          t.reg 0x2100 0x09 = satU 32 (s.reg 0x2100 0x09 + 1) ∧
          KeepsRegs ([(0x2100, 0x08), (0x2100, 0x09)] ++ eventRegs) s t) ∧
    (Completes .sarCalibrationDone s fun t => t.sieve.sarReady = true ∧ Frame [.sieve] s t)

/-- Comparators trip and release. An enabled comparator beyond its line trips alone, and back beyond the hysteresis it
releases and shows STATE 0, except in its self-test, which changes no entry. Rules of its rows: R74. Readings of the
model: log entries 34, 99. -/
def Obligations.ComparatorsComplete : Prop := ∀ (n : Fin 16) (s : State), s.cfg (0x20C0 + n) 0x01 = 1 →
    (∀ level seen,
      (if s.cfg (0x20C0 + n) 0x03 = 1 then State.cmpScale level < (s.cmpLine n).1
        else (s.cmpLine n).1 < State.cmpScale level) →
      Completes (.cmpTrip n level seen) s fun t =>
        vget t.sieve.cmpOwn n false = true ∧ (∀ m, m ≠ n.val →
            vget t.sieve.cmpOwn m false = vget s.sieve.cmpOwn m false) ∧
          (s.cmpTested n = true → t.regs = s.regs)) ∧
    (∀ level,
      (if s.cfg (0x20C0 + n) 0x03 = 1 then
          (s.cmpLine n).1 + State.cmpScale (cmpHystMv (s.cfgN (0x20C0 + n) 0x04) * 1000) < State.cmpScale level
        else State.cmpScale level <
          (s.cmpLine n).1 - State.cmpScale (cmpHystMv (s.cfgN (0x20C0 + n) 0x04) * 1000)) →
      Completes (.cmpRelease n level) s fun t =>
        vget t.sieve.cmpOwn n true = false ∧ (s.cmpTested n = false → t.reg (0x20C0 + n) 0x20 = 0) ∧
          (s.cmpTested n = true → t.regs = s.regs) ∧ KeepsRegs [(0x20C0 + n, 0x20)] s t)

/-- Periods, output phases and the beat origin. A period of an active engine starts at the present instant, where no
swap stands at its beat and no domain reset holds the engine off; its output phase publishes the output region unless
the period is withheld; Trellis ready clears the memories of every engine without MONITOR; BEAT_ORIGIN takes the
accepted value, at another position the Runner's. Rules of its rows: R84, R86, R89, R99. Readings of the model: log
entries 37, 38, 39. -/
def Obligations.EnginePeriodsComplete : Prop := ∀ s : State,
    (∀ (e : Fin 16) mism, s.swapDue = false → s.engineActive e = true → s.heldOff e = false →
      Completes (.enginePeriod e mism) s fun t =>
        (t.engine e).inPeriod = true ∧ (t.engine e).start = s.now) ∧
    (∀ e : Fin 16, (s.engine e).inPeriod = true →
      Completes (.outputPhase e) s fun t =>
        (t.engine e).inPeriod = false ∧
          ((s.engine e).withheld = false →
            (t.engine e).pubCount = (s.engine e).pubCount + 1 ∧ (t.engine e).published = (s.engine e).regionOut) ∧
          ((s.engine e).withheld = true → (t.engine e).published = (s.engine e).published)) ∧
    (s.ctl.fastClocks = true →
      Completes .trellisReady s fun t => ∀ e : Fin 16, (t.engine e).ready = true ∧
        (s.monitor e = false → (t.engine e).signal = [] ∧ (t.engine e).words = [])) ∧
    (∀ req (value : Nat), value < 2 ^ 64 → May s req engineers → s.ctl.mode = .dormant ∨ s.ctl.mode = .watch →
      s.reg 0x1700 0x20 = 0 →
      Completes (.beatOriginWrite req value) s fun t =>
        t.regT 0x1211 0x01 = BitVec.ofNat 64 value ∧ Answered req 0x1211 0x01 0 t) ∧
    (∀ t0 : BitVec 64, s.inArray = true →
      Completes (.beatOriginMsg t0) s fun t => t.regT 0x1211 0x01 = s.fromArray t0)

/-- OPEN and CLOSE wait for the output phase. An accepted OPEN or CLOSE joins the slot's waiting commands and changes
no entry. Rules of its rows: R173, R174. Readings of the model: that it always waits is the model's reading, log entry
36, and the sets a CLOSE is judged by are the model's choice, log entry 111. -/
def Obligations.LoopCommandsComplete : Prop := ∀ (e : Fin 16) (l : Fin 8) (req : Requester) (s : State),
    May s req engineers → s.engineActive e = true →
    ((s.slot e l).state ≠ .unused →
      Completes (.loopOpen req e l) s fun t =>
        (t.slot e l).cmds = (s.slot e l).cmds ++ [.openC] ∧ t.regs = s.regs ∧ Answered req (Bed.slot e l) 0x21 0 t) ∧
    (s.graft.hold.contains (e.val, l.val) = false →
      (s.slot e l).state = .closed ∨ (s.slot e l).state = .tracking ∨
        ((s.slot e l).state = .openL ∧ s.closeConsistent e l = true) →
      Completes (.loopClose req e l) s fun t =>
        (t.slot e l).cmds = (s.slot e l).cmds ++ [.closeC] ∧ t.regs = s.regs ∧ Answered req (Bed.slot e l) 0x21 0 t)

/-- A parameter of an open loop is written. A parameter write to an OPEN loop's instance in its range takes effect at
once in the active bed and changes no other entry. Rules of its rows: R175. Readings of the model: log entry 17. -/
def Obligations.OpenLoopParameterIsWritten : Prop :=
  ∀ (e : Fin 16) (b : Fin 240) (sub l : Nat) (v : DVal) (r : Row) (req : Requester) (s : State),
    May s req engineers → Dict.findParam (Bed.type s.active e b) sub = some r →
    (s.adapting && State.soundTarget s.active e b sub) = false → Bed.loop s.active e b = some l →
    (s.slot e l).state = .openL → typeOk r v = true → rangeOk r.rng v = true →
    State.tapFits s.active e b sub v = true →
    Completes (.paramWrite req e b sub v) s fun t =>
      t.cfg (Bed.inst e b) sub = numOf v ∧ t.regs = s.regs ∧
        (∀ i k, Dict.key i k ≠ Dict.key (Bed.inst e b) sub → t.cfg i k = s.cfg i k) ∧
        Answered req (Bed.inst e b) sub 0 t

/-- Dictionary writes, shadow writes and window loads. A plain write that passes its checks stores the value and
changes no other entry, but for FW_FROZEN outside a hand-over and for what ENABLE of the Runner brings about; a W1C
write clears the bits written 1; a shadow write changes the shadow bed alone, its reserved fields dropped, and withdraws
BACK and the signature; a window load answers the entry's value, or 0, the status and interrupt 46 where it
is refused. Rules of its rows: R30, R487, R498. Readings of the model: log entries 10, 69, 93, 94. -/
def Obligations.DictionaryAccessesComplete : Prop := ∀ (req : Requester) (i k byte : Nat) (v w : DVal) (r : Row) (s : State),
    w = storeValue req r byte v →
    (0 < k → k < 0x80 → s.present req = true → s.rowOf req i k = .ok r →
        (isInstance i && decide (0x10 ≤ k) && decide (k < 0x50)) = false →
      mayWrite s req (writersOf s i k) = true → accessCode s req i k = 0 → r.acc = .rw ∨ r.acc = .wo →
      typeOk r w = true → rangeOk r.rng w = true → plainRange s i k w = true → commandWrite req i k w s = none →
      plainMode s i k = true → plainOwn s i k w = 0 → Dict.key i k ≠ Dict.key 0x1803 0x04 →
      Dict.key i k ≠ Dict.key 0x1700 0x01 →
      Completes (.dictWrite req i k byte v) s fun t =>
        storeGet t.regs (Dict.key i k) = w ∧ KeepsRegs [(i, k)] s t ∧ Frame [.regs, .sent, .runner] s t ∧
            Answered req i k 0 t) ∧
    (May s req engineers → typeOk r w = true → rangeOk r.rng w = true → byte = 0 → (∀ c, req ≠ .window c) →
      (i = 0x1803 → k = 0x04 → Dict.find i k = some r →
        Completes (.dictWrite req i k byte v) s fun t =>
          storeGet t.regs (Dict.key i k) = (if s.fwState = 2 then w else storeGet s.regs (Dict.key i k)) ∧
            KeepsRegs [(i, k)] s t ∧ Answered req i k 0 t) ∧
      (i = 0x1700 → k = 0x01 → Dict.find i k = some r → dwh s.ctl.mode = true →
        Completes (.dictWrite req i k byte v) s fun t =>
          storeGet t.regs (Dict.key i k) = w ∧ Answered req i k 0 t)) ∧
    (0 < k → k < 0x80 → s.present req = true → s.rowOf req i k = .ok r →
        (isInstance i && decide (0x10 ≤ k) && decide (k < 0x50)) = false →
      mayWrite s req (writersOf s i k) = true → accessCode s req i k = 0 → r.acc = .w1c → typeOk r w = true →
      Completes (.dictWrite req i k byte v) s fun t =>
        t.regN i k = s.regN i k &&& (s.regN i k ^^^ (s.regN i k &&& (numOf w).toNat)) ∧ KeepsRegs [(i, k)] s t ∧
          Frame [.regs, .sent, .runner] s t ∧ Answered req i k 0 t) ∧
    (byte = 0 → May s req engineers → i ≠ 0 → s.hasEntry i = true → bedRow (Bed.nat s.shadow i 0x01) i k = some r →
      typeOk r w = true → rangeOk r.rng w = true → shadowFits s i k w = true → s.graftBusy = false →
      Completes (.shadowWrite req i k v) s fun t =>
        storeGet t.shadow (Dict.key i k) = Dict.stored i k w ∧ t.active = s.active ∧ t.reg 0x1800 0x25 = 0 ∧ t.reg 0x1800 0x28 = 0 ∧
          KeepsRegs [(0x1800, 0x25), (0x1800, 0x28)] s t ∧ Answered req i (k + 0x80) 0 t) ∧
    (∀ (core : Fin 4) address bits, 0x40000000 ≤ address → address < 0x48000000 →
      i = (address - 0x40000000) / 0x800 → k = address % 0x800 / 8 →
      (s.dictRead (.window core) i k = .ok (r, w) → address % 8 = 0 → bits ∈ [8, 16, 32, 64] →
        Completes (.windowLoad core address bits) s fun t =>
          t.sent = .load core (BitVec.ofNat 64 ((slotBits r w).toNat % (1 <<< bits))) :: s.sent ∧ Frame [.sent,
              .runner] s t) ∧
      (∀ code type, s.dictRead (.window core) i k = .error (code, type) → code ≠ 0 →
        Completes (.windowLoad core address bits) s fun t =>
          t.sent = .load core 0#64 :: .irq core 46 :: s.sent ∧ (vget t.win core .clear).status = code))

/-- A write of COMMAND is the command. A write of 1 to 8 to 0x1101:01 by a requester who may command the modes has
exactly the effect of the mode command of that code. Rules of its rows: R21. -/
def Obligations.CommandEntryWritesAreTheCommands : Prop := ∀ (req : Requester) (s : State), May s req operators →
    (∀ c n, (c, n) ∈ [(Instr.goWatch req, 1), (.energize req, 2), (.connect req, 3), (.cancelConnect req, 4),
        (.stop req, 5), (.toDormant req, 6), (.halt req, 7), (.clearHalt req, 8)] →
      exec (.dictWrite req 0x1101 0x01 0 (.num n)) s = exec c s)

/-- The Sounder's rows. An estimate starts with its register full and its count 0; the completion of one whose every
period is sampled, at an output phase of the probe's engine, ends it, counts it and stamps the result; an accepted mode waits and then takes effect; a stale
result is marked. Rules of its rows: R247, R250, R251, R255. Readings of the model: log entries 42, 43, 105. -/
def Obligations.SounderCommandsComplete : Prop := ∀ s : State,
    (∀ e b, Bed.probe s.active = some (e, b) → s.sounder.active = false → s.pauseBits = 0 →
      Completes .estimateStart s fun t =>
        t.sounder.active = true ∧ t.sounder.register = 2 ^ (Bed.whole s.active e b 0x10) - 1 ∧ t.sounder.chips = 0 ∧
          t.reg 0x4021 0x04 = 0 ∧ KeepsRegs [(0x4021, 0x04)] s t) ∧
    (∀ (e : Fin 16) b, Bed.probe s.active = some (e.val, b) → s.sounder.active = true →
      s.sounder.sampled = Bed.estPeriods s.active →
      Completes (.estimateComplete e) s fun t =>
        t.sounder.active = false ∧ t.sounder.samples = [] ∧ t.sounder.latestCompletion = some s.now ∧
          t.reg 0x4021 0x05 = satU 32 (s.reg 0x4021 0x05 + 1) ∧ t.regT 0x4022 0x08 = s.now) ∧
    (∀ req (value : Nat), value ≤ 3 → May s req engineers → s.soundModeOwn value = 0 →
      Completes (.sounderModeWrite req value) s fun t =>
        t.sounder.modePending = some value ∧ t.reg 0x4021 0x01 = value ∧ KeepsRegs [(0x4021, 0x01)] s t ∧
          Answered req 0x4021 0x01 0 t) ∧
    (∀ m, s.sounder.modePending = some m → (s.sounder.modeKept = false ∨ s.soundModeOwn m = 0) →
      Completes .sounderModeApply s fun t => t.reg 0x4021 0x02 = m ∧ t.sounder.modePending = none) ∧
    (s.reg 0x4022 0x02 = 1 →
      Completes .sounderResultStale s fun t => t.reg 0x4022 0x02 = 2 ∧ KeepsRegs [(0x4022, 0x02)] s t)

/-- Reloads, events and commits of a Furrow. A reload of a running Furrow without new settings, where no swap stands
at its beat, leaves only requests that are not yet due; an event is counted; an accepted COMMIT waits with its instant
and changes no entry. Rules of its rows: R285, R293. Readings of the model: log entries 44, 102. -/
def Obligations.FurrowCommandsComplete : Prop := ∀ (f : Fin 12) (s : State), (s.furrow f).running = true →
    (∀ atPeriod, s.swapDue = false → s.isReload f atPeriod = true → (s.furrow f).newSettings = false →
      Completes (.furrowReload f atPeriod) s fun t =>
        ∀ x ∈ (t.furrow f).requests, x ∈ (s.furrow f).requests ∧ State.reloadDue s.now x.2 = false) ∧
    (∀ ev : Fin 4, Completes (.furrowEvent f ev) s fun t =>
        (t.furrow f).occurrences.getD ev 0 = (s.furrow f).occurrences.getD ev 0 + 1) ∧
    (∀ req mask, May s req engineers → mask < 2 ^ 25 →
      (∀ p < 24, bitOf mask p = true → s.cfgN (0x5020 + p) 0x02 = f.val) → s.pcfg (0x5000 + f) 0x07 = 0 →
      Completes (.commit req f mask) s fun t =>
        (t.furrow f).requests = (s.furrow f).requests ++ [(BitVec.ofNat 25 mask, s.now)] ∧ t.regs = s.regs ∧
          Answered req (0x5000 + f) 0x21 0 t)

/-- Shadow writes of the PWM. An accepted write of PERIOD or of a compare stores it in its shadow; a remote compare's
value and instant are also noted while its Furrow runs. Rules of its rows: R289. Readings of the model: log entry 44. -/
def Obligations.PwmShadowWritesComplete : Prop := ∀ (req : Requester) (s : State), May s req engineers →
    (∀ (f : Fin 12) (value : Nat), 16 ≤ value → value ≤ 16777215 → s.cfg (0x5000 + f) 0x05 ≠ 1 →
      Completes (.pwmShadowWrite req (.period f) value) s fun t =>
        (t.furrow f).periodSh = some value ∧ Answered req (0x5000 + f) 0x20 0 t) ∧
    (∀ (p : Fin 24) isB (value : Nat), value ≤ 0x3FFFFFFF → (isB = false → (Bed.mod2l s.active false 0 p) = none) →
      Completes (.pwmShadowWrite req (.compare p isB) value) s fun t =>
        t.reg (0x5020 + p) (if isB then 0x21 else 0x20) = value ∧
          Answered req (0x5020 + p) (if isB then 0x21 else 0x20) 0 t) ∧
    (∀ (l : Fin 8) (p : Fin 24) isB (value : Nat), value ≤ 0x3FFFFFFF →
      (isB = false → (Bed.mod2l s.active true l p) = none) →
      Completes (.pwmShadowWrite req (.remote l p isB) value) s fun t =>
        t.reg (State.remoteEntry l p) (if isB then 0x21 else 0x20) = value ∧
          ((s.furrow (s.cfgN (State.remoteEntry l p) 0x02)).running = true →
            (t.remote l p).shadowWrites = (s.remote l p).shadowWrites ++ [(isB, value, s.now)]) ∧
          KeepsRegs [(State.remoteEntry l p, if isB then 0x21 else 0x20)] s t ∧
          Answered req (State.remoteEntry l p) (if isB then 0x21 else 0x20) 0 t)

/-- Switching, calibration and faults of a local pair. A turn-on instant gives its switch what the carrier, the
compares and the dead time give, no turn-on under a fault or before the reload after it, and leaves the other; a
calibration slot alternates or is counted missed; FLT sources come and go by themselves; an accepted FAULT_CLEAR ends
the fault and waits for a reload. Rules of its rows: R281, R283, R290, R291. Readings of the model: log entries 45,
46. -/
def Obligations.PairCommandsComplete : Prop := ∀ (p : Fin 24) (s : State),
    (∀ low atT r, s.pcfg (0x5020 + p) 0x01 = 1 → (s.furrow (s.pcfg (0x5020 + p) 0x02)).running = true →
      (s.pair p).patternOn = true →
      r = turnOn (s.carrier (s.pcfg (0x5020 + p) 0x02)) (decide (s.pcfg (0x5020 + p) 0x03 = 1)) (s.liveA p) (s.liveB p)
        (s.pcfg (0x5020 + p) 0x04 * 10) (s.pcfg (0x5020 + p) 0x05 * 10) low
        (if low then (s.pair p).l else (s.pair p).h) (if low then (s.pair p).h else (s.pair p).l) atT →
      Completes (.pairTurnOn p low atT) s fun t =>
        (if low then (t.pair p).l else (t.pair p).h) =
            (if (s.pair p).fault || (s.pair p).waitReload then (if low then (s.pair p).l else (s.pair p).h) else r.me) ∧
          (if low then (t.pair p).h else (t.pair p).l) = (if low then (s.pair p).h else (s.pair p).l) ∧
          KeepsRegs ([(0x5020 + p.val, 0x24), (0x5020 + p.val, 0x27)] ++ eventRegs) s t) ∧
    (s.ctl.fastClocks = true → s.pcfg (0x5020 + p) 0x01 = 1 →
      (Completes (.calSlot p true) s fun t =>
        (t.pair p).calOldest = 1 - (s.pair p).calOldest ∧
            t.reg (0x5020 + p) 0x29 = satU 32 (s.reg (0x5020 + p) 0x29 + 1) ∧
          KeepsRegs [(0x5020 + p, 0x29)] s t) ∧
      (Completes (.calSlot p false) s fun t =>
        t.reg (0x5020 + p) 0x2A = satU 32 (s.reg (0x5020 + p) 0x2A + 1) ∧ t.pairs = s.pairs ∧
          KeepsRegs [(0x5020 + p, 0x2A), (0x5020 + p, 0x24)] s t)) ∧
    (∀ (n : Fin 8) seen, n.val ∉ s.fltActive →
      Completes (.fltActive n seen) s fun t => ∀ k, k ∈ t.fltActive ↔ k = n.val ∨ k ∈ s.fltActive) ∧
    (∀ n : Fin 8, Completes (.fltInactive n) s fun t => ∀ k, k ∈ t.fltActive ↔ k ≠ n.val ∧ k ∈ s.fltActive) ∧
    (∀ req, May s req engineers → (s.pair p).sources = [] → (s.pair p).fault = true →
      Completes (.faultClear req p 1) s fun t =>
        (t.pair p).fault = false ∧ (t.pair p).waitReload = true ∧ KeepsRegs eventRegs s t ∧
          Answered req (0x5020 + p) 0x26 0 t)

/-- Departures, cycles and frames of a gate lane. The drip timer ends the full rate in HALT; a departing edge leaves
the queue or takes a resend number and stays; a status cycle is counted with its instant and its lock; a right status
frame of a present node shows its voltage and temperature with the age of the voltage at 0. Rules of its rows: R307,
R313, R319. Readings of the model: log entries 47, 97. -/
def Obligations.GateLinkTrafficCompletes : Prop := ∀ (l : Fin 8) (s : State),
    (s.ctl.haltLaneDeadline ≠ none → s.ctl.mode = .halt →
      Completes .glDripTimer s fun t => t.ctl.haltLaneDeadline = none ∧ (s.laneEnabled l = true →
          (t.lane l).fullRate = false)) ∧
    (∀ c r, (s.lane l).queue = c :: r → s.pulsing = true → (s.lane l).inhibit = false →
      (Completes (.edgeCmdDeparture l false) s fun t => (t.lane l).queue = r) ∧
      (Completes (.edgeCmdDeparture l true) s fun t =>
        (t.lane l).queue =
            { c with resend := some (c.resend.getD ((s.regN (State.laneEntry l) 0x24 + 1) % 65536)) } :: r ∧
          KeepsRegs [(State.laneEntry l, 0x24)] s t)) ∧
    (∀ up, s.laneEnabled l = true → s.ctl.mode ≠ .dormant → (s.lane l).noData = false →
      Completes (.statusCycle l up) s fun t =>
        (t.lane l).cycles = (s.lane l).cycles + 1 ∧ (t.lane l).cycs.head? = some s.now ∧ (t.lane l).upLock = up) ∧
    (∀ (data : Bytes) arrival, data.length = 8 → crc8 (slice data 0 7) = leNat (slice data 7 1) →
      (s.node l (leNat (slice data 0 1) / 8)).present = true →
      Completes (.statusFrame l data arrival) s fun t =>
        (t.node l (leNat (slice data 0 1) / 8)).vcapAge = 0 ∧
          t.regN (State.nodeEntry l (leNat (slice data 0 1) / 8)) 0x23 = beNat (slice data 5 2) ∧
          t.reg (State.nodeEntry l (leNat (slice data 0 1) / 8)) 0x25 = leInt (slice data 4 1))

/-- Bring-up, resynchronisation and bypass of a chain. A discovered node is present and counted, an identified one's
fields are kept, an echo gives its delay; BRING_UP and RESYNC start their procedures in WATCH and HALT; the
procedure's end shows its outcome; a bypass changes its node alone. Rules of its rows: R312, R324, R328. Readings of
the model: log entry 48. -/
def Obligations.ChainProceduresComplete : Prop := ∀ (l : Fin 8) (s : State),
    (∀ (n : Fin 24) (b : Bytes) c, (s.lane l).chain = some c → b.length = 9 → crc8 (slice b 0 8) = leNat (slice b 8 1) →
      leNat (slice b 0 1) = n.val →
      (leNat (slice b 1 1) = 0x89 → c.kind = 1 → leNat (slice b 2 1) = n.val →
        Completes (.nodeMgmtResponse l n (.frame b)) s fun t => (t.node l n).present = true ∧
          t.regN (State.laneEntry l) 0x23 = (t.laneNodes l).length ∧
          (∀ k, k ≠ n.val → t.node l k = s.node l k) ∧ KeepsRegs [(State.laneEntry l, 0x23)] s t) ∧
      (leNat (slice b 1 1) = 0x88 → c.step = 2 → (s.node l n).present = true →
        Completes (.nodeMgmtResponse l n (.frame b)) s fun t =>
          t.regB (State.nodeEntry l n) 0x21 = slice b 2 6 ∧ (t.node l n).turnaround = leNat (slice b 4 1) ∧
            (t.node l n).setup = leNat (slice b 5 1) ∧ (t.node l n).depth = leNat (slice b 7 1) ∧
            KeepsRegs [(State.nodeEntry l n, 0x21)] s t)) ∧
    (∀ (n : Fin 24) rt c, (s.lane l).chain = some c → c.step = 3 → (s.node l n).present = true →
      Completes (.nodeMgmtResponse l n (.echoReply rt)) s fun t =>
        t.reg (State.nodeEntry l n) 0x20 = satU 32 (roundDiv ((rt : Int) - ns (s.node l n).turnaround) 2) ∧
          KeepsRegs [(State.nodeEntry l n, 0x20)] s t) ∧
    (∀ req, May s req engineers → s.ctl.mode = .watch ∨ s.ctl.mode = .halt →
      (Completes (.bringUp req l) s fun t =>
        (t.lane l).chain = some ⟨1, 1, []⟩ ∧ (∀ n < 24, (t.node l n).present = false) ∧ t.reg (State.laneEntry l) 0x22 = 1 ∧
          t.reg (State.laneEntry l) 0x23 = 0 ∧ Answered req (State.laneEntry l) 0x21 0 t) ∧
      (Completes (.resync req l) s fun t =>
        (t.lane l).chain = some ⟨2, 3, s.laneNodes l⟩ ∧ t.reg (State.laneEntry l) 0x22 = 1 ∧ t.nodes = s.nodes ∧
          Answered req (State.laneEntry l) 0x21 0 t)) ∧
    (∀ refused late c, (s.lane l).chain = some c → c.kind ≠ 3 →
      (refused = true ∨ late = true ∨ s.chainDone l c = true) →
      Completes (.chainComplete l refused late) s fun t =>
        (t.lane l).chain = none ∧ t.reg (State.laneEntry l) 0x22 = (s.chainOutcome l c refused : Int) ∧
          KeepsRegs [(State.laneEntry l, 0x22)] s t) ∧
    (∀ (n : Fin 24) req, May s req engineers → (s.node l n).present = true →
      (Completes (.bypassClose req l n) s fun t =>
        (t.node l n).bypassed = true ∧ (∀ k, k ≠ n.val → t.node l k = s.node l k) ∧ KeepsRegs eventRegs s t ∧
          Answered req (State.nodeEntry l n) 0x2B 0 t) ∧
      (s.ctl.mode = .watch ∨ s.ctl.mode = .halt →
        Completes (.bypassOpen req l n) s fun t =>
          (t.node l n).bypassed = false ∧ (∀ k, k ≠ n.val → t.node l k = s.node l k) ∧ KeepsRegs eventRegs s t ∧
            Answered req (State.nodeEntry l n) 0x2B 0 t))

/-- Share groups of the Rake. A report reaches the group's master; a share set reaches a member, clears its misses and
is applied unless it comes later than its deadline;
a deadline without one is counted; a lost master gives the member the ARRAY cause and an ARRAY_HALT. Rules of its
rows: R329, R330, R562, R566. Readings of the model: log entries 49, 114. -/
def Obligations.ShareGroupsComplete : Prop := ∀ (a : Fin 6) (s : State), s.cfg (0x6300 + a) 0x01 = 1 →
    (∀ (shareId : Fin 16) (head : ShareHead) vcaps health,
      s.cfgN (0x6300 + a) 0x06 = shareId.val → (Bed.nlc s.active a).isSome = true →
      Completes (.shareReportRx shareId head vcaps health) s fun t =>
        (t.arm a).reports.head? = some ⟨head.member, head.src, s.now, s.fromArray head.instant, vcaps.take 64,
          health.take 64⟩) ∧
    (∀ (shareId : Fin 16) (at_ : BitVec 64) (part : SharePart), s.cfgN (0x6300 + a) 0x06 = shareId.val →
      Bed.nlc s.active a = none →
      Completes (.shareSetRx shareId at_ part) s fun t =>
        (t.arm a).missed = 0 ∧ t.runner.masterLost = false ∧
          (sdiff s.now (s.fromArray at_) ≤ (ns (s.cfgN (0x6300 + a) 0x05) : Int) - ns 1600 →
            (t.arm a).setArrived = true ∧ (t.arm a).runAt = s.fromArray at_ ∧
              t.regT (0x6300 + a) 0x27 = s.fromArray at_)) ∧
    (s.cfgN (0x6300 + a) 0x06 < 16 → Bed.nlc s.active a = none →
      Completes (.shareSetDeadline a) s fun t => (t.arm a).setArrived = false ∧
        ((s.arm a).setArrived = true → (t.arm a).missed = (s.arm a).missed ∧ t.regs = s.regs) ∧
        ((s.arm a).setArrived = false → (t.arm a).missed = (s.arm a).missed + 1 ∧
          KeepsRegs ([(0x6300 + a.val, 0x28)] ++ eventRegs) s t)) ∧
    (s.inArray = true → s.cfgN (0x6300 + a) 0x06 < 16 →
      Completes (.shareMasterLost a) s fun t =>
        HaltCause.array ∈ t.ctl.causes ∧ t.runner.masterLost = true ∧
          t.sent = .runner 0xFF 0x50 [s.position] :: s.sent ∧ t.regs = s.regs)

/-- Releases of legs, groups and ALL. The bypass delay bypasses the leg's node; the end of a blanking window reports
DESAT only where it is active; an accepted RELEASE frees its leg alone, CLEAR its group alone, CLEAR_ALL every group
and the ALL reaction. Rules of its rows: R348, R350, R358, R359, R360. Readings of the model: log entries 50, 51. -/
def Obligations.LegAndGroupCommandsComplete : Prop := ∀ s : State,
    (∀ n : Fin 216, (s.leg n).bypassDue ≠ none →
      Completes (.shearsBypassDelay n) s fun t => (t.leg n).bypassDue = none ∧
        (∀ k, s.nodeOf (State.legLane n) (2 * State.legPair n) = some k →
          (t.leg n).bypassSent = true ∧
              (t.node (State.legLane n) k).bypassed = (decide (State.legLane n < 8) && decide (k < 24))) ∧
        KeepsRegs eventRegs s t) ∧
    (∀ (n : Fin 216) low, (s.legPending n low).isSome = true →
      Completes (.blankWindowEnd n low) s fun t =>
        (s.srcActive kDesat (State.legLane n * 256 + (2 * State.legPair n + low.toNat)) = false →
          t.legPending n low = none ∧ t.legPending n (!low) = s.legPending n (!low) ∧ t.regs = s.regs ∧
            t.pairs = s.pairs) ∧
        (s.srcActive kDesat (State.legLane n * 256 + (2 * State.legPair n + low.toNat)) = true →
          t.shears.recordSeq = nextSeq s.shears.recordSeq)) ∧
    (∀ (n : Fin 216) req pairEntry i, i = (if pairEntry && decide (24 ≤ n.val) then
        State.remoteEntry (State.legLane n) (State.legPair n) else 0x7100 + n.val) →
      May s req operators → s.legHeldBack n = 0 →
      Completes (.legRelease req n pairEntry) s fun t =>
        (t.leg n).hStopped = false ∧ (t.leg n).lStopped = false ∧ (t.leg n).hBlocked = false ∧
          (t.leg n).lBlocked = false ∧ (t.leg n).legBlock = false ∧
          (∀ m, m ≠ n.val → t.leg m = s.leg m) ∧ KeepsRegs eventRegs s t ∧
          Answered req i (if pairEntry && decide (24 ≤ n.val) then 0x26 else 0x22) 0 t) ∧
    (∀ (g : Fin 16) req, May s req operators → ((s.sgroup g).sources.any fun x => s.srcActive x.1 x.2) = false →
      Completes (.groupClear req g) s fun t =>
        (t.sgroup g).tripped = false ∧ (t.sgroup g).sources = [] ∧ (∀ m, m ≠ g.val → t.sgroup m = s.sgroup m) ∧
          KeepsRegs eventRegs s t ∧ Answered req (0x7200 + g) 0x23 0 t) ∧
    (∀ req, May s req operators →
      (State.allSources.any fun x => s.srcActive x.1 x.2 && decide (s.srcClass x.1 x.2 ≠ 0)) = false →
      Completes (.clearAll req) s fun t =>
        t.shears.allActive = false ∧ (∀ g < 16, (t.sgroup g).tripped = false) ∧ HaltCause.shearsAll ∉ t.ctl.causes ∧
          KeepsRegs eventRegs s t ∧ Answered req 0x7300 0x01 0 t)

/-- Self-tests of comparators and nodes. An accepted test waits with its target and changes no entry; a comparator's
end shows the target, the result of the limits over the codes of the sweep and the instant, and the comparator shows
its input again; a node test that times out shows result 6. Rules of
its rows: R362, R363. Readings of the model: log entry 52. -/
def Obligations.SelfTestsComplete : Prop := ∀ s : State,
    (∀ (n : Fin 16) req, May s req engineers → s.ctl.mode = .watch ∨ s.ctl.mode = .halt → s.shears.test = none →
      s.cfg (0x20C0 + n) 0x01 = 1 →
      Completes (.testCmp req n) s fun t =>
        t.shears.test = some (.comparator n, s.now) ∧ t.regs = s.regs ∧ Answered req 0x7310 0x01 0 t) ∧
    (∀ (n : Fin 16) at0 (trip release : Option Nat), s.shears.test = some (.comparator n, at0) →
      Completes (.cmpTestDone trip release) s fun t =>
        t.shears.test = none ∧ t.reg 0x7311 0x03 = n.val ∧ t.reg 0x7311 0x04 =
            cmpResult (s.cfgN (0x20C0 + n) 0x02) (s.cfgN (0x20C0 + n) 0x04) (decide (s.cfg (0x20C0 + n) 0x03 = 1))
              (trip.filter (inSweep (s.cfgN (0x20C0 + n) 0x02))) (release.filter (inSweep (s.cfgN (0x20C0 + n) 0x02))) ∧
          t.regT 0x7311 0x07 = s.now ∧ t.reg (0x20C0 + n) 0x20 = ((vget s.sieve.cmpOwn n false).toNat : Int)) ∧
    (∀ (v : BitVec 32) l n req, l = v.toNat / 0x10000 % 256 → n = v.toNat / 0x100 % 256 → May s req engineers →
      s.ctl.mode = .watch ∨ s.ctl.mode = .halt → s.shears.test = none → v.toNat < 0x1000000 → l < 8 → n < 24 →
      (s.node l n).present = true →
      Completes (.testNode req v) s fun t =>
        t.shears.test = some (.node l n (v.toNat % 256), s.now) ∧ (t.node l n).underTest = true ∧
            (t.node l n).desat = 0 ∧
          t.regs = s.regs ∧ Answered req 0x7310 0x02 0 t) ∧
    (∀ l n c at0, s.shears.test = some (.node l n c, at0) →
      Completes .nodeTestTimeout s fun t =>
        t.shears.test = none ∧ t.reg 0x7311 0x04 = 6 ∧ t.regT 0x7311 0x07 = s.now ∧
          KeepsRegs ([(0x7311, 1), (0x7311, 2), (0x7311, 3), (0x7311, 4), (0x7311, 5), (0x7311, 6), (0x7311, 7),
            (0x7300, 5)] ++ eventRegs) s t)

/-- Safety inputs, test pulses and readbacks. A change of an input is judged, or deferred inside its source's test
window; the window's end judges it; a BREAKER pulse makes the test wait; a readback that fails raises the output's
fault, PEN's the permission too. Rules of its rows: R383, R384, R388, R389. Readings of the model: log entries 53, 54.
-/
def Obligations.SafetyInputsAndOutputsComplete : Prop := ∀ s : State,
    (∀ (n : Fin 8) isOpen, s.siEvaluable n = true →
      Completes (.siStateChange n isOpen) s fun t =>
        ((s.sin n).inWindow = true → isOpen = true → (t.sin n).deferred = true ∧ (t.sin n).isOpen = (s.sin n).isOpen) ∧
        (((s.sin n).inWindow && isOpen) = false → (t.sin n).judged = true ∧ (t.sin n).isOpen = isOpen)) ∧
    (∀ k : Fin 8, s.soFunction k = 3 → s.soTestable k = true → s.sourceInputs k ≠ [] →
      Completes (.siTestPulse k) s fun t => (t.sout k).pulse = true ∧ t.regs = s.regs ∧
        (∀ n ∈ s.sourceInputs k, (s.sin n).judged = true → (s.sin n).isOpen = false →
          (t.sin n).inWindow = true ∧ (t.sin n).deferred = false)) ∧
    (∀ (k : Fin 8) sawLow highNow, s.soFunction k = 3 →
      Completes (.siTestWindowEnd k sawLow highNow) s fun t => (t.sout k).pulse = false ∧
        (∀ n ∈ s.sourceInputs k, (s.sin n).inWindow = true →
          (t.sin n).inWindow = false ∧ (t.sin n).testFailed = !(sawLow.getLsbD n && highNow.getLsbD n))) ∧
    (∀ k : Fin 8, s.soFunction k = 1 ∨ s.soFunction k = 2 → s.reg (0x8020 + k) 0x03 = 1 → s.soTestable k = true →
      Completes (.soTestPulse k) s fun t => t.regs = s.regs ∧
        (s.breakerPulse k = true → (t.sout k).wait = true ∧ (t.sout k).pulse = (s.sout k).pulse) ∧
        (s.breakerPulse k = false → (t.sout k).pulse = true)) ∧
    (∀ k : Fin 8, (s.sout k).fault = false → (s.sout k).clearTest = none →
      (s.sout k).pulse = true ∨ s.soFunction k = 3 →
      (Completes (.soPulseCheck k false true) s fun t => t = s) ∧
      (Completes (.soPulseCheck k false false) s fun t => (t.sout k).fault = true ∧ (t.sout k).sobStuck = some true) ∧
      (Completes (.soPulseCheck k true true) s fun t => (t.sout k).pulse = false ∧ (t.sout k).fault = false) ∧
      (s.soCommanded k = some true →
        Completes (.soPulseCheck k true false) s fun t => (t.sout k).fault = true ∧ (t.sout k).sobStuck = some false)) ∧
    (∀ (k : Fin 8) v, s.soCommanded k = some v → (s.sout k).fault = false →
      Completes (.soReadbackFail k) s fun t => (t.sout k).fault = true ∧ (t.sout k).sobStuck = some (!v)) ∧
    (s.cloche.state ≠ .boot → s.cloche.penFault = false →
      Completes .penReadbackFail s fun t => t.cloche.penFault = true ∧ t.ctl.permission = false)

/-- Clears of the Cloche and its clock faults. SO_FAULT_CLEAR starts its test in HALT and the test's end answers it;
PEN_CLEAR ends the PEN fault; a clock fault withdraws the permission and raises CLOCK; its end shows. Rules of its
rows: R377, R380, R390. Readings of the model: log entries 53, 54. -/
def Obligations.SafetyClearsComplete : Prop := ∀ s : State,
    (∀ (k : Fin 8) req, May s req safetyOnly → s.ctl.mode = .halt → (s.sout k).clearTest = none →
      Completes (.soFaultClear req k) s fun t =>
        (t.sout k).clearTest = some (req, (s.soHaltLevel k).getD false) ∧ Frame [.cloche] s t) ∧
    (∀ req, May s req safetyOnly → s.ctl.mode = .halt →
      Completes (.penClear req true) s fun t =>
        t.cloche.penFault = false ∧ t.cloche.penStuck = none ∧ t.regs = s.regs ∧ Answered req 0x8000 0x0C 0 t) ∧
    (∀ (k : Fin 8) req pulsed, (s.sout k).clearTest = some (req, pulsed) → s.present req = true →
      (Completes (.faultClearTestDone k true) s fun t =>
        (t.sout k).fault = false ∧ (t.sout k).clearTest = none ∧
          (pulsed = true → t.reg (0x8020 + k) 0x21 = satU 32 (s.reg (0x8020 + k) 0x21 + 1)) ∧
          KeepsRegs [(0x8020 + k, 0x21)] s t ∧ Answered req (0x8020 + k) 0x22 0 t) ∧
      (Completes (.faultClearTestDone k false) s fun t =>
        (t.sout k).fault = (s.sout k).fault ∧ (t.sout k).clearTest = none ∧ t.regs = s.regs ∧
          Answered req (0x8020 + k) 0x22 0x0C93 t)) ∧
    (s.cloche.clockFault = false →
      (Completes .clockMonitorFault s fun t =>
        t.cloche.clockFault = true ∧ t.ctl.permission = false ∧ HaltCause.clock ∈ t.ctl.causes) ∧
      (Completes .coldFrameClocheWdt s fun t =>
        t.cloche.clockFault = true ∧ t.ctl.permission = false ∧ HaltCause.clock ∈ t.ctl.causes)) ∧
    (s.cloche.clockFault = true → Completes .clockMonitorReturn s fun t => t.cloche.clockFault = false ∧
        t.regs = s.regs)

/-- Safe frames and their watchdog. A sent frame advances its sequence and the wire's; a received pair of equal copies
is taken, unequal copies withdraw the permission; an expired watchdog raises SAFE_FRAME, but for the instant at which
the copies already differed. Rules of its rows: R391, R393, R394. Readings of the model: log entry 55. -/
def Obligations.SafeFramesComplete : Prop := ∀ s : State,
    (∀ c : Fin 4, s.reg (0x8030 + c) 0x01 = 1 → s.ctl.mode ≠ .dormant →
      Completes (.safeFrameTx c) s fun t =>
        t.reg (0x8030 + c) 0x20 = ((nextSeq (BitVec.ofInt 32 (s.reg (0x8030 + c) 0x20))).toNat : Int) ∧
          t.net.seqOut = (s.net.seqOut + 1) % 65536 ∧
          KeepsRegs ((0x8030 + c.val, 0x20) :: (0x1A60, 0x06) :: ringRegs 10 ++ eventRegs) s t) ∧
    (∀ (h : EthHeader) (pdu : Bytes) (c q : Nat), c < 8 → q = beNat (slice pdu 4 4) →
      (s.screen h).1 = true → s.ctl.mode ≠ .dormant → s.cloche.state ≠ .updatePause → pdu.length = 28 →
      s.rxEnabled c = true → s.regN (0x8040 + c) 0x02 = beNat (slice pdu 0 2) →
      beNat (s.regB (0x8040 + c) 0x03) = h.src → slice pdu 2 1 = [0x01#8] →
      beNat (slice pdu 24 4) = (crc32c (slice pdu 0 24)).toNat → s.rxFollows c q = true →
      (vget (s.srx c).held (1 - h.port.val) none = none →
        Completes (.safeFrameRx h pdu) s fun t => vget (t.srx c).held h.port.val none = some (q, pdu)) ∧
      (vget (s.srx c).held (1 - h.port.val) none = some (q, pdu) →
        Completes (.safeFrameRx h pdu) s fun t =>
          (t.srx c).lastSeq = some q ∧ (t.srx c).good = true ∧ (t.srx c).fault = false ∧ (t.srx c).mismatch = none) ∧
      (∀ other, vget (s.srx c).held (1 - h.port.val) none = some (q, other) → other ≠ pdu →
        Completes (.safeFrameRx h pdu) s fun t =>
          (t.srx c).mismatch = some s.now ∧ (t.srx c).good = false ∧ t.ctl.permission = false)) ∧
    (∀ c : Fin 8, s.rxEnabled c = true → s.ctl.mode ≠ .dormant → s.cloche.state ≠ .updatePause →
      (s.srx c).fault = false → (s.srx c).mismatch ≠ some s.now →
      Completes (.safeWatchdogExpiry c) s fun t =>
        (t.srx c).fault = true ∧ (t.srx c).good = false ∧ t.ctl.permission = false ∧ HaltCause.safeFrame ∈ t.ctl.causes)

/-- Faults and configuration of the Cloche. A fault of each kind 1 to 5 and its core's watchdog put the Cloche in
FAULT; an accepted configuration write stores the value and is answered with success. Rules of its rows: R377, R396,
R400. Readings of the model: log entry 54. -/
def Obligations.ClocheFaultsAndConfigurationComplete : Prop := ∀ s : State,
    (s.cloche.fault = false →
      (∀ kind : Fin 6, kind ≠ 0 →
        Completes (.clocheFault kind) s fun t => t.cloche.fault = true ∧ t.cloche.state = .fault) ∧
      (Completes .clocheCoreWdt s fun t => t.cloche.fault = true ∧ t.cloche.state = .fault)) ∧
    (∀ req i k v r, May s req safetyOnly → State.clocheConfig i k = true → Dict.hasEntry i = true →
      Dict.find i k = some r → r.acc = .rw ∨ r.acc = .wo → windowless req r.ty = false → typeOk r v = true →
      rangeOk r.rng v = true → (0x8010 ≤ i → i ≤ 0x8017 → k = 2 → numOf v % 10 = 0) → dwh s.ctl.mode = true →
      (((s.putV i k v).clocheBad.all fun b => s.clocheBad.contains b) = true) →
      Completes (.clocheConfigWrite req i k v) s fun t =>
        storeGet t.regs (Dict.key i k) = v ∧ Answered req i k 0 t)

/-- Update of the Cloche's firmware. An accepted start loads the staged image; ABORT, the switch, the arrival in
RUNNING, the fall-back and an abandon move UPDATE_STATE as the chapter says and change no other entry of theirs. Rules
of its rows: R397, R398. Readings of the model: log entry 56. -/
def Obligations.ClocheUpdateCompletes : Prop := ∀ s : State,
    (∀ req, May s req safetyOnly → s.clocheMoment = true → s.stageState = 3 → s.graft.verified = some 3 →
      s.reg 0x8060 0x02 ≠ 1 → s.reg 0x8060 0x02 ≠ 2 →
      Completes (.clocheUpdateStart req) s fun t =>
        t.cloche.updateAt = some s.now ∧ t.root.loaded = some (pairImage s.graft.stage) ∧ t.reg 0x8060 0x02 = 1 ∧
          KeepsRegs ([(0x8060, 0x02)] ++ eventRegs) s t ∧ Answered req 0x8060 0x01 0 t) ∧
    (∀ req at0, May s req safetyOnly → s.cloche.updateAt = some at0 →
      Completes (.clocheUpdateAbort req) s fun t =>
        t.cloche.updateAt = none ∧ t.reg 0x8060 0x02 = 5 ∧ KeepsRegs ([(0x8060, 0x02)] ++ eventRegs) s t ∧
          Answered req 0x8060 0x01 0 t) ∧
    (∀ at0, s.cloche.updateAt = some at0 → s.clocheMoment = true → s.cloche.state = .running →
      Completes .clocheUpdateSwitch s fun t =>
        t.cloche.updateAt = none ∧ t.cloche.pauseAt = some s.now ∧ t.cloche.state = .updatePause ∧
          t.cloche.bank = !s.cloche.bank ∧ t.reg 0x8060 0x04 = ((!s.cloche.bank).toNat : Int) ∧ t.reg 0x8060 0x02 = 2 ∧
          KeepsRegs ([(0x8060, 0x02), (0x8060, 0x04)] ++ eventRegs) s t) ∧
    (∀ at0, s.cloche.pauseAt = some at0 →
      (Completes .clocheRunningReached s fun t =>
        t.cloche.state = .running ∧ t.cloche.pauseAt = none ∧ t.reg 0x8060 0x02 = 3 ∧
          t.reg 0x8060 0x03 = wholeUs (sdiff s.now at0) ∧
          (∀ i, s.root.loaded = some i → t.root.cloche = some i ∧ t.root.loaded = none)) ∧
      (Completes .clocheUpdateFallback s fun t =>
        t.cloche.state = .running ∧ t.cloche.pauseAt = none ∧ t.cloche.bank = !s.cloche.bank ∧ t.root.loaded = none ∧
          t.reg 0x8060 0x02 = 4 ∧ t.reg 0x8060 0x03 = wholeUs (sdiff s.now at0) ∧
          bitOf (t.regN 0x8000 0x04) 4 = true ∧
          KeepsRegs ([(0x8000, 0x04), (0x8060, 0x02), (0x8060, 0x03), (0x8060, 0x04)] ++ eventRegs) s t)) ∧
    (∀ at0, s.cloche.updateAt = some at0 →
      Completes .clocheUpdateAbandon s fun t =>
        t.cloche.updateAt = none ∧ t.root.loaded = none ∧ t.reg 0x8060 0x02 = 5 ∧
          KeepsRegs ([(0x8060, 0x02)] ++ eventRegs) s t)

/-- PTP messages. A SYNC of the port's master, one that ranks ahead of the device's own dataset, gives the offset; an
ANNOUNCE gives the port a master; a peer-delay request is answered by its two messages; a response gives the mean
delay and clears the request; the device's own messages leave. Rules of its rows: R417, R420, R421. Readings of the
model: log entries 20, 25, 57. -/
def Obligations.PtpMessagesComplete : Prop := ∀ (p : Fin 2) (s : State), s.netLive p = true →
    (∀ stamp origin, (s.portMaster p).isSome = true →
      Completes (.ptpSyncRx p (s.regN 0x1401 0x01) stamp origin) s fun t =>
        (t.ptpPort p).offset = s.taiCounts (later stamp (-(s.rxDelay p : Int))) - (origin + (s.ptpPort p).meanDelay * 256)) ∧
    (∀ m : MasterInfo, (s.ptpPort p).master = none →
      Completes (.ptpAnnounceRx p (s.regN 0x1401 0x01) m) s fun t =>
        (t.ptpPort p).master = some ⟨m.priority1, m.clockClass, m.accuracy, m.variance, m.priority2, m.identity,
            m.stepsRemoved⟩) ∧
    (∀ stamp, Completes (.ptpPdelayRx p .request stamp) s fun t =>
        t.time.ports = s.time.ports ∧
          t.sent.take 2 = [.frame p 0x88F7 (s.regN 0x1401 0x06) none 10 [((later s.now (s.txDelay p)).toNat : Int)] [],
            .frame p 0x88F7 (s.regN 0x1401 0x06) none 3 [((later stamp (-(s.rxDelay p : Int))).toNat : Int)] []] ∧
          KeepsRegs ((0x1501 + p.val, 0x21) :: (0x1A60, 0x06) :: ringRegs 8 ++ eventRegs) s t) ∧
    (∀ stamp turnaround sentAt d, (s.ptpPort p).reqAt = some sentAt →
      d = (max 0 (roundDiv (sdiff (later stamp (-(s.rxDelay p : Int))) sentAt - 256 * turnaround) 512)).toNat →
      Completes (.ptpPdelayRx p (.response turnaround) stamp) s fun t =>
        (t.ptpPort p).meanDelay = d ∧ (t.ptpPort p).reqAt = none ∧ t.reg 0x1402 (0x05 + p) = satU 32 d ∧
          KeepsRegs ((0x1402, 0x05 + p.val) :: (0x1501 + p.val, 0x21) :: (0x1A60, 0x06) :: ringRegs 8 ++ eventRegs) s t) ∧
    (s.portState p = 6 →
      Completes (.ptpMasterTx p) s fun t =>
        t.time.ptpSeq = s.time.ptpSeq + 1 ∧ t.sent.length = s.sent.length + 3 ∧ t.regs = s.regs) ∧
    (Completes (.ptpPdelayReqTx p) s fun t =>
        (t.ptpPort p).reqAt ≠ none ∧ t.regs = s.regs ∧ t.sent.length = s.sent.length + 1)

/-- Time sources. PPS and PTP sources are lost and found by their rows; TIME_SET and TIME_SOURCE take the accepted
value; the reference and LREFCLK inputs are lost and return. Rules of its rows: R415, R416, R417, R419, R433. Readings
of the model: log entries 26, 57. -/
def Obligations.TimeSourcesComplete : Prop := ∀ s : State,
    (∀ stamp, s.reg 0x1400 0x04 = 2 → Completes (.ppsInEdge stamp) s fun t => t.time.ppsLost = false) ∧
    (∀ p : Fin 2, Completes (.timeSourceLost (.ptp p)) s fun t => (t.ptpPort p).master = none) ∧
    (s.reg 0x1400 0x04 = 2 → s.time.ppsLost = false →
      Completes (.timeSourceLost .pps) s fun t => t.time.ppsLost = true) ∧
    (∀ req value, May s req engineers → windowless req .time80 = false → t80Ok value = true → s.reg 0x1400 0x04 ≠ 1 →
      s.timeState ≠ 4 → s.time.lockedAt ≠ some s.now →
      Completes (.timeSet req value) s fun t =>
        t.regT 0x1400 0x06 = s.now ∧ t.reg 0x1400 0x07 = value ∧ t.reg 0x1400 0x08 = 1 ∧
          KeepsRegs [(0x1400, 0x06), (0x1400, 0x07), (0x1400, 0x08)] s t ∧ Answered req 0x1400 0x09 0 t) ∧
    (∀ req (value : Nat), May s req engineers → value ≤ 2 → dwh s.ctl.mode = true → s.reg 0x1700 0x20 = 0 →
      Completes (.timeSourceWrite req value) s fun t =>
        t.reg 0x1400 0x04 = value ∧ (value = 0 → t.timeState = 0) ∧ Answered req 0x1400 0x04 0 t) ∧
    (s.time.ref10m = true → Completes .ref10mLoss s fun t => t.time.ref10m = false ∧
      KeepsRegs ([(0x1400, 0x11)] ++ eventRegs) s t) ∧
    (s.time.ref10m = false → Completes .ref10mReturn s fun t => t.time.ref10m = true) ∧
    (s.time.lref = true → Completes .lrefclkLoss s fun t => t.time.lref = false) ∧
    (s.time.lref = false → Completes .lrefclkReturn s fun t => t.time.lref = true)

/-- Timed outputs, captures, clock updates and the aligner. ARM arms an output as its entries say; an edge ends a
pulse or begins and counts the next; a capture records the corrected stamp and counts; an accepted clock update is
applied at the strobe if the cadences allow; the aligner's lock is counted. Rules of its rows: R423, R424, R426, R429,
R430. Readings of the model: log entries 58, 59, 101. -/
def Obligations.TimedPinsAndClocksComplete : Prop := ∀ s : State,
    (∀ (o : Fin 5) req, May s req engineers → s.armCheck o = 0 →
      Completes (.timedOutputArm req o) s fun t =>
        (t.tout o).armed = decide (s.regN (0x1410 + o) 0x01 ≠ 0) ∧ (t.tout o).width = s.regN (0x1410 + o) 0x04 ∧
          t.reg (0x1410 + o) 0x07 = (if s.regN (0x1410 + o) 0x01 = 0 then 0 else 1) ∧
          KeepsRegs [(0x1410 + o, 0x07), (0x1410 + o, 0x08)] s t ∧ Answered req (0x1410 + o) 0x06 0 t) ∧
    (∀ o : Fin 5, (s.tout o).active = true →
      Completes (.timedOutputEdge o) s fun t => (t.tout o).active = false ∧ (t.tout o).armed = (s.tout o).armed ∧
        KeepsRegs [(0x1410 + o, 0x07)] s t) ∧
    (∀ o : Fin 5, (s.tout o).active = false → (s.tout o).armed = true → (s.tout o).mode ≠ 3 ∨ s.mapValid = true →
      Completes (.timedOutputEdge o) s fun t =>
        (t.tout o).active = true ∧ (t.tout o).armed = decide ((s.tout o).mode ≠ 1) ∧ t.reg (0x1410 + o) 0x07 = 2 ∧
          t.reg (0x1410 + o) 0x09 = satU 64 (s.reg (0x1410 + o) 0x09 + 1) ∧
          KeepsRegs [(0x1410 + o, 0x07), (0x1410 + o, 0x08), (0x1410 + o, 0x09)] s t) ∧
    (∀ (n : Fin 4) rising stamp, bitOf (s.regN (0x1420 + n) 0x01) (if rising then 0 else 1) = true →
      (∀ e, (vget s.time.caps n ⟨none, []⟩).lastEdge = some e → (5120 : Int) ≤ sdiff stamp e) →
      Completes (.timeCapture n rising stamp) s fun t =>
        t.regT (0x1420 + n) 0x04 = later stamp (-(s.reg (0x1420 + n) 0x02)) ∧
          t.reg (0x1420 + n) 0x03 = ((nextSeq (BitVec.ofInt 32 (s.reg (0x1420 + n) 0x03))).toNat : Int) ∧
          KeepsRegs [(0x1420 + n, 0x03), (0x1420 + n, 0x04), (0x1420 + n, 0x05)] s t) ∧
    (∀ req, May s req engineers → s.time.update = none → s.clockCode s.clockCopy = 0 →
      Completes (.clockUpdateRequest req) s fun t =>
        t.time.update = some s.clockCopy ∧ t.time.updateBy = some req ∧ t.reg 0x1220 0x09 = 1 ∧ t.reg 0x1220 0x0A = 0 ∧
          KeepsRegs [(0x1220, 0x09), (0x1220, 0x0A)] s t ∧ Answered req 0x1220 0x07 0 t) ∧
    (∀ c, s.swapDue = false → s.time.update = some c →
      Completes .clockUpdateStrobe s fun t => t.time.update = none ∧ t.reg 0x1220 0x0A = s.cadenceCode c ∧
        (s.cadenceCode c = 0 → t.reg 0x1220 0x09 = 2 ∧ t.reg 0x1220 0x08 = c.coreDiv ∧
          (∀ k < 4, t.cfg 0x1210 (0x02 + k) = c.cadence.getD k 0)) ∧
        (s.cadenceCode c ≠ 0 → t.reg 0x1220 0x09 = 3 ∧ t.active = s.active ∧
          KeepsRegs ([(0x1220, 0x09), (0x1220, 0x0A)] ++ eventRegs) s t)) ∧
    (s.time.aligner = true →
      Completes .alignerLockLoss s fun t =>
        t.time.aligner = false ∧ t.reg 0x1238 0x03 = satU 32 (s.reg 0x1238 0x03 + 1) ∧
          KeepsRegs ([(0x1400, 0x11), (0x1238, 0x03)] ++ eventRegs) s t) ∧
    (s.time.aligner = false →
      Completes .alignerRelock s fun t => t.time.aligner = true ∧ KeepsRegs ([(0x1238, 0x02)] ++ eventRegs) s t)

/-- Harvest: commands, arming and frames. ARM fills the group's units from empty; a TRIGGER triggers a READY unit, is
counted by a FILLING one and changes no other; ABORT empties the unit; an accepted ARM_AT is stored and acts at its
instant; ticks count towards the frame interval, a stream copy advances within the duty of CAPTURE, and the Runner's
messages arm and fire. Rules of its rows: R443, R447, R448, R450, R452. Readings of the model: log entry 60. -/
def Obligations.HarvestCommandsComplete : Prop := ∀ (u : Fin 4) (s : State),
    (∀ req, May s req harvestWriters → s.ctl.mode ≠ .dormant → s.harvestArmCheck u = 0 →
      Completes (.harvestArm req u) s fun t =>
        (∀ v ∈ s.harvestArmSet u, (t.hunit v).state = .filling ∧ (t.hunit v).frames = [] ∧
            t.reg (0x9020 + v) 0x06 = 0) ∧
          Answered req (0x9020 + u) 0x02 0 t) ∧
    (∀ req, May s req harvestWriters →
      Completes (.harvestTriggerCmd req u) s fun t =>
        ((s.hunit u).state = .filling → (t.hunit u).ignored = (s.hunit u).ignored + 1 ∧ (t.hunit u).state = .filling) ∧
        ((s.hunit u).state = .ready → (t.hunit u).trigAt = some s.now ∧
          ((t.hunit u).state = .triggered ∨ (t.hunit u).state = .done)) ∧
        ((s.hunit u).state ≠ .filling → (s.hunit u).state ≠ .ready → t.harvest = s.harvest ∧ t.regs = s.regs) ∧
        Answered req (0x9020 + u) 0x02 0 t) ∧
    (∀ req, May s req harvestWriters → (s.hunit u).state ≠ .idle →
      Completes (.harvestAbort req u) s fun t =>
        (t.hunit u).state = .idle ∧ (t.hunit u).frames = [] ∧ (t.hunit u).seq = (s.hunit u).seq ∧
          t.reg (0x9020 + u) 0x01 = 0 ∧ KeepsRegs [(0x9020 + u, 0x01)] s t ∧ Answered req (0x9020 + u) 0x02 0 t) ∧
    (∀ req value, May s req engineers →
      value = 0#64 ∨ (s.hbusy u = false ∧ (s.hunit u).armAt = none ∧ s.reg 0x1700 0x20 = 0 ∧
          s.cfg (0x9000 + u) 0x0E = 1 ∧
        (s.cfg (0x9000 + u) 0x0D = 1 → s.harvestGroup.head? = some u.val) ∧ 2560000 ≤ sdiff value s.now ∧
        sdiff value s.now ≤ 256000000000) →
      Completes (.armAtWrite req u value) s fun t =>
        (t.hunit u).armAt = (if value = 0#64 then none else some value) ∧ t.regT (0x9020 + u) 0x03 = value ∧
          KeepsRegs [(0x9020 + u, 0x03)] s t ∧ Answered req (0x9020 + u) 0x03 0 t) ∧
    (∀ at0, (s.hunit u).armAt = some at0 →
      Completes (.armAtInstant u) s fun t => (t.hunit u).armAt = none ∧ t.reg (0x9020 + u) 0x03 = 0 ∧
        (s.ctl.mode ≠ .dormant → s.hbusy u = false → ∀ v ∈ s.harvestArmSet u, (t.hunit v).state = .filling)) ∧
    (s.hbusy u = true →
      Completes (.harvestFrame u) s fun t => (t.hunit u).accN =
        (if s.hsetN u 0x06 ≤ (s.hunit u).accN + 1 then 0 else (s.hunit u).accN + 1)) ∧
    (s.duty 4 ≠ 0 → s.hset u 0x0F = 1 → (s.hunit u).state = .done → s.ringFill 11 < s.ringSize 11 →
      (s.hunit u).streamNext < (s.recordBytes u).length →
      Completes (.streamCopy u) s fun t => (s.hunit u).streamNext < (t.hunit u).streamNext) ∧
    (∀ f, s.duty 4 ≠ 0 → s.hset u 0x0F = 2 →
      (s.hunit u).frames.reverse[(s.hunit u).streamNext - (s.hwritten u - (s.hunit u).frames.length)]? = some f →
      s.ringFill 11 + (f.2.length + 47) / 48 ≤ s.ringSize 11 → 0 < s.ringSize 11 →
      Completes (.streamCopy u) s fun t => (s.hunit u).streamNext < (t.hunit u).streamNext) ∧
    (∀ t0 : BitVec 64, s.cfg (0x9000 + u) 0x0E = 1 → s.cfg (0x9000 + u) 0x01 = 1 → s.cfg (0x9000 + u) 0x0D ≠ 1 →
      Completes (.harvestArmMsg t0) s fun t => (t.hunit u).armAt = some (s.fromArray t0) ∧ Frame [.harvest] s t) ∧
    (∀ t0 : BitVec 64, s.hset u 0x0E = 1 → (s.hunit u).state = .ready →
      Completes (.harvestFireMsg t0) s fun t =>
        (t.hunit u).trigAt = some (s.fromArray t0) ∧ ((t.hunit u).state = .triggered ∨ (t.hunit u).state = .done))

/-- Received frames of the station network. A frame that passes the screen reaches its function: an SV frame's count
and a GOOSE frame's numbers are kept, supervision keeps its node, ARP and ICMP echo of the own address take the wire's
next sequence number; discarded frames are counted or their instant noted. Rules of its rows: R462, R469, R471, R478.
Readings of the model: log entries 21, 23, 24, 62, 97. -/
def Obligations.StationFramesComplete : Prop := ∀ (s : State) (h : EthHeader),
    (∀ f a n, (s.receive h).1 = true → s.ctl.mode ≠ .dormant → f.secured = false → f.asdus = [a] →
      s.svMatch h f = some n → s.cfgN (0x1510 + n) 0x06 = f.confRev → (vget s.net.svs n ⟨none, none⟩).lastCnt = none →
      Completes (.svFrameRx h f) s fun t => (vget t.net.svs n ⟨none, none⟩).lastCnt = some a.smpCnt) ∧
    (∀ (f : GooseFrame) (n : Nat), n < 32 → (s.receive h).1 = true → s.ctl.mode ≠ .dormant →
      (∀ m < n, s.cfg (0x1560 + m) 0x01 ≠ 1) → s.cfg (0x1560 + n) 0x01 = 1 →
      beNat (s.cfgB (0x1560 + n) 0x02) = h.dst → s.cfgN (0x1560 + n) 0x03 = f.appid →
      s.cfgB (0x1560 + n) 0x04 = f.gocbRef → State.macMatches (s.cfgB (0x1560 + n) 0x06) h.src = true →
      s.cfgN (0x1560 + n) 0x05 = f.confRev → (f.sim = false ∨ s.cfg (0x1560 + n) 0x07 = 1) →
      (vget s.net.subs n ⟨none, 0#64⟩).last ≠ some (f.stNum, f.sqNum) →
      Completes (.gooseFrameRx h f) s fun t => (vget t.net.subs n ⟨none, 0#64⟩).last = some (f.stNum, f.sqNum)) ∧
    ((s.screen h).1 = true →
      (Completes (.prpSupervisionRx h) s fun t => ∃ n ∈ t.net.nodes, n.mac = h.src ∧ n.heard = s.now ∧
        (h.port = 0 → n.supA = true) ∧ (h.port = 1 → n.supB = true)) ∧
      (Completes (.ethFrameDiscard h .unsupported) s fun t => t.reg 0x1500 0x20 = satU 32 (s.reg 0x1500 0x20 + 1)) ∧
      (∀ k, Completes (.ethFrameDiscard h (.poolFull k)) s fun t =>
        t.reg (0x1501 + h.port.val) (0x22 + k.val) = satU 32 (s.reg (0x1501 + h.port.val) (0x22 + k.val) + 1)) ∧
      (∀ why, why = .pause ∨ why = .screened →
        Completes (.ethFrameDiscard h why) s fun t => vget t.net.lastRx h.port none = some h.stamp)) ∧
    (∀ senderIp, (s.receive h).1 = true →
      Completes (.arpRequest h (s.regN 0x1500 0x02) senderIp) s fun t => t.net.seqOut = (s.net.seqOut + 1) % 65536) ∧
    (∀ srcIp data, (s.receive h).1 = true →
      Completes (.icmpEcho h (s.regN 0x1500 0x02) srcIp data) s fun t => t.net.seqOut = (s.net.seqOut + 1) % 65536)

/-- Timers, publications and tables of the station network. Link changes, silent LANs and lost streams show; a
publication starts, repeats and doubles its interval; FW_WORD is written; entries and nodes are forgotten. Rules of
its rows: R460, R468, R469, R474, R476, R477, R479. Readings of the model: log entries 61, 62, 63. -/
def Obligations.StationTimersAndPublicationsComplete : Prop := ∀ s : State,
    (∀ (p : Fin 2) speed full link, (link = if full = true ∧ s.regN (0x1501 + p) 0x01 ≠ 0 ∧
        (speed = 1000 ∨ (speed = 100 ∧ s.regN (0x1501 + p) 0x01 = 2)) then (if speed = 100 then 1 else 2) else 0) →
      s.reg (0x1501 + p) 0x20 ≠ link →
      Completes (.netLinkChange p speed full) s fun t =>
        t.reg (0x1501 + p) 0x20 = link ∧ KeepsRegs ([(0x1501 + p.val, 0x20), (0x1501 + p.val,
            0x27)] ++ eventRegs) s t) ∧
    (∀ n : Fin 16, s.reg (0x1510 + n) 0x20 = 2 → Completes (.svStreamLost n) s fun t => t.reg (0x1510 + n) 0x20 = 1) ∧
    (∀ n : Fin 32, s.reg (0x1560 + n) 0x20 = 2 →
      Completes (.gooseTalExpiry n) s fun t =>
        t.reg (0x1560 + n) 0x20 = 1 ∧ KeepsRegs ([(0x1560 + n.val, 0x20)] ++ eventRegs) s t) ∧
    (Completes .gooseEvaluation s fun t => ∀ p : Fin 16, s.pubRuns p = true →
      (vget s.net.pubs p ⟨false, [], 0⟩).started = false →
      (vget t.net.pubs p ⟨false, [], 0⟩).started = true ∧ t.reg (0x1540 + p) 0x21 = 1 ∧ t.reg (0x1540 + p) 0x22 = 0) ∧
    (∀ p : Fin 16, s.pubRuns p = true → (vget s.net.pubs p ⟨false, [], 0⟩).started = true →
      Completes (.gooseRepeat p) s fun t =>
        (vget t.net.pubs p ⟨false, [], 0⟩).interval =
            min (2 * (vget s.net.pubs p ⟨false, [], 0⟩).interval) (s.cfgN (0x1540 + p) 0x0C) ∧
          t.reg (0x1540 + p) 0x22 = (if s.reg (0x1540 + p) 0x22 = 0xFFFFFFFF then 1 else s.reg (0x1540 + p) 0x22 + 1) ∧
          KeepsRegs [(0x1540 + p, 0x22)] s t) ∧
    (∀ (p : Fin 16) (data : Bytes) req, May s req engineers → data.length = 64 → windowless req .domain = false →
      (∀ k < 16, slice data (4 * k) 4 = slice (s.regB (0x1540 + p) 0x20) (4 * k) 4 ∨
        ((State.gooseMembers (s.cfgB (0x1540 + p) 0x09)).any fun m => decide (m.1 = 0xF000 + k)) = true) →
      Completes (.fwWordWrite req p data) s fun t =>
        t.regB (0x1540 + p) 0x20 = data ∧ KeepsRegs [(0x1540 + p, 0x20)] s t ∧ Answered req (0x1540 + p) 0x20 0 t) ∧
    (Completes .prpSupervisionTx s fun t => t.net.seqOut = (s.net.seqOut + 1) % 65536 ∧ t.regs = s.regs) ∧
    (∀ p : Fin 2, s.reg (0x1501 + p) 0x21 ≠ 1 →
      Completes (.lanSilent p) s fun t =>
        t.reg (0x1501 + p) 0x21 = 1 ∧ KeepsRegs ([(0x1501 + p.val, 0x21)] ++ eventRegs) s t) ∧
    (∀ mac seq, Completes (.prpEntryForget mac seq) s fun t =>
        (∀ n ∈ t.net.nodes, n.mac = mac → ∀ e ∈ n.window, e.1 ≠ seq) ∧ KeepsRegs [(0x1503, 0x22)] s t) ∧
    (∀ mac, Completes (.prpNodeForget mac) s fun t =>
        (∀ n, n ∈ t.net.nodes ↔ n ∈ s.net.nodes ∧ n.mac ≠ mac) ∧ t.reg 0x1503 0x22 = t.net.nodes.length ∧
          KeepsRegs [(0x1503, 0x22)] s t)

/-- Packets of an open session. A packet of an open session that passes its checks is answered and its answer is kept;
READ changes nothing, a one-part WRITE has the effect of the dictionary write, its answer kept, or
waiting where the write is answered later; SUBSCRIBE adds one subscription,
UNSUBSCRIBE takes one, KEEPALIVE notes the instant, CLOSE ends the session. Rules of its rows: R499, R502, R503, R506.
Readings of the model: log entries 64, 66, 67. -/
def Obligations.SessionPacketsComplete : Prop := ∀ (s : State) (h : XdpHead), XdpPasses h s →
    (∀ r, Completes (.xdpRead h r) s fun t => XdpAnswered h t ∧ t.regs = s.regs ∧ t.active = s.active) ∧
    (∀ (w : WriteReq) row r, w.offset = 0 → w.total = w.data.length →
      r = ((s.taken h).modSession h.session fun x => { x with staged := none }) →
      r.rowOf (.session h.session) w.index w.sub = .ok row →
      Completes (.xdpWrite h w) s fun t =>
        ∃ u, exec (.dictWrite (.session h.session) w.index w.sub 0 (State.wireValue false row w.type w.data)) r = .next u ∧
          Frame [.sessions, .sent] u t ∧
          ((u.session h.session).state = .open → (t.session h.session).state = .open ∧
            (((t.session h.session).kept.head?.map fun x => x.reqId) = some h.reqId ∨
              ∃ q ∈ (t.session h.session).waiting, q.reqId = h.reqId ∧ q.index = w.index ∧ q.sub = w.sub) ∧
            ∀ code, r.sent.length < u.sent.length → Answered (.session h.session) w.index w.sub code u →
              ((t.session h.session).kept.head?.map fun x => x.reqId) = some h.reqId)) ∧
    (∀ r row v, (s.taken h).dictRead (.session h.session) r.index r.sub = .ok (row, v) → r.kind = 1 ∨ r.kind = 2 →
      1 ≤ r.interval → r.interval ≤ 60000 → (s.session h.session).subs.length < 32 →
      Completes (.xdpSubscribe h r) s fun t => XdpAnswered h t ∧ t.regs = s.regs ∧
        ∃ x, t.subscription h.session (State.freeNumber (s.session h.session).subs) = some x ∧
          x.index = r.index ∧ x.sub = r.sub ∧ x.kind = r.kind ∧ x.interval = r.interval) ∧
    (∀ number, Completes (.xdpUnsubscribe h number) s fun t =>
        XdpAnswered h t ∧ t.subscription h.session number = none ∧ t.regs = s.regs) ∧
    (Completes (.xdpKeepalive h) s fun t => XdpAnswered h t ∧ t.regs = s.regs ∧
        (t.session h.session).latestPacket = s.now) ∧
    (Completes (.xdpClose h) s fun t => (t.session h.session).state = .free ∧ t.sent.length = s.sent.length + 1 ∧
        t.regs = s.regs)

/-- Opening and ending of sessions. A first HELLO opens a session and keeps its chain; a right PROVE opens it for its
role and a wrong one ends it and is counted; timeouts, expiries and malformed packets end, free or count what they
name; a notification advances its sequence; Q0's oldest request is answered through Q1. Rules of its rows: R499, R501,
R502, R505, R506, R518. Readings of the model: log entries 65, 67. -/
def Obligations.SessionLifeCompletes : Prop := ∀ s : State,
    (∀ (h : HelloMsg) n r, s.helloSession h = none → s.sessionsIn .free = n :: r → (s.sessionsIn .opening).length < 2 →
      1 ≤ h.total → h.total ≤ 8192 → h.offset = 0 → h.part.length < h.total →
      Completes (.xdpHello h) s fun t =>
        (t.session n).state = .opening ∧ (t.session n).chain = h.part ∧ (t.session n).clientNonce = h.nonce ∧
          (t.session n).psnIn = h.psn ∧ t.regs = s.regs ∧ t.sent = s.sent) ∧
    (∀ (h : XdpHead) signature, (s.session h.session).state = .opening → (s.session h.session).deviceNonce ≠ [] →
      (s.session h.session).psnIn < h.psn →
      Completes (.xdpProve h signature) s fun t =>
        (Config.verifies (s.session h.session).leafKey ((s.session h.session).deviceNonce ++
            (s.session h.session).clientNonce ++ toBe 2 (h.session.val + 1 : Nat)) signature = true →
          (t.session h.session).state = .open ∧ (t.session h.session).role = (s.session h.session).role ∧
            (t.session h.session).timeout = s.regN 0x1504 0x01 ∧ t.reg 0x1102 (h.session.val + 1) = 0 ∧
            KeepsRegs [(0x1102, h.session.val + 1)] s t) ∧
        (Config.verifies (s.session h.session).leafKey ((s.session h.session).deviceNonce ++
            (s.session h.session).clientNonce ++ toBe 2 (h.session.val + 1 : Nat)) signature = false →
          (t.session h.session).state = .free ∧ t.reg 0x1504 0x03 = satU 32 (s.reg 0x1504 0x03 + 1) ∧
            KeepsRegs [(0x1504, 0x03)] s t)) ∧
    (∀ n : Fin 16, (s.session n).state = .opening → (s.session n).deviceNonce ≠ [] →
      Completes (.xdpProveTimeout n) s fun t => (t.session n).state = .free ∧
        t.reg 0x1504 0x03 = satU 32 (s.reg 0x1504 0x03 + 1) ∧ KeepsRegs [(0x1504, 0x03)] s t) ∧
    (Completes .xdpMalformed s fun t =>
        t.reg 0x1504 0x05 = satU 32 (s.reg 0x1504 0x05 + 1) ∧ KeepsRegs [(0x1504, 0x05)] s t) ∧
    (∀ n : Fin 16, Completes (.xdpSessionTimeout n) s fun t =>
        (t.session n).state = .free ∧ (∀ m, m ≠ n.val → t.session m = s.session m)) ∧
    (∀ id, (∀ n : Fin 16, Completes (.xdpSnapshotExpiry (some n) id) s fun t => ∀ x ∈ (t.session n).snaps, x.id ≠ id) ∧
      (Completes (.xdpSnapshotExpiry none id) s fun t => ∀ x ∈ t.coreReq.snaps, x.id ≠ id)) ∧
    (∀ n : Fin 16, Completes (.xdpStagedWriteTimeout (some n)) s fun t => (t.session n).staged = none) ∧
    (Completes (.xdpStagedWriteTimeout none) s fun t => t.coreReq.staged = none) ∧
    (∀ (n : Fin 16) number x row v, (s.session n).state = .open → s.subscription n number = some x → x.kind = 2 →
      s.dictRead (.session n) x.index x.sub = .ok (row, v) →
      Completes (.xdpNotify n number) s fun t => (t.session n).notifySeq = nextSeq (s.session n).notifySeq ∧
        (t.subscription n number).map (fun y => (y.index, y.sub, y.kind)) = some (x.index, x.sub, x.kind)) ∧
    (∀ e r, (s.ring 0).entries = e :: r → (s.ring 0).held = [] →
      s.ringFill 1 + s.coreReq.waiting.length < s.ringSize 1 → e.kind ≠ 1 →
      leNat (slice e.data 2 1) = 0x10 →
      Completes .dictServiceTake s fun t => (t.ring 0).entries = r ∧
          (t.ring 1).entries.length = (s.ring 1).entries.length + 1 ∧
        t.coreReq.outstanding = s.coreReq.outstanding - 1)

/-- POST, RELEASE, ENTRIES and CLASS of the rings. An accepted POST appends its slots in order, a RELEASE takes the
oldest and moves HEAD, ENTRIES lays the rings out again, a user ring takes its CLASS. Rules of its rows: R517, R519.
Readings of the model: log entries 12, 70. -/
def Obligations.RingCommandsComplete : Prop := ∀ (q : Fin 32) (req : Requester) (s : State),
    (∀ slots, May s req engineers → standbyCore s req q = false → q ≠ 0 → slots ≠ [] → coreProduced q = true →
      s.ringFill q + slots.length ≤ s.ringSize q →
      Completes (.ringPost req q slots) s fun t =>
        (t.ring q).entries = (s.ring q).entries ++ slots.map (fun b => ⟨0, [], b, s.now⟩) ∧
          KeepsRegs [(0x1A20 + q, 0x28)] s t ∧ Answered req (0x1A20 + q) 0x23 0 t) ∧
    (∀ slot, May s req engineers → standbyCore s req 0 = false → s.ringFill 0 < s.ringSize 0 →
        s.coreReq.outstanding < 16 →
      Completes (.ringPost req 0 [slot]) s fun t =>
        (t.ring 0).entries = (s.ring 0).entries ++ [⟨0, [], slot, s.now⟩] ∧
          t.coreReq.outstanding = s.coreReq.outstanding + 1 ∧ Answered req 0x1A20 0x23 0 t) ∧
    (∀ n : Nat, May s req engineers → standbyCore s req q = false → 0 < n → n < 2 ^ 16 → coreConsumed q = true →
      n ≤ (s.ring q).entries.length → (s.ring q).held = [] →
      Completes (.ringRelease req q n) s fun t =>
        (t.ring q).entries = (s.ring q).entries.drop n ∧ (t.ring q).head = ((s.ring q).head + n) % s.ringSize q ∧
          t.regs = s.regs ∧ Answered req (0x1A20 + q) 0x24 0 t) ∧
    (∀ n : Nat, May s req engineers → sizeOk n = true → s.ctl.mode = .dormant → (s.ring q).entries = [] →
      (s.ring q).reserved = 0 → ringSum s q n ≤ 8192 →
      Completes (.ringEntriesWrite req q false n) s fun t =>
        t.ringSize q = n ∧ (t.ring q).head = 0 ∧ Answered req (0x1A20 + q) 0x01 0 t) ∧
    (∀ c : Nat, May s req engineers → userRing q = true → c ≤ 2 → s.ctl.mode = .dormant →
      (s.ring q).entries = [] → (s.ring q).reserved = 0 →
      Completes (.ringEntriesWrite req q true c) s fun t =>
        t.reg (0x1A20 + q) 0x02 = c ∧ KeepsRegs [(0x1A20 + q, 0x02)] s t ∧ Answered req (0x1A20 + q) 0x02 0 t)

/-- Watchdogs, core resets and breaches. A kick of a core's own moves its pair's watchdog; expiry restarts the pair or
starts the grace of a warm reset; CORE_RESET and a crash restart the pair; a drain breach and a timed-out transaction
are counted. Rules of its rows: R514, R515, R516, R525, R527. Readings of the model: log entry 70. -/
def Obligations.CoreCommandsComplete : Prop := ∀ s : State,
    (∀ (c : Fin 4) req, req = .queue c ∨ req = .window c →
      Completes (.wdtKick req) s fun t =>
        vget t.cores.kicks (c.val / 2) 0#64 = s.now ∧ t.regs = s.regs ∧ Answered req 0x1A00 0x05 0 t) ∧
    (∀ pair : Fin 2, Completes (.coreWdtHalf pair) s fun t => t.sent = .irq (2 * pair.val) 45 :: s.sent ∧
        t.regs = s.regs) ∧
    (∀ pair : Fin 2, s.rst.reach = 0 →
      (s.reg 0x1A00 0x04 = 1 → s.rst.grace = [] →
        Completes (.coreWdtExpiry pair) s fun t => t.rst.grace = [6] ∧ t.ctl.permission = false) ∧
      (s.reg 0x1A00 0x04 ≠ 1 →
        Completes (.coreWdtExpiry pair) s fun t => pair.val ∈ t.cores.restarting ∧
          t.reg 0x1A00 0x07 = satU 32 (s.reg 0x1A00 0x07 + 1) ∧ t.regT 0x1A00 0x08 = s.now) ∧
      (∀ req, May s req engineers →
        Completes (.coreResetCmd req pair) s fun t => pair.val ∈ t.cores.restarting ∧
          t.reg 0x1A00 0x07 = satU 32 (s.reg 0x1A00 0x07 + 1) ∧ t.regT 0x1A00 0x08 = s.now ∧
              Answered req 0x1A00 0x06 0 t) ∧
      (Completes (.coreCrash pair) s fun t => pair.val ∈ t.cores.restarting ∧
          t.reg 0x1A00 0x07 = satU 32 (s.reg 0x1A00 0x07 + 1) ∧ t.regT 0x1A00 0x08 = s.now)) ∧
    (∀ pair : Fin 2, pair.val ∈ s.cores.restarting →
      Completes (.coreRestartDone pair) s fun t => pair.val ∉ t.cores.restarting ∧
        vget t.cores.kicks pair 0#64 = s.now ∧ KeepsRegs [(0x1A00, 0x02)] s t) ∧
    (∀ (q : Fin 32) e r, (s.ring q).entries = e :: r → q ≠ 3 →
      Completes (.drainBreach q) s fun t => t.reg (0x1A20 + q) 0x27 = satU 32 (s.reg (0x1A20 + q) 0x27 + 1) ∧
        t.reg 0x1A60 0x01 = satU 32 (s.reg 0x1A60 0x01 + 1) ∧ (t.ring q).entries = (s.ring q).entries) ∧
    (∀ x, Completes (.transactionTimeout x 3) s fun t => t.reg 0x1A60 0x04 = satU 32 (s.reg 0x1A60 0x04 + 1) ∧
        (∀ c i k, x = .window c i k → (vget t.win c .clear).status = 0x0501) ∧
        (∀ c i k, x = .request c i k → t.sent.head? = some (.response (.queue c) i k 0x0501)))

/-- Retrains, lock and loopback of a serial lane. RELOCK and FULL start their retrains under their conditions; the end
of a FULL retrain shows lock, or DOWN without lock or without the gate lane's chain; a lost lock is counted and starts
a relock, and on a gate lane is flagged; LOOPBACK takes its value, and 0
leads to a FULL retrain. Rules of its rows: R538, R539, R540, R545. Readings of the model: log entry 71. -/
def Obligations.SerialLaneCommandsComplete : Prop := ∀ (l : Fin 16) (s : State),
    (∀ req, May s req engineers → (s.slane l).retrain = none →
      Completes (.relock req l) s fun t =>
        (t.slane l).retrain = some 1 ∧ t.reg (0x1600 + l) 0x22 = 0 ∧ KeepsRegs [(0x1600 + l, 0x22)] s t ∧
          Answered req (0x1600 + l) 0x26 0 t) ∧
    (∀ req, May s req engineers → (s.slane l).retrain = none →
      8 ≤ l.val ∨ s.ctl.mode = .watch ∨ s.ctl.mode = .halt ∨ (s.ctl.mode = .form ∧ s.gateLaneIdle l = true) →
      (8 ≤ l.val → l.val < 14 → s.inArray = true →
        s.reg (0x1600 + State.otherLane l) 0x22 ≠ 0 ∨ s.reg 0x1700 0x21 = 3) →
      Completes (.fullRetrain req l) s fun t => (t.slane l).retrain = some 2 ∧ t.reg (0x1600 + l) 0x22 = 0 ∧
          (l.val < 8 → (t.lane l).chain = some ⟨3, 3, s.laneNodes l⟩ ∧ (t.lane l).inhibit = true) ∧ Answered req (0x1600 + l) 0x26 0 t) ∧
    ((s.slane l).retrain = some 2 →
      (∀ ok, ok = (decide (8 ≤ l.val) || s.chainThrough l) → Completes (.fullRetrainDone l true) s fun t =>
        (t.slane l).retrain = none ∧ (t.slane l).down = !ok ∧ (ok = true → t.reg (0x1600 + l) 0x22 = 1)) ∧
      (Completes (.fullRetrainDone l false) s fun t => (t.slane l).retrain = none ∧ (t.slane l).down = true)) ∧
    (Completes (.laneLockLoss l) s fun t =>
        t.reg (0x1600 + l) 0x22 = 0 ∧ t.reg (0x1600 + l) 0x2C = satU 32 (s.reg (0x1600 + l) 0x2C + 1) ∧
          (t.slane l).retrain = some ((s.slane l).retrain.getD 1) ∧
          (l.val < 8 → bitOf (t.regN (State.laneEntry l) 0x2A) 4 = true) ∧
          KeepsRegs ([(0x1600 + l.val, 0x22), (0x1600 + l.val, 0x2C), (0x1600 + l.val, 0x2F)] ++
            (if l.val < 8 then [(State.laneEntry l, 0x2A)] else []) ++ eventRegs) s t) ∧
    (∀ offset : BitVec 32, Completes (.laneLockAcquired l offset) s fun t =>
        t.reg (0x1600 + l) 0x22 = 1 ∧ t.reg (0x1600 + l) 0x23 = offset.toInt ∧ (t.slane l).retrain ≠ some 1 ∧
          KeepsRegs ([(0x1600 + l.val, 0x22), (0x1600 + l.val, 0x23)] ++ eventRegs) s t) ∧
    (∀ req (value : Nat), May s req engineers → 1 ≤ value → value ≤ 3 → s.ctl.mode = .watch ∨ s.ctl.mode = .halt →
      (8 ≤ l.val → l.val < 14 → s.inArray = false) →
      Completes (.loopbackWrite req l value) s fun t =>
        t.reg (0x1600 + l) 0x08 = value ∧ (l.val < 8 → (t.lane l).inhibit = true ∧ (t.lane l).noData = true) ∧
          Answered req (0x1600 + l) 0x08 0 t) ∧
    (∀ req, May s req engineers → s.ctl.mode = .watch ∨ s.ctl.mode = .halt → s.reg (0x1600 + l) 0x08 ≠ 0 →
      Completes (.loopbackWrite req l 0) s fun t =>
        t.reg (0x1600 + l) 0x08 = 0 ∧ (t.slane l).retrain = some 2 ∧ Answered req (0x1600 + l) 0x08 0 t)

/-- Injection, windows and checks of a serial lane. INJECT adds its count; a BER window ends with its sums; the
pattern checker synchronises; code errors and bad Runner frames are counted; a Runner message seen for the first time
is forwarded once, unless it ends here or is 8 hops old; a test frame counts the bits and errors of its lanes. Rules
of its rows: R542, R543, R544, R556. Readings of the model: log entry 72. -/
def Obligations.LaneTestsComplete : Prop := ∀ (l : Fin 16) (s : State),
    (∀ req (value : Nat), May s req engineers → 1 ≤ value → value ≤ 255 → s.patternRuns l = true →
      Completes (.inject req l value) s fun t =>
        (t.slane l).injectLeft = (s.slane l).injectLeft + value ∧ t.regs = s.regs ∧
            Answered req (0x1600 + l) 0x27 0 t) ∧
    (∀ bits errs, s.reg (0x1600 + l) 0x08 ≠ 1 → s.reg (0x1600 + l) 0x08 ≠ 2 →
      Completes (.berWindowEnd l bits errs) s fun t =>
        (t.slane l).winBits = 0 ∧ (t.slane l).winErrs = 0 ∧
          t.reg (0x1600 + l) 0x28 = satU 64 (s.reg (0x1600 + l) 0x28 + bits) ∧
          t.reg (0x1600 + l) 0x29 = satU 64 (s.reg (0x1600 + l) 0x29 + errs)) ∧
    (∀ bits errs,
      Completes (.patternCheckerSync l false bits errs) s fun t => (t.slane l).synced = true) ∧
    (Completes (.codeError l) s fun t =>
        t.reg (0x1600 + l) 0x2B = satU 32 (s.reg (0x1600 + l) 0x2B + 1) ∧ KeepsRegs [(0x1600 + l.val, 0x2B),
            (0x1600 + l.val, 0x2F)] s t) ∧
    (∀ (port : Fin 3) heads, s.inArray = false →
      (Completes (.laneFrameRx port false false none heads) s fun t =>
        t.reg 0x1700 0x29 = satU 32 (s.reg 0x1700 0x29 + 1) ∧ KeepsRegs [(0x1700, 0x29)] s t) ∧
      (Completes (.laneFrameRx port true true none heads) s fun t => t = s)) ∧
    (∀ (port : Fin 3) okA okB (m : RunnerHead), (okA || okB) = true → s.inArray = true →
      s.runner.seen.contains (m.src, m.seq) = false →
      Completes (.laneFrameRx port okA okB none [m]) s fun t =>
        (m.src, m.seq) ∈ t.runner.seen ∧ t.regs = s.regs ∧
          (m.dst ≠ s.position → m.src ≠ s.position → m.hops + 1 < 8 →
            t.sent = .runner m.dst (0x100 + m.type) [(m.src : Int), (m.seq : Int), ((m.hops + 1 : Nat) : Int)] :: s.sent) ∧
          (m.dst = s.position ∨ m.src = s.position ∨ 8 ≤ m.hops + 1 → t.sent = s.sent)) ∧
    (∀ (port : Fin 3) okA okB a b heads, s.patternRuns (8 + 2 * port.val) = true →
      Completes (.laneFrameRx port okA okB (some (a, b)) heads) s fun t =>
        t.reg (0x1600 + (8 + 2 * port.val)) 0x28 = satU 64 (s.reg (0x1600 + (8 + 2 * port.val)) 0x28 + 2048) ∧
          t.reg (0x1600 + (8 + 2 * port.val)) 0x29 = satU 64 (s.reg (0x1600 + (8 + 2 * port.val)) 0x29 + a))

/-- FORM, DISSOLVE, RESET, LEAVE and ADMIT. At position 0 FORM marks the expected positions and starts the joining,
DISSOLVE and a member's LEAVE make the device alone, ARRAY_RESET starts a warm grace here, ADMIT sends the beds and
the beat to a waiting position, which is a member from that beat; a join timeout ends the joining. Rules of its rows:
R555, R564, R567, R568. Readings of the model: log entries 73 to 76. -/
def Obligations.ArrayCommandsComplete : Prop := ∀ s : State,
    (∀ req, May s req engineers →
      (s.position = 0 → s.arrayState = 0 → s.reg 0x1700 0x01 = 1 → s.ctl.mode = .watch ∨ s.ctl.mode = .halt →
        Completes (.arrayForm req) s fun t =>
          t.reg 0x1700 0x22 = 1 ∧ t.reg 0x1700 0x23 = 1 ∧ t.memberState 0 = 2 ∧
            (∀ p ∈ positions (s.regN 0x1700 0x02), p ≠ 0 → t.memberState p = 1 ∧ t.arrayState = 1 ∧
              t.runner.joinAt = some (later s.now (ms (s.regN 0x1700 0x05) : Nat))) ∧
            ((∀ p ∈ positions (s.regN 0x1700 0x02), p = 0) → t.arrayState = 2) ∧ Answered req 0x1700 0x06 0 t) ∧
      (s.position = 0 → s.arrayState ≠ 0 →
        Completes (.arrayDissolve req) s fun t =>
          t.arrayState = 0 ∧ t.arrayMembers = 0 ∧ (∀ p < 8, t.memberState p = 0) ∧ t.runner.origins = [] ∧
            Answered req 0x1700 0x06 0 t) ∧
      (s.position = 0 → s.arrayState ≠ 0 →
        Completes (.arrayResetCmd req) s fun t =>
          t.runner.reform = true ∧ (s.rst.reach = 0 → 7 ∈ t.rst.grace) ∧ Answered req 0x1700 0x06 0 t) ∧
      (s.position ≠ 0 → s.arrayState ≠ 0 → s.ctl.mode = .watch ∨ s.ctl.mode = .halt →
        Completes (.arrayLeave req) s fun t =>
          t.arrayState = 0 ∧ t.arrayMembers = 0 ∧ t.runner.origins = [] ∧ Answered req 0x1700 0x06 0 t) ∧
      (∀ (p : Fin 8) identity revision, s.position = 0 → s.arrayState ≠ 0 →
        (s.runner.waiting.find? fun w => decide (w.1 = p.val)) = some (p.val, identity, revision) →
        s.joinFits p identity revision = true → s.joinsWait = false →
        Completes (.arrayAdmitCmd req p) s fun t =>
          t.memberState p = 1 ∧ t.reg (0x1710 + p.val) 0x02 = identity ∧ t.reg (0x1710 + p.val) 0x03 = revision ∧
            (p.val, s.beatFrom (later s.now (us 100 : Nat)), 0) ∈ t.runner.admits ∧
            (∀ w ∈ t.runner.waiting, w.1 ≠ p.val) ∧ Answered req 0x1700 0x06 0 t)) ∧
    (∀ (p : Fin 8) (beat : ST64) m, s.position = 0 → s.arrayState ≠ 0 → s.runner.admits = [(p.val, beat, m)] →
      (0 ≤ sdiff s.now beat → s.takeAdmissions.memberState p = 2 ∧
        s.takeAdmissions.arrayMembers = withBit s.arrayMembers p true ∧
        s.takeAdmissions.regT (0x1710 + p.val) 0x05 = beat ∧ s.takeAdmissions.runner.admits = []) ∧
      (sdiff s.now beat < 0 → s.takeAdmissions = s)) ∧
    (s.runner.joining = true →
      Completes .joinTimeout s fun t =>
        t.runner.joining = false ∧ t.runner.joinAt = none ∧ bitOf (t.regN 0x1700 0x2B) 0 = true) ∧
    (s.runner.joining = false → s.position = 0 →
      (s.arrayState = 1 → Completes .joinTimeout s fun t => t.arrayState = (if s.arrayMembers = 1 then 0 else 3)) ∧
      (s.arrayState ≠ 1 → Completes .joinTimeout s fun t => t.runner.waiting = []))

/-- Ports, echoes and time of the Runner. A port that goes down or comes up shows with its link, is counted, and is
healed at position 0 or reported by a member; a partition is counted and leads to DEGRADED at a member; lost time
leads to HOLDOVER; echoes leave and measure the delay; TIME gives the offset once, the error and the STEER of position
0 every time, and leaves with that STEER; a share report leaves with the capacitor codes and the health of its slots.
Rules of its rows: R555, R557, R558, R559, R565. Readings of the model: log entries 11, 18, 73. -/
def Obligations.RunnerPortsComplete : Prop := ∀ (port : Fin 3) (s : State),
    (∀ links, links = withBit (s.regN 0x1700 0x24) (s.linkBit port (s.regN (0x1701 + port.val) 0x02 % 8)) false →
      Completes (.runnerPortDown port) s fun t =>
        vget t.runner.portUp port false = false ∧ t.reg (0x1701 + port.val) 0x02 = 0xFF ∧
          t.reg (0x1701 + port.val) 0x04 = satU 32 (s.reg (0x1701 + port.val) 0x04 + 1) ∧ t.regN 0x1700 0x24 = links ∧
          (s.arrayState = 2 ∨ s.arrayState = 3 →
            (s.position = 0 → t.reg 0x1700 0x25 = satU 32 (s.reg 0x1700 0x25 + 1) ∧ t.arrayState = 3) ∧
            (s.position ≠ 0 → t.sent.head? = some (.runner 0 0x04 [(s.arrayMembers : Int), s.reg 0x1700 0x23,
              (s.arrayState : Int), (links : Int), s.reg 0x1700 0x25])))) ∧
    (∀ (neighbour : Fin 8) formed links, links = withBit (s.regN 0x1700 0x24) (s.linkBit port neighbour) true →
      Completes (.runnerPortUp port neighbour formed) s fun t =>
        vget t.runner.portUp port false = true ∧ t.reg (0x1701 + port.val) 0x02 = neighbour.val ∧
          t.regN 0x1700 0x24 = links ∧
          (s.position ≠ 0 → s.arrayState ≠ 0 → t.sent.head? = some (.runner 0 0x04 [(s.arrayMembers : Int),
            s.reg 0x1700 0x23, (s.arrayState : Int), (links : Int), s.reg 0x1700 0x25]))) ∧
    (∀ duration, s.position ≠ 0 → s.arrayState ≠ 0 →
      Completes (.runnerPartition duration) s fun t =>
        t.reg 0x1A60 0x05 = satU 32 (s.reg 0x1A60 0x05 + 1) ∧ t.arrayState = 3 ∧
          bitOf (t.regN 0x1700 0x2B) 3 = true) ∧
    (∀ duration, Completes (.runnerPartition duration) s fun t =>
      t.reg 0x1A60 0x05 = satU 32 (s.reg 0x1A60 0x05 + 1)) ∧
    (s.timeState = 4 → Completes .runnerTimeLoss s fun t => t.timeState = 3 ∧ t.regT 0x1400 0x0F = s.now) ∧
    (vget s.runner.portUp port false = true →
      Completes (.runnerEchoTx port) s fun t =>
        t.sent = .runner port 0x02 [(s.now.toNat : Int)] :: s.sent ∧ t.regs = s.regs) ∧
    (∀ t0 arrival steer, (s.runner.joining = true ∨ s.inArray = true) → s.position ≠ 0 →
      Completes (.runnerTimeRx port t0 arrival steer) s fun t =>
        t.runner.offsetFixed = true ∧
          (s.runner.offsetFixed = false → t.reg 0x1700 0x26 =
            roundDiv (sdiff (later t0 (s.reg (0x1701 + port.val) 0x03)) arrival) 320 * 320) ∧
          (s.runner.offsetFixed = true → t.reg 0x1700 0x26 = s.reg 0x1700 0x26) ∧
          t.reg 0x1700 0x27 = satS 32 (sdiff (t.toArray arrival) (later t0 (s.reg (0x1701 + port.val) 0x03))) ∧
          t.runner.masterSteer = steer.toInt) ∧
    (∀ echoed turnaround, Completes (.runnerEchoRx port echoed turnaround) s fun t =>
      t.sent = .runner port 0x03 [(echoed.toNat : Int), (turnaround : Int)] :: s.sent ∧ t.regs = s.regs) ∧
    (∀ echoed arrival turnaround, Completes (.runnerEchoReplyRx port echoed arrival turnaround) s fun t =>
      t.reg (0x1701 + port.val) 0x03 = satU 32 (roundDiv (sdiff arrival echoed - turnaround) 2) ∧
        KeepsRegs [(0x1701 + port.val, 0x03)] s t) ∧
    (∀ steer, steer = (if s.position = 0 then s.reg 0x1400 0x0B else s.runner.masterSteer) → s.inArray = true →
      Completes .runnerTimeTx s fun t =>
        t.sent = (if vget s.runner.portUp 1 false then [.runner 1 0x01 [((s.toArray s.now).toNat : Int), steer]] else []) ++
          (if vget s.runner.portUp 0 false then [.runner 0 0x01 [((s.toArray s.now).toNat : Int), steer]] else []) ++
          s.sent ∧ t.regs = s.regs) ∧
    (∀ (a : Fin 6) (member : Fin 4), s.cfg (0x6300 + a.val) 0x01 = 1 → s.cfgN (0x6300 + a.val) 0x06 < 16 →
      Completes (.shareReportTx a member) s fun t =>
        (∃ (health : Nat) (codes : List Int), codes.length = 64 ∧ t.sent = .runner 0xFE 0x20
          ([s.cfg (0x6300 + a.val) 0x06, (member.val : Int), ((s.toArray s.now).toNat : Int),
              (health : Int)] ++ codes) ::
          s.sent ∧
          ∀ k : Fin 64,
            (∀ x, ((s.armPairs a).find? fun x => decide (x.2.2 = k.val)) = some x →
              codes[k.val]? = some (s.pairVcap x.1 x.2.1 : Int) ∧ bitOf health k = s.pairHealthy x.1 x.2.1) ∧
            (((s.armPairs a).find? fun x => decide (x.2.2 = k.val)) = none →
              codes[k.val]? = some 0 ∧ bitOf health k = false)) ∧ t.regs = s.regs)

/-- Messages of the array. A member takes the TOPOLOGY and the master merges a member's links and counts a stranger's
report; ARRAY_HALT and its clear keep the origins and the cause; ARRAY_RESET starts a grace or ends a joining; a JOIN
is refused, waits or is admitted; BED_DATA is gathered and a complete bed kept; ADMIT waits for its beat and then
installs both beds; USER goes to Q17; SAMPLES are
shared. Rules of its rows: R557, R560, R564, R565, R568. Readings of the model: log entries 11, 18, 73 to 75. -/
def Obligations.ArrayMessagesComplete : Prop := ∀ (p : Fin 8) (s : State),
    (∀ mem reach state links epoch, s.position ≠ 0 → s.arrayState ≠ 0 →
      Completes (.topologyRx p mem reach state links epoch) s fun t =>
        t.arrayState = (if state = 0 then 0 else if state = 3 then 3 else 2) ∧
          (state ≠ 0 → t.arrayMembers = mem ∧ t.regN 0x1700 0x23 = reach ∧ t.regN 0x1700 0x24 = links ∧
            t.regN 0x1700 0x25 = epoch)) ∧
    (∀ mem reach state links epoch, s.position = 0 → s.arrayState = 2 ∨ s.arrayState = 3 →
      Completes (.topologyRx p mem reach state links epoch) s fun t =>
        (bitOf mem p = true → ∀ k < 16, bitOf (t.regN 0x1700 0x24) k =
          bitOf (if bitOf (s.ownLinks p) k then links else s.regN 0x1700 0x24) k) ∧
          (bitOf mem p = false → t.reg 0x1700 0x2A = satU 32 (s.reg 0x1700 0x2A + 1) ∧
            (p ≠ 0 → bitOf s.arrayMembers p = true → s.memberState p = 2 → t.memberState p = 3))) ∧
    (s.inArray = true →
      Completes (.arrayHaltRx p) s fun t => p.val ∈ t.runner.origins ∧ .array ∈ t.ctl.causes) ∧
    (Completes (.arrayClearRx p) s fun t =>
      p.val ∉ t.runner.origins ∧ (∀ o ∈ s.runner.origins, o ≠ p.val → o ∈ t.runner.origins) ∧
        ((∀ o ∈ s.runner.origins, o = p.val) → s.runner.masterLost = false → .array ∉ t.ctl.causes)) ∧
    (s.rst.reach = 0 → s.inArray = true → Completes .arrayResetRx s fun t => 7 ∈ t.rst.grace) ∧
    (s.inArray = false → s.runner.joining = true → Completes .arrayResetRx s fun t => t.runner.joining = false) ∧
    (∀ identity revision again, s.position = p.val → p ≠ 0 → s.runner.joining = true →
      Completes (.joinRx p identity revision again) s fun t =>
        t.runner.joining = false ∧ bitOf (t.regN 0x1700 0x2B) 4 = true) ∧
    (∀ identity revision, s.position = 0 → s.arrayState ≠ 0 → p ≠ 0 →
      (Completes (.joinRx p identity revision true) s fun t =>
        t.memberState p = 0 ∧ (∀ w ∈ t.runner.waiting, w.1 ≠ p.val)) ∧
      (s.joinFits p identity revision = true →
        (s.joinsWait = true ∨ (s.reg 0x1700 0x04 ≠ 1 ∧ s.arrayState ≠ 1) →
          Completes (.joinRx p identity revision false) s fun t =>
            t.memberState p = 1 ∧ (p.val, identity, revision) ∈ t.runner.waiting) ∧
        (s.joinsWait = false → s.reg 0x1700 0x04 = 1 ∨ s.arrayState = 1 →
          Completes (.joinRx p identity revision false) s fun t =>
            t.memberState p = 1 ∧ t.arrayMembers = s.arrayMembers ∧
              (p.val, s.beatFrom (later s.now (us 100 : Nat)), 0) ∈ t.runner.admits))) ∧
    (∀ total data, s.runner.joining = true → data.length < total →
      Completes (.bedDataRx 0 total data) s fun t =>
        t.runner.bed = data ∧ t.runner.bedTotal = total ∧ t.regs = s.regs) ∧
    (∀ data, s.runner.joining = true → data ≠ [] →
      Completes (.bedDataRx 0 data.length data) s fun t =>
        (s.imageCode data = 0 ∧ imgClass data = 1 →
          t.runner.bed = [] ∧ t.regs = s.regs ∧ t.runner.beds =
            s.runner.beds ++ [(bedOf ((imgRecords data).getD []), imgSlot data, imgRollback data)]) ∧
        (s.imageCode data ≠ 0 ∨ imgClass data ≠ 1 → t.runner.joining = false)) ∧
    (∀ beat mem, mem = withBit (if s.arrayState = 0 then 1 else s.arrayMembers) p true → s.position ≠ 0 →
      s.runner.admits = [] →
      (sdiff s.now (s.fromArray beat) < 0 →
        Completes (.admitRx p beat) s fun t =>
          t.runner.admits = [(p.val, s.fromArray beat, mem)] ∧ Frame [.runner] s t) ∧
      (∀ a b l, 0 ≤ sdiff s.now (s.fromArray beat) → s.runner.joining = true → s.position = p.val →
        s.ctl.mode = .watch → s.runner.beds = a :: b :: l → s.runner.offsetFixed = true →
        Completes (.admitRx p beat) s fun t =>
          t.runner.joining = false ∧ t.runner.beds = [] ∧ t.active = a.1 ∧ t.shadow = b.1 ∧ t.arrayState = 2 ∧
            t.arrayMembers = mem ∧ t.timeState = 4)) ∧
    (∀ port data, s.inArray = true → data ≠ [] → s.ringFill 17 + (data.length + 47) / 48 ≤ s.ringSize 17 →
      Completes (.userMsgRx port p data) s fun t =>
        (t.ring 17).entries.length + (t.ring 17).held.length =
          (s.ring 17).entries.length + (s.ring 17).held.length + (data.length + 47) / 48) ∧
    (∀ (t0 : BitVec 64) (first : Fin 64) (words : List (BitVec 32)), s.inArray = true →
        bitOf (s.regN 0x1700 0x23) p = true →
      Completes (.samplesRx p t0 first words) s fun t =>
        (∀ k w, words[k]? = some w → k < 54 → first.val + k < 64 →
          (p.val * 64 + first.val + k, w, s.fromArray t0) ∈ t.shared) ∧ t.regs = s.regs)

/-- Swaps over the array. A proposal is voted on, once the checks have duty, a vote is kept for its beat, a decision
commits or abandons the pending swap, the master decides from the votes, and no decision ends the swap and sends
ARRAY_HALT. Rules of its rows: R628, R629. Readings of the model: log entry 87. -/
def Obligations.ArrayGraftComplete : Prop := ∀ s : State,
    (∀ beat set, s.position ≠ 0 → s.arrayFormed = true → s.graftBusy = true →
      Completes (.graftProposeRx beat set) s fun t =>
        t.graft.voted = some 0x0C0D ∧ t.graft.swap = s.graft.swap ∧ t.regs = s.regs ∧
          t.sent = .runner 0 0x41 [(beat.toNat : Int), 0x0C0D] :: s.sent) ∧
    (∀ (beat : BitVec 64) set, s.position ≠ 0 → s.arrayFormed = true → s.graftBusy = false → s.duty 2 = 0 →
      Completes (.graftProposeRx beat set) s fun t =>
        t.graftState = 1 ∧ t.graft.swap = some ⟨s.fromArray beat, 3, true⟩ ∧ t.graft.proposedSet = set ∧
          t.sent = s.sent) ∧
    (∀ beat set, s.position ≠ 0 → s.arrayFormed = true → s.graftBusy = false → s.duty 2 ≠ 0 →
      Completes (.graftProposeRx beat set) s fun t =>
        ∃ code : Nat, t.graft.voted = some code ∧ t.graftState = (if code = 0 then 2 else 4) ∧
          t.sent.head? = some (.runner 0 0x41 [(beat.toNat : Int), (code : Int)])) ∧
    (∀ (p : Fin 8) (beat : BitVec 64) (code : Nat), s.position = 0 → s.joinsWait = true → s.graftState = 2 →
      s.fromArray beat = s.regT 0x1800 0x23 →
      Completes (.graftVoteRx p beat code) s fun t =>
        (p.val, code) ∈ t.graft.votes ∧ (∀ v ∈ t.graft.votes, v.1 = p.val → v.2 = code) ∧ Frame [.graft] s t) ∧
    (∀ (beat : BitVec 64) (code : Nat) w, s.graft.swap = some w → w.byArray = true → s.graft.decided = none →
      s.fromArray beat = w.beat →
      (Completes (.graftDecideRx beat true code) s fun t =>
        t.graft.decided = some true ∧ t.graft.swap = some w ∧ Frame [.graft] s t) ∧
      (Completes (.graftDecideRx beat false code) s fun t =>
        t.graft.decided = some false ∧ t.graft.swap = none ∧ t.graftState = 5 ∧ t.reg 0x1800 0x21 = code)) ∧
    (s.position = 0 → s.graft.decided = none → s.joinsWait = true → s.graftState = 2 →
      (s.voteCode = 0 → Completes .graftDecideTx s fun t =>
        t.graft.decided = some true ∧ t.graft.swap = s.graft.swap ∧
          t.sent = .runner 0xFF 0x42 [((s.toArray (s.regT 0x1800 0x23)).toNat : Int), 1] :: s.sent) ∧
      (s.voteCode ≠ 0 → Completes .graftDecideTx s fun t =>
        t.graft.decided = some false ∧ t.graft.swap = none ∧ t.graftState = 5 ∧ t.reg 0x1800 0x21 = s.voteCode)) ∧
    (∀ w, s.graft.swap = some w → w.byArray = true → s.graft.decided = none →
      Completes .graftNoDecision s fun t =>
        t.graft.swap = none ∧ t.graftState = 5 ∧ t.sent.head? = some (.runner 0xFF 0x50 [(s.position : Int)]))

/-- COPY, LOAD, SWAP, BACK, CANCEL and the swap's beat. COPY and LOAD fill the shadow bed; SWAP and BACK start the
checks for their beat, whose end or deadline gives PENDING or the refusal; at the beat the beds exchange, but for the
targets of bounded adaptation, or the swap is abandoned. Rules of its rows: R617, R621, R622, R623, R625, R627.
Readings of the model: log entries 85, 86. -/
def Obligations.GraftCommandsComplete : Prop := ∀ s : State,
    (∀ req, May s req engineers →
      (s.graftBusy = false →
        Completes (.graftCopy req) s fun t =>
          t.shadow = s.active ∧ t.active = s.active ∧ t.graft.shadowImage = none ∧ t.reg 0x1800 0x25 = 0 ∧
            t.reg 0x1800 0x28 = 0 ∧ KeepsRegs [(0x1800, 0x25), (0x1800, 0x28)] s t ∧ Answered req 0x1800 0x01 0 t) ∧
      (s.graftBusy = false → s.reg 0x1801 0x20 = 3 → s.graft.verified = some 1 →
        Completes (.graftLoad req) s fun t =>
          t.shadow = bedOf ((imgRecords s.graft.stage).getD []) ∧ t.active = s.active ∧
            t.graft.shadowImage = some (imgSlot s.graft.stage, imgRollback s.graft.stage) ∧ t.reg 0x1800 0x25 = 0 ∧
            t.reg 0x1800 0x28 = 1 ∧ KeepsRegs [(0x1800, 0x25), (0x1800, 0x28)] s t ∧ Answered req 0x1800 0x01 0 t) ∧
      (s.requestCheck false = 0 →
        Completes (.graftSwap req) s fun t =>
          t.graftState = 1 ∧ t.graft.swap = some ⟨s.beatFrom (s.regT 0x1800 0x02),
              (if s.arrayFormed = true then 3 else 1), false⟩ ∧
            t.regT 0x1800 0x23 = s.beatFrom (s.regT 0x1800 0x02) ∧ Answered req 0x1800 0x01 0 t) ∧
      (s.requestCheck true = 0 →
        Completes (.graftSwapBack req) s fun t =>
          t.graftState = 1 ∧ t.graft.swap = some ⟨s.beatFrom (s.regT 0x1800 0x02),
              (if s.arrayFormed = true then 3 else 2), false⟩ ∧
            t.regT 0x1800 0x23 = s.beatFrom (s.regT 0x1800 0x02) ∧ Answered req 0x1800 0x01 0 t) ∧
      (s.swapDue = false → s.graftBusy = true → s.graft.swap.isSome = true →
        Completes (.graftCancel req) s fun t =>
          t.graftState = 0 ∧ t.graft.swap = none ∧ t.reg 0x1800 0x21 = 0x0C0D ∧ Answered req 0x1800 0x01 0 t)) ∧
    (s.graftState = 1 → s.graft.swap.isSome = true →
      (s.duty 2 ≠ 0 → s.bedChecks.1 = 0 → Completes .swapChecksDone s fun t => t.graftState = 2) ∧
      (s.duty 2 ≠ 0 → s.bedChecks.1 ≠ 0 → Completes .swapChecksDone s fun t =>
        t.graftState = 4 ∧ t.graft.swap = none ∧ t.reg 0x1800 0x21 = s.bedChecks.1 ∧
            t.reg 0x1800 0x22 = s.bedChecks.2) ∧
      (∀ check : Fin 9, Completes (.swapCheckDeadline check) s fun t =>
        t.graftState = 4 ∧ t.graft.swap = none ∧ t.reg 0x1800 0x21 = 0x0C0D ∧ t.reg 0x1800 0x22 = check.val)) ∧
    (∀ w, s.graft.swap = some w → s.graftState = 2 →
      (w.kind = 3 → s.graft.decided ≠ some true → Completes .swapBeat s fun t =>
        t.graftState = 5 ∧ t.graft.swap = none ∧ t.active = s.active ∧ t.shadow = s.shadow) ∧
      (w.kind ≠ 3 ∨ s.graft.decided = some true → s.loopsCheck ≠ 0 ∨ s.remapCheck ≠ 0 ∨ s.graft.revoked = true →
        Completes .swapBeat s fun t =>
          t.graftState = 4 ∧ t.graft.swap = none ∧ t.active = s.active ∧ t.shadow = s.shadow) ∧
      (w.kind ≠ 3 ∨ s.graft.decided = some true → s.loopsCheck = 0 → s.remapCheck = 0 → s.graft.revoked = false →
        Completes .swapBeat s fun t =>
          t.active = s.keepTargets s.shadow ∧ t.shadow = s.active ∧ t.graft.swap = none ∧
            t.graft.activeImage = s.graft.shadowImage ∧ t.graft.shadowImage = s.graft.activeImage ∧
            t.reg 0x1800 0x21 = 0 ∧ t.reg 0x1800 0x22 = 0))

/-- Staging of images. CLEAR empties the stage, VERIFY starts and its end shows the image's code, data and chunks land
at their offset and forget the verification. Rules of its rows: R618, R619, R621. Readings of the model: log entry 88.
-/ def Obligations.StagingComplete : Prop := ∀ s : State, (∀ req, May s req engineers → Completes (.stageClear req) s
fun t => t.graft.stage = [] ∧ t.graft.verified = none ∧ t.stageState = 0 ∧ KeepsRegs [(0x1801, 0x20)] s t ∧ Answered
req 0x1801 0x03 0 t) ∧ (∀ req, May s req engineers → s.stageState ≠ 2 → Completes (.stageVerify req) s fun t =>
t.graft.stage = s.graft.stage ∧ t.graft.verified = none ∧ t.stageState = 2 ∧ KeepsRegs [(0x1801, 0x20)] s t ∧ Answered
req 0x1801 0x03 0 t) ∧ (∀ req data, May s req engineers → (∀ c, req ≠ .window c) → 1 ≤ data.length → data.length ≤
1024 → s.stageState ≠ 2 → s.regN 0x1801 0x01 + data.length ≤ State.stageSize → Completes (.stageDataWrite req data) s
fun t => t.graft.stage = slice s.graft.stage 0 (s.regN 0x1801 0x01) ++ data ++ s.graft.stage.drop (s.regN 0x1801 0x01
+ data.length) ∧ t.graft.verified = none ∧ t.stageState = 1 ∧ t.regN 0x1801 0x01 = s.regN 0x1801 0x01 + data.length ∧
KeepsRegs [(0x1801, 0x01), (0x1801, 0x20)] s t ∧ Answered req 0x1801 0x02 0 t) ∧ (∀ (firmware : Bool) e l,
s.stageState ≠ 2 → (s.ring (if firmware then 22 else 21)).entries = e :: l → 1 ≤ leNat (slice e.data 4 2) → leNat
(slice e.data 4 2) ≤ 56 → leNat (slice e.data 0 4) + leNat (slice e.data 4 2) ≤ State.stageSize → Completes
(.graftChunk firmware) s fun t => t.graft.stage = slice (if bitOf (leNat (slice e.data 6 1)) 0 then [] else
s.graft.stage) 0 (leNat (slice e.data 0 4)) ++ slice e.data 8 (leNat (slice e.data 4 2)) ++ (if bitOf (leNat (slice
e.data 6 1)) 0 then [] else s.graft.stage).drop (leNat (slice e.data 0 4) + (slice e.data 8 (leNat (slice e.data 4
2))).length) ∧ t.stageState = (if bitOf (leNat (slice e.data 6 1)) 1 then 2 else 1)) ∧ (s.stageState = 2 → s.duty 2 ≠
0 → Completes .stageVerifyDone s fun t => t.stageState = (if s.imageCode s.graft.stage = 0 then 3 else 4) ∧ t.reg
0x1801 0x21 = s.imageCode s.graft.stage ∧ t.graft.verified = (if s.imageCode s.graft.stage = 0 then some (imgClass
s.graft.stage) else none) ∧ KeepsRegs ([(0x1801, 0x20), (0x1801, 0x21)] ++ eventRegs) s t) /-- Hand-over of firmware
between the pairs. START_STANDBY releases the standby pair with the staged image; HANDOVER freezes at a beat; at the
switch beat the pairs change over if the firmware is frozen, else the hand-over is abandoned; COMMIT, BACK and STOP
end the states they name. Rules of its rows: R631. Readings of the model: log entries 89, 90. -/
def Obligations.FirmwareHandoverComplete : Prop := ∀ s : State,
    (∀ req, May s req engineers →
      (s.fwState = 0 → s.staged 2 = true →
        Completes (.fwStartStandby req) s fun t =>
          t.fwState = 1 ∧ t.pairState s.standbyPair = 2 ∧ t.reg 0x1803 0x21 = 0 ∧
            vget t.graft.images s.standbyPair none = some (pairImage s.graft.stage) ∧ Answered req 0x1803 0x01 0 t) ∧
      (s.fwState = 1 → s.reg 0x1803 0x03 = 1 →
        Completes (.fwHandoverCmd req) s fun t =>
          t.fwState = 2 ∧ t.graft.freezeAt = some (s.beatFrom (later s.now (us 100 : Nat))) ∧
              t.graft.freezeDone = false ∧
            t.graft.back = false ∧ t.reg 0x1803 0x21 = 0 ∧ Answered req 0x1803 0x01 0 t) ∧
      (s.fwState = 3 →
        Completes (.fwCommit req) s fun t =>
          t.fwState = 0 ∧ t.graft.switchedAt = none ∧ vget t.graft.images s.standbyPair none = none ∧
            (∀ i, vget s.graft.images s.activePair none = some i → t.rollbackOf 2 = max (s.rollbackOf 2) i.rollback) ∧
            t.reg 0x1803 0x21 = 0 ∧ Answered req 0x1803 0x01 0 t) ∧
      (s.fallbackOpen = true →
        Completes (.fwBack req) s fun t =>
          t.fwState = 2 ∧ t.graft.back = true ∧ t.graft.freezeAt = some (s.beatFrom (later s.now (us 100 : Nat))) ∧
            t.pairState s.standbyPair = 2 ∧ t.reg 0x1803 0x21 = 0 ∧ Answered req 0x1803 0x01 0 t) ∧
      (s.fwState = 1 →
        Completes (.fwStopStandby req) s fun t =>
          t.fwState = 0 ∧ t.pairState s.standbyPair = 0 ∧ vget t.graft.images s.standbyPair none = none ∧
            t.reg 0x1803 0x21 = 0 ∧ Answered req 0x1803 0x01 0 t)) ∧
    (∀ b1, s.swapDue = false → s.graft.freezeAt = some b1 → s.fwState = 2 → s.graft.freezeDone = false →
      Completes .fwFreezeBeat s fun t =>
        t.graft.freezeDone = true ∧ t.graft.handoverSeq = (nextSeq (BitVec.ofNat 32 s.graft.handoverSeq)).toNat ∧
          t.fwState = 2 ∧ KeepsRegs eventRegs s t) ∧
    (s.swapDue = false → s.fwState = 2 → s.graft.freezeDone = true →
      (s.reg 0x1803 0x04 = 1 ∨ s.graft.selfBack = true →
        Completes .fwSwitchBeat s fun t =>
          t.activePair = s.standbyPair ∧ t.fwState = (if s.graft.back = true then 0 else 3) ∧
            t.graft.switchedAt = (if s.graft.back = true then none else some s.now) ∧ t.graft.freezeAt = none ∧
            t.reg 0x1803 0x24 = satU 32 (s.reg 0x1803 0x24 + 1)) ∧
      (s.reg 0x1803 0x04 ≠ 1 → s.graft.selfBack = false →
        Completes .fwSwitchBeat s fun t =>
          t.activePair = s.activePair ∧ t.fwState = (if s.graft.back = true then 3 else 1) ∧ t.graft.freezeAt = none))

/-- Slots, fuses, keys and attestation. An accepted programming of a slot waits and its end gives ACTIVE or FAULT;
REVOKE and OWNER_LOCK blow their fuses; ROLLBACK_ADVANCE raises its counter; UNLOCK, RELOCK and JTAG move the debug
scope and draw a nonce; RECOVERY_START runs the staged firmware; OWNER_KEYS is stored; a nonce starts a report, whose
end shows its body and signature. Rules of its rows: R637, R639, R640, R642, R648, R651, R653, R654. Readings of the
model: log entries 3, 4, 22, 91. -/
def Obligations.RootstockCommandsComplete : Prop := ∀ (req : Requester) (s : State),
    (∀ (k : Fin 4) hash, May s req (rootWriters s true) → dwh s.ctl.mode = true → s.programming = false →
        s.keySlot k = 0 →
      hash.length = 32 →
      Completes (.slotProgram req k hash) s fun t =>
        t.root.program = some (k.val, hash, sessionNumber req) ∧ t.regs = s.regs ∧
            Answered req 0x1901 (1 + k.val) 0 t) ∧
    (∀ (k : Fin 4) hash session readback, s.root.program = some (k.val, hash, session) →
      Completes (.slotProgramDone readback) s fun t =>
        t.root.program = none ∧ t.keySlot k = (if readback = hash then 1 else 3) ∧
          (∀ j < 4, j ≠ k.val → t.keySlot j = s.keySlot j) ∧ t.regB 0x1901 (1 + k.val) = readback ∧
          t.reg 0x1900 0x01 = (if s.reg 0x1900 0x01 = 0 then 1 else s.reg 0x1900 0x01)) ∧
    (May s req (rootWriters s false) → s.programming = false →
      (dwh s.ctl.mode = true → s.regN 0x1901 0x08 ∈ s.activeSlots → s.rootSlot req ∈ s.activeSlots →
        s.rootSlot req ≠ s.regN 0x1901 0x08 →
        Completes (.keyRevoke req) s fun t =>
          t.keySlot (s.regN 0x1901 0x08) = 2 ∧ t.reg 0x1901 0x0A = 0 ∧ Answered req 0x1901 0x07 0 t) ∧
      (dwh s.ctl.mode = true → s.activeSlots ≠ [] →
        Completes (.ownerLock req) s fun t =>
          t.reg 0x1900 0x01 = 2 ∧ (s.reg 0x1900 0x01 ≠ 2 → t.reg 0x1900 0x09 = (s.root.token.getD 0 : Nat)) ∧
            t.reg 0x1901 0x0A = 0 ∧ Answered req 0x1901 0x07 0 t) ∧
      (∀ c limit, s.regN 0x1901 0x08 = c →
        (c = 1 ∧ limit = s.regN 0x1900 0x08) ∨ (c = 4 ∧ s.root.ext.map Prod.fst = some limit) →
        s.regN 0x1901 0x09 ≤ limit → s.rollbackOf c ≤ s.regN 0x1901 0x09 →
        Completes (.rollbackAdvance req) s fun t =>
          t.rollbackOf c = s.regN 0x1901 0x09 ∧ t.reg 0x1901 0x0A = 0 ∧
            KeepsRegs ([(0x1900, 2 + c), (0x1901, 0x0A)] ++ eventRegs) s t ∧ Answered req 0x1901 0x07 0 t) ∧
      (dwh s.ctl.mode = true → s.staged 5 = true →
        Completes (.debugUnlock req) s fun t =>
          (s.tokenOk s.graft.stage = true →
            t.root.token = some (imgField (imgPayload s.graft.stage) 32 1 % 4) ∧ t.reg 0x1901 0x0A = 0 ∧
              Answered req 0x1901 0x07 0 t) ∧
          (s.tokenOk s.graft.stage = false → t.root = s.root ∧ t.reg 0x1901 0x0A = 0x0C0E ∧
            Answered req 0x1901 0x07 0x0C0E t) ∧
          ∃ n, s.draws ≤ n ∧ t.draws = n + 1 ∧ t.regB 0x1900 0x0A = toBe 16 (Config.freeValue n)) ∧
      (dwh s.ctl.mode = true →
        Completes (.debugRelock req) s fun t =>
          t.root.token = none ∧ t.reg 0x1900 0x09 = (if s.reg 0x1900 0x01 = 2 then 0 else 3) ∧
            t.reg 0x1901 0x0A = 0 ∧ Answered req 0x1901 0x07 0 t) ∧
      (s.ctl.recoveryBoot = true → s.staged 2 = true →
        Completes (.recoveryStart req) s fun t =>
          t.activePair = 0 ∧ t.pairState 0 = 1 ∧ vget t.graft.images 0 none = some (pairImage s.graft.stage) ∧
            t.reg 0x1901 0x0A = 0 ∧ Answered req 0x1901 0x07 0 t)) ∧
    (∀ token, dwh s.ctl.mode = true →
      Completes (.jtagUnlock token) s fun t =>
        t.root = (if s.tokenOk token = true then
            { s.root with token := some (imgField (imgPayload token) 32 1 % 4) } else s.root) ∧
          ∃ n, s.draws ≤ n ∧ t.draws = n + 1 ∧ t.regB 0x1900 0x0A = toBe 16 (Config.freeValue n)) ∧
    (∀ data, May s req (rootWriters s false) → s.programming = false → data.length = 1552 →
      (∀ k < 4, ownerKeyOk s data k = true) →
      Completes (.ownerKeysWrite req data) s fun t =>
        t.regB 0x1901 0x05 = data ∧ KeepsRegs [(0x1901, 0x05)] s t ∧ Answered req 0x1901 0x05 0 t) ∧
    (∀ nonce, s.present req = true → (∀ c, req ≠ .window c) → (isCore req = true ∨ s.reg 0x1900 0x01 ≠ 0) →
      s.programming = false → s.root.nonce = none → nonce.length = 32 →
      Completes (.attestRequest req nonce) s fun t =>
        t.root.nonce = some nonce ∧ t.regs = s.regs ∧ Answered req 0x1901 0x0B 0 t) ∧
    (∀ nonce, s.root.nonce = some nonce →
      Completes .attestReportDone s fun t =>
        t.root.nonce = none ∧ t.reg 0x1902 0x01 = (nextSeq (BitVec.ofInt 32 (s.reg 0x1902 0x01))).toNat ∧
            t.reg 0x1902 0x02 = 1 ∧
          t.regB 0x1902 0x03 = reportBody s nonce ++ slice (Config.identitySign (Config.freeValue s.draws) (reportBody s nonce)) 0 384)

/-- The life ledger. A second of operation ages the ledger by the factor of its temperature and shows the hours; an
ageing measurement shows its margins and instant; a late one sets its flag. Rules of its rows: R677, R678. Readings of
the model: log entry 92. -/
def Obligations.LifeCommandsComplete : Prop := ∀ s : State,
    (Completes .ledgerTick s fun t =>
      t.root.powered = s.root.powered + 1 ∧ t.reg 0xF100 0x03 = satU 32 ((s.root.powered + 1) / 3600 : Nat) ∧
        (4096 ≤ s.regN 0xF100 0x08 → t.root.ledger = s.root.ledger ∧ t.regN 0xF100 0x08 = s.regN 0xF100 0x08) ∧
        (s.regN 0xF100 0x08 < 4096 → ∃ l, (l = s.root.ledger + ageingFactor (s.reg 0x1300 0x02) ∨
            l = s.root.ledger + ageingFactor (s.reg 0x1300 0x02) + 1) ∧
          t.root.ledger = (if l < ledgerStep then l else l - ledgerStep) ∧
          t.regN 0xF100 0x08 = (if l < ledgerStep then s.regN 0xF100 0x08 else s.regN 0xF100 0x08 + 1))) ∧
    (∀ margins, s.duty 0 ≠ 0 →
      Completes (.ageingMeasurement margins) s fun t =>
        t.regT 0xF100 0x06 = s.now ∧ t.reg 0xF100 0x07 = satU 32 (s.reg 0xF100 0x07 + 1) ∧
          t.regB 0xF100 0x04 = ((List.range 5).flatMap fun k => toLe 2 ((margins.getD k 0 % 65536 : Nat) : Int)) ∧
          t.root.above = ((List.range 5).filter fun k => decide (s.regN 0xF100 0x05 ≤ margins.getD k 0 % 65536))) ∧
    (Completes .measureLate s fun t => bitOf (t.regN 0xF100 0x09) 1 = true ∧ KeepsRegs [(0xF100, 0x09)] s t)

/-- Power, temperature, tasks and the budget. A measurement shows power and the hottest sensor and withdraws the
grants it must; a decision shows the soft budget; the thermal cause is raised; a user task is requested and released;
a budget the reservations allow is stored. Rules of its rows: R581, R582, R585, R588, R590. Readings of the model: log
entries 77, 78. -/
def Obligations.RotationComplete : Prop := ∀ s : State,
    (∀ power (sensors : List (Option Int)) a l, sensors.filterMap id = a :: l →
      Completes (.powerMeasurement power sensors) s fun t =>
        t.reg 0x1300 0x02 = l.foldl max a ∧ t.reg 0x1300 0x03 = max (s.reg 0x1300 0x03) (l.foldl max a) ∧
          (∀ p rails, power = some (p, rails) → t.reg 0x1300 0x01 = p ∧
            (s.reg 0x1301 0x01 < (p : Int) → ∀ k < 10, t.duty k = 0)) ∧
          (s.tjWithdraw ≤ l.foldl max a → ∀ k < 10, t.duty k = 0) ∧
          (l.foldl max a ≤ s.tjWithdraw → .thermal ∉ t.ctl.causes)) ∧
    (Completes .rotationDecision s fun t =>
      t.reg 0x1300 0x05 = roundDiv (softBudget s) 100 ∧ t.regT 0x1300 0x08 = s.now) ∧
    (.thermal ∉ s.ctl.causes →
      Completes .thermalCauseSet s fun t => .thermal ∈ t.ctl.causes ∧ KeepsRegs eventRegs s t) ∧
    (∀ k power, userEntry s = some (k, 1, power) → taskValid k power = true → s.taskRequested k = false →
      Completes .userTaskRequest s fun t =>
        t.reg (0x1310 + k) 0x20 = power ∧ t.reg (0x1310 + k) 0x22 = 2 ∧ k ∈ t.power.requested ∧
          ((s.ring 20).held = [] → (t.ring 20).entries = (s.ring 20).entries.drop 1)) ∧
    (∀ k power, userEntry s = some (k, 2, power) → taskValid k power = true →
      Completes .userTaskRelease s fun t => t.duty k = 0 ∧ t.reg (0x1310 + k) 0x22 = 0 ∧ k ∉ t.power.requested) ∧
    (∀ req k value r n, May s req engineers → dwh s.ctl.mode = true → Dict.find 0x1301 k = some r → r.acc = .rw →
      typeOk r (.num value) = true → rangeOk r.rng (.num value) = true → n = s.put 0x1301 k value →
      (n.reserved s.active : Int) + n.reg 0x1301 0x03 ≤ n.reg 0x1301 0x01 →
      Completes (.budgetWrite req k value) s fun t =>
        t.reg 0x1301 k = value ∧ t.reg 0x1300 0x04 = n.reserved s.active ∧
          KeepsRegs [(0x1301, k), (0x1300, 0x04)] s t ∧ Answered req 0x1301 k 0 t)

/-- Resets from assertion to release. A cold source holds the device in cold reach at count 0, a warm one in warm
reach with its bed kept; a warm request starts its grace and withdraws the permission; the last release ends the reset
and shows its reach, sources and time. Rules of its rows: R599, R601, R602, R609, R679. Readings of the model: log
entries 79 to 81. -/
def Obligations.ResetSourcesComplete : Prop := ∀ s : State,
    (∀ (c : Instr) bit, (∃ low, c = .powerOnReset low ∧ bit = 0) ∨ (c = .vddaBrownout ∧
        bit = 1) ∨ (c = .resetnLong ∧ bit = 2) ∨
        (c = .jtagColdReset ∧ bit = 3 ∧ (s.reg 0x1900 0x01 = 2 → s.reg 0x1900 0x09 ≠ 0)) →
      Completes c s fun t =>
        t.rst.reach = 1 ∧ bit ∈ t.rst.asserted ∧ bitOf t.rst.sources bit = true ∧ t.rst.grace = [] ∧
            t.rst.measured = false ∧
          t.In .dormant .none ∧ t.now = 0#64 ∧ t.active = State.reset.active ∧ t.pending = s.pending) ∧
    (Completes .resetnPulse s fun t =>
      t.rst.reach = (if s.rst.reach = 0 then 2 else s.rst.reach) ∧ 4 ∈ t.rst.asserted ∧ t.rst.resetnLow = true ∧
        t.rst.grace = [] ∧ (s.rst.reach = 0 → t.In .dormant .none ∧ t.active = s.active ∧ t.shadow = s.active)) ∧
    (∀ b l, s.rst.grace = b :: l →
      Completes .warmGraceEnd s fun t =>
        t.rst.reach = (if s.rst.reach = 0 then 2 else s.rst.reach) ∧ (∀ x ∈ s.rst.grace, x ∈ t.rst.asserted) ∧
          t.rst.grace = [] ∧ (s.rst.reach = 0 → t.In .dormant .none ∧ t.active = s.active ∧ t.shadow = s.active)) ∧
    (∀ req r, May s req resetWriters → r = s.takeCauses → r.rst.reach = 0 →
      Completes (.warmReset req) s fun t =>
        8 ∈ t.rst.grace ∧ (r.rst.grace = [] → t.ctl.permission = false)) ∧
    (s.rst.reach = 0 →
      Completes .uncorrectableSoftError s fun t => 13 ∈ t.rst.grace ∧ (s.rst.grace = [] → t.ctl.permission = false)) ∧
    (∀ src : Fin 16, src.val ∈ s.rst.asserted →
      ((∃ b ∈ s.rst.asserted, b ≠ src.val) →
        Completes (.resetRelease src) s fun t =>
          t.rst.reach = s.rst.reach ∧ src.val ∉ t.rst.asserted ∧ t.regs = s.regs) ∧
      ((∀ b ∈ s.rst.asserted, b = src.val) →
        Completes (.resetRelease src) s fun t =>
          t.rst.reach = (if s.rst.ambiguous = true then 1 else 0) ∧ t.rst.booting = !s.rst.ambiguous ∧
              t.rst.asserted = [] ∧
            t.reg 0x1200 0x01 = s.rst.reach ∧ t.reg 0x1200 0x02 = (s.rst.sources % 8192 : Nat) ∧
                t.regT 0x1200 0x03 = s.now ∧
            t.reg 0x1200 0x05 = (if s.rst.reach = 1 then s.reg 0x1200 0x05 else satU 32 (s.reg 0x1200 0x05 + 1))))

/-- The Dibber's reading and the end of boot. An even reading selects its code, position and boot mode; an odd one
holds the device in reset with ALARM_N low; a boot of held images completes with their Cloche and firmware, and keeps
the mode where the firmware's header says HOLD_DORMANT. Rules of its rows: R607, R646. Readings of the model: log
entries 13, 83, 84. -/
def Obligations.BootStepsComplete : Prop := ∀ s : State,
    (∀ (raw : Fin 31) (code : Nat), s.rst.measured = false → s.rst.ambiguous = false → s.coldHeld = false →
      raw.val = 30 - 2 * code → code < 16 →
      Completes (.dibberMeasureEnd raw) s fun t =>
        t.reg 0x1202 0x01 = code ∧ t.reg 0x1202 0x02 = (code / 8 : Nat) ∧ t.reg 0x1202 0x03 = (code % 8 : Nat) ∧
          t.reg 0x1202 0x04 = raw.val ∧ t.regT 0x1202 0x05 = s.now ∧ t.position = code % 8 ∧
          t.ctl.recoveryBoot = decide (8 ≤ code) ∧ t.rst.measured = true ∧
          KeepsRegs [(0x1202, 0x01), (0x1202, 0x02), (0x1202, 0x03), (0x1202, 0x04), (0x1202, 0x05), (0x1700,
              0x20)] s t) ∧
    (∀ raw : Fin 31, s.rst.measured = false → s.rst.ambiguous = false → s.coldHeld = false → raw.val % 2 = 1 →
      Completes (.dibberMeasureEnd raw) s fun t =>
        t.rst.ambiguous = true ∧ t.rst.reach = 1 ∧ t.rst.measured = false ∧ t.reg 0x1202 0x04 = raw.val ∧
          t.sent = .pin "ALARM_N" 0 :: s.sent ∧ KeepsRegs [(0x1202, 0x04)] s t) ∧
    (∀ flash c i, s.rst.booting = true → s.rst.measured = true → s.ctl.bootStopped = false → s.cloche.fault = false →
      s.heldImages flash = some (c, some i) → s.ctl.recoveryBoot = false →
      Completes (.bootComplete flash) s fun t =>
        t.ctl.bootComplete = true ∧ t.rst.booting = false ∧ t.root.cloche = some c ∧
          vget t.graft.images 0 none = some i ∧ (i.hold = true → t.ctl.mode = s.ctl.mode))

/-- Domain resets. A domain reset of a lane starts its FULL retrain with its counters cleared; of an engine, a Sieve
channel, a Furrow or a pair it is complete with the outcome its target's rules give, DOMAIN_COUNT one more and
DOMAIN_RESULT 0. Rules of its rows: R608. Readings of the model: log entry 82. -/
def Obligations.DomainResetsComplete : Prop := ∀ (req : Requester) (target : BitVec 8) (s : State),
    May s req resetWriters → s.rst.reach = 0 → s.rst.domainRuns = none →
    (target.toNat < 16 →
      8 ≤ target.toNat ∨ s.ctl.mode = .watch ∨ s.ctl.mode = .halt ∨
        (s.ctl.mode = .form ∧ s.gateLaneIdle target.toNat = true) →
      (8 ≤ target.toNat → target.toNat < 14 → s.inArray = true →
        s.reg (0x1600 + State.otherLane target.toNat) 0x22 ≠ 0 ∨ s.arrayState = 3) →
      Completes (.domainResetLane req target) s fun t =>
        t.rst.domainRuns = some (1, target.toNat) ∧ (t.slane target.toNat).retrain = some 2 ∧
          (∀ k ∈ [0x28, 0x29, 0x2B, 0x2C, 0x2D, 0x2E], t.reg (0x1600 + target.toNat) k = 0) ∧
          t.reg 0x1201 0x03 = 0 ∧ Answered req 0x1201 0x02 0 t) ∧
    (target.toNat < 16 → dwh s.ctl.mode = true →
      Completes (.domainResetEngine req target) s fun t =>
        (∀ l < 8, (s.slot target.toNat l).state = .faulted → (t.slot target.toNat l).state = .faulted) ∧
          (∀ l < 8, (s.slot target.toNat l).state ≠ .faulted →
            (t.slot target.toNat l).state = s.initSlot target.toNat l) ∧
          t.rst.domainRuns = none ∧ t.reg 0x1201 0x03 = 0 ∧ t.reg 0x1200 0x06 = satU 32 (s.reg 0x1200 0x06 + 1) ∧
          Answered req 0x1201 0x02 0 t) ∧
    (sieveTarget s target.toNat = true →
      Completes (.domainResetSieve req target) s fun t =>
        (target.toNat < 48 → t.reg (0x2000 + target.toNat) 0x28 = 0) ∧
          (48 ≤ target.toNat → target.toNat < 192 → t.reg (0x2000 + target.toNat) 0x20 = 0 ∧
            t.reg (0x2000 + target.toNat) 0x23 = 0) ∧
          (192 ≤ target.toNat → t.reg (0x2000 + target.toNat) 0x21 = 0) ∧
          t.rst.domainRuns = none ∧ t.reg 0x1201 0x03 = 0 ∧ t.reg 0x1200 0x06 = satU 32 (s.reg 0x1200 0x06 + 1) ∧
          Answered req 0x1201 0x02 0 t) ∧
    (target.toNat < 12 → dwh s.ctl.mode = true →
      Completes (.domainResetFurrow req target) s fun t =>
        ((s.furrow target.toNat).running = false → (t.furrow target.toNat).running = false) ∧
          (t.furrow target.toNat).requests = [] ∧ t.rst.domainRuns = none ∧ t.reg 0x1201 0x03 = 0 ∧
          t.reg 0x1200 0x06 = satU 32 (s.reg 0x1200 0x06 + 1) ∧ Answered req 0x1201 0x02 0 t) ∧
    (target.toNat < 24 → dwh s.ctl.mode = true →
      Completes (.domainResetPair req target) s fun t =>
        (t.pair target.toNat).h = .off ∧ (t.pair target.toNat).l = .off ∧
          ((s.pair target.toNat).sources = [] → ∀ k ∈ [0x20, 0x21, 0x22, 0x23, 0x24, 0x27, 0x28, 0x29, 0x2A],
            t.reg (0x5020 + target.toNat) k = 0) ∧
          t.rst.domainRuns = none ∧ t.reg 0x1201 0x03 = 0 ∧ t.reg 0x1200 0x06 = satU 32 (s.reg 0x1200 0x06 + 1) ∧
          Answered req 0x1201 0x02 0 t)
end

