-- ==== Sys2Proof/Laws/Frame.lean ====
section
/-! SUPPORT. How frames compose: one operation after others, folds, and an update of one part. -/

namespace Sys2Proof.Machine

theorem Part.same_refl (p : Part) (s : State) : p.same s s := by cases p <;> first | rfl | exact ⟨rfl, rfl⟩

theorem Part.same_trans {p : Part} {s t u : State} (h : p.same s t) (k : p.same t u) : p.same s u := by
  cases p <;> first | exact k.trans h | exact ⟨k.1.trans h.1, k.2.trans h.2⟩

theorem Frame.refl (l : List Part) (s : State) : Frame l s s := ⟨fun p _ => Part.same_refl p s⟩

theorem Frame.trans {l : List Part} {s t u : State} (h : Frame l s t) (k : Frame l t u) : Frame l s u :=
  ⟨fun p hp => Part.same_trans (h.same p hp) (k.same p hp)⟩

theorem Frame.mono {l m : List Part} {s t : State} (h : Frame l s t) (k : l ⊆ m) : Frame m s t :=
  ⟨fun p hp => h.same p fun x => hp (k x)⟩

/-- One operation after others: its own parts are among those allowed. -/
theorem Frame.after {l m : List Part} {s t u : State} (h : Frame l t u) (k : l ⊆ m) (g : Frame m s t) : Frame m s u :=
  g.trans (h.mono k)

theorem Frame.foldl {α : Type} (l : List Part) (g : State → α → State) (h : ∀ s x, Frame l s (g s x)) (xs : List α)
    (s : State) : Frame l s (xs.foldl g s) := by
  induction xs generalizing s with
  | nil => exact .refl l s
  | cons x r ih => exact .trans (h s x) (ih _)

/-- A fold over a list with a function of the state. -/
theorem Frame.foldl_after {α : Type} {m : List Part} {s t : State} (g : State → α → State) (xs : List α)
    (h : ∀ s x, Frame m s (g s x)) (k : Frame m s t) : Frame m s (xs.foldl g t) := .trans k (.foldl m g h xs t)

/-- A fold that carries the state first of a pair. -/
theorem Frame.foldl_fst {α β : Type} {m : List Part} {s : State} {t : State × β} (g : State × β → α → State × β)
    (xs : List α) (h : ∀ a x, Frame m a.1 (g a x).1) (k : Frame m s t.1) : Frame m s (xs.foldl g t).1 := by
  induction xs generalizing t with
  | nil => exact k
  | cons x r ih => exact ih (.trans k (h t x))

theorem Frame.set_active {l : List Part} {s u : State} {x0} (h : Part.active ∈ l) (k : Frame l s u) :
    Frame l s { u with active := x0 } := .trans k ⟨fun p hp => by
  cases p <;> first | rfl | exact ⟨rfl, rfl⟩ | exact absurd (by simp [h]) hp⟩

theorem Frame.set_active_shadow {l : List Part} {s u : State} {x0 x1} (h : Part.active ∈ l ∧ Part.shadow ∈ l) (k : Frame l s u) :
    Frame l s { u with active := x0, shadow := x1 } := .trans k ⟨fun p hp => by
  cases p <;> first | rfl | exact ⟨rfl, rfl⟩ | exact absurd (by simp [h]) hp⟩

theorem Frame.set_arms {l : List Part} {s u : State} {x0} (h : Part.arms ∈ l) (k : Frame l s u) :
    Frame l s { u with arms := x0 } := .trans k ⟨fun p hp => by
  cases p <;> first | rfl | exact ⟨rfl, rfl⟩ | exact absurd (by simp [h]) hp⟩

theorem Frame.set_cloche {l : List Part} {s u : State} {x0} (h : Part.cloche ∈ l) (k : Frame l s u) :
    Frame l s { u with cloche := x0 } := .trans k ⟨fun p hp => by
  cases p <;> first | rfl | exact ⟨rfl, rfl⟩ | exact absurd (by simp [h]) hp⟩

theorem Frame.set_coreReq {l : List Part} {s u : State} {x0} (h : Part.coreReq ∈ l) (k : Frame l s u) :
    Frame l s { u with coreReq := x0 } := .trans k ⟨fun p hp => by
  cases p <;> first | rfl | exact ⟨rfl, rfl⟩ | exact absurd (by simp [h]) hp⟩

theorem Frame.set_cores {l : List Part} {s u : State} {x0} (h : Part.cores ∈ l) (k : Frame l s u) :
    Frame l s { u with cores := x0 } := .trans k ⟨fun p hp => by
  cases p <;> first | rfl | exact ⟨rfl, rfl⟩ | exact absurd (by simp [h]) hp⟩

theorem Frame.set_draws {l : List Part} {s u : State} {x0} (h : Part.draws ∈ l) (k : Frame l s u) :
    Frame l s { u with draws := x0 } := .trans k ⟨fun p hp => by
  cases p <;> first | rfl | exact ⟨rfl, rfl⟩ | exact absurd (by simp [h]) hp⟩

theorem Frame.set_engines {l : List Part} {s u : State} {x0} (h : Part.engines ∈ l) (k : Frame l s u) :
    Frame l s { u with engines := x0 } := .trans k ⟨fun p hp => by
  cases p <;> first | rfl | exact ⟨rfl, rfl⟩ | exact absurd (by simp [h]) hp⟩

theorem Frame.set_eventSeq {l : List Part} {s u : State} {x0} (h : Part.eventSeq ∈ l) (k : Frame l s u) :
    Frame l s { u with eventSeq := x0 } := .trans k ⟨fun p hp => by
  cases p <;> first | rfl | exact ⟨rfl, rfl⟩ | exact absurd (by simp [h]) hp⟩

theorem Frame.set_fltActive {l : List Part} {s u : State} {x0} (h : Part.fltActive ∈ l) (k : Frame l s u) :
    Frame l s { u with fltActive := x0 } := .trans k ⟨fun p hp => by
  cases p <;> first | rfl | exact ⟨rfl, rfl⟩ | exact absurd (by simp [h]) hp⟩

theorem Frame.set_furrows {l : List Part} {s u : State} {x0} (h : Part.furrows ∈ l) (k : Frame l s u) :
    Frame l s { u with furrows := x0 } := .trans k ⟨fun p hp => by
  cases p <;> first | rfl | exact ⟨rfl, rfl⟩ | exact absurd (by simp [h]) hp⟩

theorem Frame.set_gf {l : List Part} {s u : State} {x0} (h : Part.gf ∈ l) (k : Frame l s u) :
    Frame l s { u with gf := x0 } := .trans k ⟨fun p hp => by
  cases p <;> first | rfl | exact ⟨rfl, rfl⟩ | exact absurd (by simp [h]) hp⟩

theorem Frame.set_graft {l : List Part} {s u : State} {x0} (h : Part.graft ∈ l) (k : Frame l s u) :
    Frame l s { u with graft := x0 } := .trans k ⟨fun p hp => by
  cases p <;> first | rfl | exact ⟨rfl, rfl⟩ | exact absurd (by simp [h]) hp⟩

theorem Frame.set_harvest {l : List Part} {s u : State} {x0} (h : Part.harvest ∈ l) (k : Frame l s u) :
    Frame l s { u with harvest := x0 } := .trans k ⟨fun p hp => by
  cases p <;> first | rfl | exact ⟨rfl, rfl⟩ | exact absurd (by simp [h]) hp⟩

theorem Frame.set_lanes {l : List Part} {s u : State} {x0} (h : Part.lanes ∈ l) (k : Frame l s u) :
    Frame l s { u with lanes := x0 } := .trans k ⟨fun p hp => by
  cases p <;> first | rfl | exact ⟨rfl, rfl⟩ | exact absurd (by simp [h]) hp⟩

theorem Frame.set_net {l : List Part} {s u : State} {x0} (h : Part.net ∈ l) (k : Frame l s u) :
    Frame l s { u with net := x0 } := .trans k ⟨fun p hp => by
  cases p <;> first | rfl | exact ⟨rfl, rfl⟩ | exact absurd (by simp [h]) hp⟩

theorem Frame.set_nodes {l : List Part} {s u : State} {x0} (h : Part.nodes ∈ l) (k : Frame l s u) :
    Frame l s { u with nodes := x0 } := .trans k ⟨fun p hp => by
  cases p <;> first | rfl | exact ⟨rfl, rfl⟩ | exact absurd (by simp [h]) hp⟩

theorem Frame.set_pairs {l : List Part} {s u : State} {x0} (h : Part.pairs ∈ l) (k : Frame l s u) :
    Frame l s { u with pairs := x0 } := .trans k ⟨fun p hp => by
  cases p <;> first | rfl | exact ⟨rfl, rfl⟩ | exact absurd (by simp [h]) hp⟩

theorem Frame.set_now_time_prior {l : List Part} {s u : State} {x0 x1 x2} (h : Part.now ∈ l ∧ Part.time ∈ l ∧ Part.prior ∈ l) (k : Frame l s u) :
    Frame l s { u with now := x0, time := x1, prior := x2 } := .trans k ⟨fun p hp => by
  cases p <;> first | rfl | exact ⟨rfl, rfl⟩ | exact absurd (by simp [h]) hp⟩

theorem Frame.set_prior {l : List Part} {s u : State} {x0} (h : Part.prior ∈ l) (k : Frame l s u) :
    Frame l s { u with prior := x0 } := .trans k ⟨fun p hp => by
  cases p <;> first | rfl | exact ⟨rfl, rfl⟩ | exact absurd (by simp [h]) hp⟩

theorem Frame.set_power {l : List Part} {s u : State} {x0} (h : Part.power ∈ l) (k : Frame l s u) :
    Frame l s { u with power := x0 } := .trans k ⟨fun p hp => by
  cases p <;> first | rfl | exact ⟨rfl, rfl⟩ | exact absurd (by simp [h]) hp⟩

theorem Frame.set_pwm {l : List Part} {s u : State} {x0} (h : Part.pwm ∈ l) (k : Frame l s u) :
    Frame l s { u with pwm := x0 } := .trans k ⟨fun p hp => by
  cases p <;> first | rfl | exact ⟨rfl, rfl⟩ | exact absurd (by simp [h]) hp⟩

theorem Frame.set_regs {l : List Part} {s u : State} {x0} (h : Part.regs ∈ l) (k : Frame l s u) :
    Frame l s { u with regs := x0 } := .trans k ⟨fun p hp => by
  cases p <;> first | rfl | exact ⟨rfl, rfl⟩ | exact absurd (by simp [h]) hp⟩

theorem Frame.set_remotes {l : List Part} {s u : State} {x0} (h : Part.remotes ∈ l) (k : Frame l s u) :
    Frame l s { u with remotes := x0 } := .trans k ⟨fun p hp => by
  cases p <;> first | rfl | exact ⟨rfl, rfl⟩ | exact absurd (by simp [h]) hp⟩

theorem Frame.set_ride {l : List Part} {s u : State} {x0} (h : Part.ride ∈ l) (k : Frame l s u) :
    Frame l s { u with ride := x0 } := .trans k ⟨fun p hp => by
  cases p <;> first | rfl | exact ⟨rfl, rfl⟩ | exact absurd (by simp [h]) hp⟩

theorem Frame.set_rings {l : List Part} {s u : State} {x0} (h : Part.rings ∈ l) (k : Frame l s u) :
    Frame l s { u with rings := x0 } := .trans k ⟨fun p hp => by
  cases p <;> first | rfl | exact ⟨rfl, rfl⟩ | exact absurd (by simp [h]) hp⟩

theorem Frame.set_root {l : List Part} {s u : State} {x0} (h : Part.root ∈ l) (k : Frame l s u) :
    Frame l s { u with root := x0 } := .trans k ⟨fun p hp => by
  cases p <;> first | rfl | exact ⟨rfl, rfl⟩ | exact absurd (by simp [h]) hp⟩

theorem Frame.set_rst {l : List Part} {s u : State} {x0} (h : Part.rst ∈ l) (k : Frame l s u) :
    Frame l s { u with rst := x0 } := .trans k ⟨fun p hp => by
  cases p <;> first | rfl | exact ⟨rfl, rfl⟩ | exact absurd (by simp [h]) hp⟩

theorem Frame.set_runner {l : List Part} {s u : State} {x0} (h : Part.runner ∈ l) (k : Frame l s u) :
    Frame l s { u with runner := x0 } := .trans k ⟨fun p hp => by
  cases p <;> first | rfl | exact ⟨rfl, rfl⟩ | exact absurd (by simp [h]) hp⟩

theorem Frame.set_sent {l : List Part} {s u : State} {x0} (h : Part.sent ∈ l) (k : Frame l s u) :
    Frame l s { u with sent := x0 } := .trans k ⟨fun p hp => by
  cases p <;> first | rfl | exact ⟨rfl, rfl⟩ | exact absurd (by simp [h]) hp⟩

theorem Frame.set_sent_runner {l : List Part} {s u : State} {x0 x1} (h : Part.sent ∈ l ∧ Part.runner ∈ l) (k : Frame l s u) :
    Frame l s { u with sent := x0, runner := x1 } := .trans k ⟨fun p hp => by
  cases p <;> first | rfl | exact ⟨rfl, rfl⟩ | exact absurd (by simp [h]) hp⟩

theorem Frame.set_sessions {l : List Part} {s u : State} {x0} (h : Part.sessions ∈ l) (k : Frame l s u) :
    Frame l s { u with sessions := x0 } := .trans k ⟨fun p hp => by
  cases p <;> first | rfl | exact ⟨rfl, rfl⟩ | exact absurd (by simp [h]) hp⟩

theorem Frame.set_shadow {l : List Part} {s u : State} {x0} (h : Part.shadow ∈ l) (k : Frame l s u) :
    Frame l s { u with shadow := x0 } := .trans k ⟨fun p hp => by
  cases p <;> first | rfl | exact ⟨rfl, rfl⟩ | exact absurd (by simp [h]) hp⟩

theorem Frame.set_shared {l : List Part} {s u : State} {x0} (h : Part.shared ∈ l) (k : Frame l s u) :
    Frame l s { u with shared := x0 } := .trans k ⟨fun p hp => by
  cases p <;> first | rfl | exact ⟨rfl, rfl⟩ | exact absurd (by simp [h]) hp⟩

theorem Frame.set_shears {l : List Part} {s u : State} {x0} (h : Part.shears ∈ l) (k : Frame l s u) :
    Frame l s { u with shears := x0 } := .trans k ⟨fun p hp => by
  cases p <;> first | rfl | exact ⟨rfl, rfl⟩ | exact absurd (by simp [h]) hp⟩

theorem Frame.set_sieve {l : List Part} {s u : State} {x0} (h : Part.sieve ∈ l) (k : Frame l s u) :
    Frame l s { u with sieve := x0 } := .trans k ⟨fun p hp => by
  cases p <;> first | rfl | exact ⟨rfl, rfl⟩ | exact absurd (by simp [h]) hp⟩

theorem Frame.set_slanes {l : List Part} {s u : State} {x0} (h : Part.slanes ∈ l) (k : Frame l s u) :
    Frame l s { u with slanes := x0 } := .trans k ⟨fun p hp => by
  cases p <;> first | rfl | exact ⟨rfl, rfl⟩ | exact absurd (by simp [h]) hp⟩

theorem Frame.set_sounder {l : List Part} {s u : State} {x0} (h : Part.sounder ∈ l) (k : Frame l s u) :
    Frame l s { u with sounder := x0 } := .trans k ⟨fun p hp => by
  cases p <;> first | rfl | exact ⟨rfl, rfl⟩ | exact absurd (by simp [h]) hp⟩

theorem Frame.set_time {l : List Part} {s u : State} {x0} (h : Part.time ∈ l) (k : Frame l s u) :
    Frame l s { u with time := x0 } := .trans k ⟨fun p hp => by
  cases p <;> first | rfl | exact ⟨rfl, rfl⟩ | exact absurd (by simp [h]) hp⟩

theorem Frame.set_win {l : List Part} {s u : State} {x0} (h : Part.win ∈ l) (k : Frame l s u) :
    Frame l s { u with win := x0 } := .trans k ⟨fun p hp => by
  cases p <;> first | rfl | exact ⟨rfl, rfl⟩ | exact absurd (by simp [h]) hp⟩

end Sys2Proof.Machine
end

