-- ==== Sys2Proof/Laws/FrameOps.lean ====
section
/-! SUPPORT. What the shared operations, the Furrows and the Gate-Link may change: one lemma per operation. -/

namespace Sys2Proof.Machine
open State

/-! ## Ops -/

theorem State.modRunner_frame (s : State) (g : RunnerUnit → RunnerUnit) :
    Frame [.runner] s (State.modRunner s g) := by
  unfold State.modRunner
  try dsimp only
  repeat' first
    | with_reducible exact .refl _ _
    | decide
    | split
    | with_reducible apply Frame.set_runner

theorem State.modGf_frame (s : State) (g : GridForming → GridForming) :
    Frame [.gf] s (State.modGf s g) := by
  unfold State.modGf
  try dsimp only
  repeat' first
    | with_reducible exact .refl _ _
    | decide
    | split
    | with_reducible apply Frame.set_gf

theorem State.modCtl_frame (s : State) (g : Ctl → Ctl) :
    Frame [.ctl, .mode] s (State.modCtl s g) := by
  exact ⟨fun p hp => by cases p <;> first | rfl | exact absurd (by decide) hp⟩

/-- A change of the mode controller that leaves the mode and the sub-state. -/
theorem State.modCtl_kept (s : State) (g : Ctl → Ctl) (h : ∀ c, (g c).mode = c.mode ∧ (g c).sub = c.sub) :
    Frame [.ctl] s (State.modCtl s g) :=
  ⟨fun p hp => by cases p <;> first | rfl | exact h s.ctl | exact absurd (by decide) hp⟩

theorem State.modRst_frame (s : State) (g : ResetUnit → ResetUnit) :
    Frame [.rst] s (State.modRst s g) := by
  unfold State.modRst
  try dsimp only
  repeat' first
    | with_reducible exact .refl _ _
    | decide
    | split
    | with_reducible apply Frame.set_rst

theorem State.modRide_frame (s : State) (g : RideState → RideState) :
    Frame [.ride] s (State.modRide s g) := by
  unfold State.modRide
  try dsimp only
  repeat' first
    | with_reducible exact .refl _ _
    | decide
    | split
    | with_reducible apply Frame.set_ride

theorem State.modRoot_frame (s : State) (g : RootUnit → RootUnit) :
    Frame [.root] s (State.modRoot s g) := by
  unfold State.modRoot
  try dsimp only
  repeat' first
    | with_reducible exact .refl _ _
    | decide
    | split
    | with_reducible apply Frame.set_root

theorem State.modShears_frame (s : State) (g : Shears → Shears) :
    Frame [.shears] s (State.modShears s g) := by
  unfold State.modShears
  try dsimp only
  repeat' first
    | with_reducible exact .refl _ _
    | decide
    | split
    | with_reducible apply Frame.set_shears

theorem State.modSounder_frame (s : State) (g : Sounder → Sounder) :
    Frame [.sounder] s (State.modSounder s g) := by
  unfold State.modSounder
  try dsimp only
  repeat' first
    | with_reducible exact .refl _ _
    | decide
    | split
    | with_reducible apply Frame.set_sounder

theorem State.modTime_frame (s : State) (g : TimeUnit → TimeUnit) :
    Frame [.time] s (State.modTime s g) := by
  unfold State.modTime
  try dsimp only
  repeat' first
    | with_reducible exact .refl _ _
    | decide
    | split
    | with_reducible apply Frame.set_time

theorem State.modGraft_frame (s : State) (f : GraftUnit → GraftUnit) :
    Frame [.graft] s (State.modGraft s f) := by
  unfold State.modGraft
  try dsimp only
  repeat' first
    | with_reducible exact .refl _ _
    | decide
    | split
    | with_reducible apply Frame.set_graft

theorem State.modCoreReq_frame (s : State) (g : Session → Session) :
    Frame [.coreReq] s (State.modCoreReq s g) := by
  unfold State.modCoreReq
  try dsimp only
  repeat' first
    | with_reducible exact .refl _ _
    | decide
    | split
    | with_reducible apply Frame.set_coreReq

theorem State.modPower_frame (s : State) (g : PowerUnit → PowerUnit) :
    Frame [.power] s (State.modPower s g) := by
  unfold State.modPower
  try dsimp only
  repeat' first
    | with_reducible exact .refl _ _
    | decide
    | split
    | with_reducible apply Frame.set_power

theorem State.modRing_frame (s : State) (q : Nat) (g : Ring → Ring) :
    Frame [.rings] s (State.modRing s q g) := by
  unfold State.modRing
  try dsimp only
  repeat' first
    | with_reducible exact .refl _ _
    | decide
    | split
    | with_reducible apply Frame.set_rings

theorem State.modWin_frame (s : State) (c : Nat) (g : WinStatus → WinStatus) :
    Frame [.win] s (State.modWin s c g) := by
  unfold State.modWin
  try dsimp only
  repeat' first
    | with_reducible exact .refl _ _
    | decide
    | split
    | with_reducible apply Frame.set_win

theorem State.setBeds_frame (s : State) (active shadow : Store) :
    Frame [.active, .shadow] s (State.setBeds s active shadow) := by
  unfold State.setBeds
  try dsimp only
  repeat' first
    | with_reducible exact .refl _ _
    | decide
    | split
    | with_reducible apply Frame.set_active_shadow

theorem State.setActive_frame (s : State) (bed : Store) :
    Frame [.active] s (State.setActive s bed) := by
  unfold State.setActive
  try dsimp only
  repeat' first
    | with_reducible exact .refl _ _
    | decide
    | split
    | with_reducible apply Frame.set_active

/-- A function that keeps to its parts under every bed keeps to them under another bed for the time of its run. -/
theorem State.withBed_frame {l : List Part} {bed : Option Store} {f : State → State} {s u : State}
    (h : ∀ s, Frame l s (f s)) (g : Frame l u s) : Frame l u (s.withBed bed f) := by
  unfold State.withBed
  split
  · exact .trans g (h s)
  · rename_i b
    refine .trans g ⟨fun p hp => ?_⟩
    have k := (h (s.setActive b)).same p hp
    cases p <;> first | rfl | exact k

theorem State.setShadow_frame (s : State) (bed : Store) :
    Frame [.shadow] s (State.setShadow s bed) := by
  unfold State.setShadow
  try dsimp only
  repeat' first
    | with_reducible exact .refl _ _
    | decide
    | split
    | with_reducible apply Frame.set_shadow

theorem State.setFlt_frame (s : State) (l : List Nat) :
    Frame [.fltActive] s (State.setFlt s l) := by
  unfold State.setFlt
  try dsimp only
  repeat' first
    | with_reducible exact .refl _ _
    | decide
    | split
    | with_reducible apply Frame.set_fltActive

theorem State.modPrior_frame (s : State) (g : Prior → Prior) :
    Frame [.prior] s (State.modPrior s g) := by
  unfold State.modPrior
  try dsimp only
  repeat' first
    | with_reducible exact .refl _ _
    | decide
    | split
    | with_reducible apply Frame.set_prior

theorem State.setShared_frame (s : State) (l : List (Nat × BitVec 32 × ST64)) :
    Frame [.shared] s (State.setShared s l) := by
  unfold State.setShared
  try dsimp only
  repeat' first
    | with_reducible exact .refl _ _
    | decide
    | split
    | with_reducible apply Frame.set_shared

theorem State.setEventSeq_frame (s : State) (n : BitVec 32) :
    Frame [.eventSeq] s (State.setEventSeq s n) := by
  unfold State.setEventSeq
  try dsimp only
  repeat' first
    | with_reducible exact .refl _ _
    | decide
    | split
    | with_reducible apply Frame.set_eventSeq

theorem State.setSent_frame (s : State) (l : List Sent) :
    Frame [.sent] s (State.setSent s l) := by
  unfold State.setSent
  try dsimp only
  repeat' first
    | with_reducible exact .refl _ _
    | decide
    | split
    | with_reducible apply Frame.set_sent

theorem State.clearPwm_frame (s : State) :
    Frame [.pwm] s (State.clearPwm s) := by
  unfold State.clearPwm
  try dsimp only
  repeat' first
    | with_reducible exact .refl _ _
    | decide
    | split
    | with_reducible apply Frame.set_pwm

theorem State.skipDraws_frame (s : State) (n : Nat) :
    Frame [.draws] s (State.skipDraws s n) := by
  unfold State.skipDraws
  try dsimp only
  repeat' first
    | with_reducible exact .refl _ _
    | decide
    | split
    | with_reducible apply Frame.set_draws

theorem State.put_frame (s : State) (i k : Nat) (v : Int) :
    Frame [.regs] s (State.put s i k v) := by
  unfold State.put
  try dsimp only
  repeat' first
    | with_reducible exact .refl _ _
    | decide
    | split
    | with_reducible apply Frame.set_regs

theorem State.putB_frame (s : State) (i k : Nat) (b : Bytes) :
    Frame [.regs] s (State.putB s i k b) := by
  unfold State.putB
  try dsimp only
  repeat' first
    | with_reducible exact .refl _ _
    | decide
    | split
    | with_reducible apply Frame.set_regs

theorem State.putT_frame (s : State) (i k : Nat) (t : ST64) :
    Frame [.regs] s (State.putT s i k t) := by
  unfold State.putT
  try dsimp only
  repeat' first
    | with_reducible exact .refl _ _
    | decide
    | split
    | with_reducible apply Frame.after (State.put_frame ..)

theorem State.putCfg_frame (s : State) (i k : Nat) (v : Int) :
    Frame [.active] s (State.putCfg s i k v) := by
  unfold State.putCfg
  try dsimp only
  repeat' first
    | with_reducible exact .refl _ _
    | decide
    | split
    | with_reducible apply Frame.set_active

theorem State.countBy_frame (s : State) (bits i k : Nat) (n : Int) :
    Frame [.regs] s (State.countBy s bits i k n) := by
  unfold State.countBy
  try dsimp only
  repeat' first
    | with_reducible exact .refl _ _
    | decide
    | split
    | with_reducible apply Frame.after (State.put_frame ..)

theorem State.count_frame (s : State) (i k : Nat) :
    Frame [.regs] s (State.count s i k) := by
  unfold State.count
  try dsimp only
  repeat' first
    | with_reducible exact .refl _ _
    | decide
    | split
    | with_reducible apply Frame.after (State.countBy_frame ..)

theorem State.flag_frame (s : State) (i k b : Nat) :
    Frame [.regs] s (State.flag s i k b) := by
  unfold State.flag
  try dsimp only
  repeat' first
    | with_reducible exact .refl _ _
    | decide
    | split
    | with_reducible apply Frame.after (State.put_frame ..)

theorem State.advance_frame (s : State) (i k : Nat) :
    Frame [.regs] s (State.advance s i k) := by
  unfold State.advance
  try dsimp only
  repeat' first
    | with_reducible exact .refl _ _
    | decide
    | split
    | with_reducible apply Frame.after (State.put_frame ..)

theorem State.draw_frame (s : State) :
    Frame [.draws] s (State.draw s).2 := by
  unfold State.draw
  try dsimp only
  repeat' first
    | with_reducible exact .refl _ _
    | decide
    | split
    | with_reducible apply Frame.set_draws

theorem State.send_frame (s : State) (m : Sent) :
    Frame [.sent, .runner] s (State.send s m) := by
  unfold State.send
  try dsimp only
  repeat' first
    | with_reducible exact .refl _ _
    | decide
    | split
    | with_reducible apply Frame.set_sent_runner

theorem State.ringAppend_frame (s : State) (q : Nat) (e : RingEntry) :
    Frame [.regs, .rings, .sent, .runner] s (State.ringAppend s q e) := by
  unfold State.ringAppend
  try dsimp only
  repeat' first
    | with_reducible exact .refl _ _
    | decide
    | split
    | with_reducible apply Frame.after (State.modRing_frame ..)
    | with_reducible apply Frame.after (State.put_frame ..)
    | with_reducible apply Frame.after (State.send_frame ..)

theorem State.eventAt_frame (s : State) (code : Nat) (fields : List Int) (t : ST64) :
    Frame [.regs, .rings, .eventSeq, .sent, .runner] s (State.eventAt s code fields t) := by
  unfold State.eventAt
  try dsimp only
  repeat' first
    | with_reducible exact .refl _ _
    | decide
    | split
    | with_reducible apply Frame.after (State.count_frame ..)
    | with_reducible apply Frame.after (State.flag_frame ..)
    | with_reducible apply Frame.after (State.ringAppend_frame ..)
    | with_reducible apply Frame.after (State.setEventSeq_frame ..)

theorem State.event_frame (s : State) (code : Nat) (fields : List Int) :
    Frame [.regs, .rings, .eventSeq, .sent, .runner] s (State.event s code fields) := by
  unfold State.event
  try dsimp only
  repeat' first
    | with_reducible exact .refl _ _
    | decide
    | split
    | with_reducible apply Frame.after (State.eventAt_frame ..)

theorem State.stallEvent_frame (s : State) (code : Nat) (fields : List Int) :
    Frame [.regs, .rings, .eventSeq, .sent, .runner] s (State.stallEvent s code fields) := by
  unfold State.stallEvent
  try dsimp only
  repeat' first
    | with_reducible exact .refl _ _
    | decide
    | split
    | with_reducible apply Frame.after (State.event_frame ..)
    | with_reducible apply Frame.after (State.putB_frame ..)
    | with_reducible apply Frame.after (State.send_frame ..)

theorem State.ringLost_frame (s : State) (q n : Nat) :
    Frame [.regs, .rings, .eventSeq, .sent, .runner] s (State.ringLost s q n) := by
  unfold State.ringLost
  try dsimp only
  repeat' first
    | with_reducible exact .refl _ _
    | decide
    | split
    | with_reducible apply Frame.after (State.countBy_frame ..)
    | with_reducible apply Frame.after (State.flag_frame ..)
    | with_reducible apply Frame.after (State.modRing_frame ..)
    | with_reducible apply Frame.after (State.stallEvent_frame ..)

theorem State.ringPost_frame (s : State) (q : Nat) (e : RingEntry) :
    Frame [.regs, .rings, .eventSeq, .sent, .runner] s (State.ringPost s q e) := by
  unfold State.ringPost
  try dsimp only
  repeat' first
    | with_reducible exact .refl _ _
    | decide
    | split
    | with_reducible apply Frame.after (State.modRing_frame ..)
    | with_reducible apply Frame.after (State.ringAppend_frame ..)
    | with_reducible apply Frame.after (State.ringLost_frame ..)

theorem State.ringPostAll_frame (s : State) (q : Nat) (es : List RingEntry) :
    Frame [.regs, .rings, .eventSeq, .sent, .runner] s (State.ringPostAll s q es) := by
  unfold State.ringPostAll
  try dsimp only
  repeat' first
    | with_reducible exact .refl _ _
    | decide
    | split
    | with_reducible apply Frame.after (State.ringAppend_frame ..)
    | with_reducible apply Frame.after (State.ringLost_frame ..)
    | with_reducible refine Frame.foldl_after _ _ (fun s x => ?_) ?_
    | with_reducible refine Frame.foldl_fst _ _ (fun a x => ?_) ?_

theorem State.postFrame_frame (s : State) (q len : Nat) (p : Fin 2) (stamp : ST64) (data : Bytes) :
    Frame [.regs, .rings, .eventSeq, .sent, .runner] s (State.postFrame s q len p stamp data) := by
  unfold State.postFrame
  try dsimp only
  repeat' first
    | with_reducible exact .refl _ _
    | decide
    | split
    | with_reducible apply Frame.after (State.ringPostAll_frame ..)

theorem State.ringDrainHeld_frame (s : State) (q k : Nat) :
    Frame [.regs, .rings, .sent, .runner] s (State.ringDrainHeld s q k) := by
  induction k generalizing s with
  | zero => exact .refl _ _
  | succ k ih =>
    unfold State.ringDrainHeld
    split
    · exact .refl _ _
    · split
      · exact .trans (.after (State.ringAppend_frame ..) (by decide) (.set_rings (by decide) (.refl _ _))) (ih _)
      · exact .refl _ _

theorem State.ringRelease_frame (s : State) (q n : Nat) :
    Frame [.regs, .rings, .sent, .runner] s (State.ringRelease s q n) := by
  unfold State.ringRelease
  try dsimp only
  repeat' first
    | with_reducible exact .refl _ _
    | decide
    | split
    | with_reducible apply Frame.after (State.modRing_frame ..)
    | with_reducible apply Frame.after (State.ringDrainHeld_frame ..)

theorem State.ringThrough_frame (s : State) (q : Nat) (es : List RingEntry) :
    Frame [.regs, .rings, .eventSeq, .sent, .runner] s (State.ringThrough s q es) := by
  unfold State.ringThrough
  try dsimp only
  repeat' first
    | with_reducible exact .refl _ _
    | decide
    | split
    | with_reducible apply Frame.after (State.ringPostAll_frame ..)
    | with_reducible apply Frame.after (State.ringRelease_frame ..)

theorem State.raiseCause_frame (s : State) (c : HaltCause) :
    Frame [.ctl] s (State.raiseCause s c) := by
  unfold State.raiseCause
  try dsimp only
  repeat' first
    | with_reducible exact .refl _ _
    | decide
    | split
    | with_reducible apply Frame.after (State.modCtl_kept ..)
    | with_reducible exact fun _ => ⟨rfl, rfl⟩

theorem State.dropCause_frame (s : State) (c : HaltCause) :
    Frame [.ctl] s (State.dropCause s c) := by
  unfold State.dropCause
  try dsimp only
  repeat' first
    | with_reducible exact .refl _ _
    | decide
    | split
    | with_reducible apply Frame.after (State.modCtl_kept ..)
    | with_reducible exact fun _ => ⟨rfl, rfl⟩

theorem State.answer_frame (s : State) (req : Requester) (i k abort : Nat) :
    Frame [.sent, .win, .runner] s (State.answer s req i k abort) := by
  unfold State.answer
  try dsimp only
  repeat' first
    | with_reducible exact .refl _ _
    | decide
    | split
    | with_reducible apply Frame.after (State.modWin_frame ..)
    | with_reducible apply Frame.after (State.send_frame ..)

theorem State.refuseMode_frame (s : State) (req : Requester) (what : Nat) (modeCode : Nat) :
    Frame [.regs, .rings, .eventSeq, .sent, .runner] s (State.refuseMode s req what modeCode) := by
  unfold State.refuseMode
  try dsimp only
  repeat' first
    | with_reducible exact .refl _ _
    | decide
    | split
    | with_reducible apply Frame.after (State.count_frame ..)
    | with_reducible apply Frame.after (State.event_frame ..)

theorem guarded_frame {l : List Part} (hl : [.regs, .rings, .eventSeq, .sent, .win,
    .runner] ⊆ l) {req : Requester} {i k : Nat}
    {who : Writers} {inRange modeOk : Bool} {own : Nat} {act : State → State} {s u : State} (h : ∀ s, Frame l s (act s))
    (g : Frame l u s) : Frame l u (guarded req i k who inRange modeOk own act s) := by
  have a (i k c : Nat) (s : State) (hs : Frame l u s) : Frame l u (s.answer req i k c) :=
    .after (State.answer_frame s req i k c) (fun p hp => hl (by revert p; decide)) hs
  unfold guarded
  split
  · exact g
  · split
    · exact a _ _ _ _ g
    · split
      · exact a _ _ _ _ g
      · split
        · exact a _ _ _ _ (.after (State.refuseMode_frame ..) (fun p hp => hl (by revert p; decide)) g)
        · split
          · exact a _ _ _ _ g
          · exact a _ _ _ _ (.trans g (h s))

theorem State.putV_frame (s : State) (i k : Nat) (v : DVal) :
    Frame [.regs] s (State.putV s i k v) := by
  unfold State.putV
  try dsimp only
  repeat' first
    | with_reducible exact .refl _ _
    | decide
    | split
    | with_reducible apply Frame.set_regs

theorem guardedWrite_frame {l : List Part} (hl : [.regs, .rings, .eventSeq, .sent, .win, .runner] ⊆ l) {req : Requester}
    {i k : Nat} {who : Writers} {modeOk : Bool} {own : Nat} {v : DVal} {act : State → State} {s u : State}
    (h : ∀ s, Frame l s (act s)) (g : Frame l u s) : Frame l u (guardedWrite req i k who modeOk own v act s) := by
  have a (i k c : Nat) (s : State) (hs : Frame l u s) : Frame l u (s.answer req i k c) :=
    .after (State.answer_frame s req i k c) (fun p hp => hl (by revert p; decide)) hs
  unfold guardedWrite
  repeat' first
    | with_reducible exact g
    | with_reducible exact a _ _ _ _ g
    | with_reducible exact guarded_frame hl h g
    | split

/-! ## Packets -/

theorem State.modSession_frame (s : State) (n : Nat) (f : Session → Session) :
    Frame [.sessions] s (State.modSession s n f) := by
  unfold State.modSession
  try dsimp only
  repeat' first
    | with_reducible exact .refl _ _
    | decide
    | split
    | with_reducible apply Frame.set_sessions

theorem State.sendXdp_frame (s : State) (n type reqId : Nat) (payload : Bytes) :
    Frame [.sessions, .sent, .runner] s (State.sendXdp s n type reqId payload) := by
  unfold State.sendXdp
  try dsimp only
  repeat' first
    | with_reducible exact .refl _ _
    | decide
    | split
    | with_reducible apply Frame.after (State.modSession_frame ..)
    | with_reducible apply Frame.after (State.send_frame ..)

theorem State.modRecord_frame (s : State) (req : Requester) (f : Session → Session) :
    Frame [.sessions, .coreReq] s (State.modRecord s req f) := by
  unfold State.modRecord
  try dsimp only
  repeat' first
    | with_reducible exact .refl _ _
    | decide
    | split
    | with_reducible apply Frame.after (State.modCoreReq_frame ..)
    | with_reducible apply Frame.after (State.modSession_frame ..)

theorem State.respond_frame (s : State) (n reqId : Nat) (payload : Bytes) :
    Frame [.sessions, .sent, .runner] s (State.respond s n reqId payload) := by
  unfold State.respond
  try dsimp only
  repeat' first
    | with_reducible exact .refl _ _
    | decide
    | split
    | with_reducible apply Frame.after (State.modSession_frame ..)
    | with_reducible apply Frame.after (State.sendXdp_frame ..)

theorem State.respondQueue_frame (s : State) (reqId i k : Nat) (r : Reply) :
    Frame [.regs, .rings, .sent, .runner] s (State.respondQueue s reqId i k r) := by
  unfold State.respondQueue
  try dsimp only
  repeat' first
    | with_reducible exact .refl _ _
    | decide
    | split
    | with_reducible apply Frame.after (State.ringAppend_frame ..)

theorem State.answerLate_frame (s : State) (req : Requester) (i k code : Nat) :
    Frame [.regs, .rings, .sessions, .coreReq, .sent, .win, .runner] s (State.answerLate s req i k code) := by
  unfold State.answerLate
  try dsimp only
  repeat' first
    | with_reducible exact .refl _ _
    | decide
    | split
    | with_reducible apply Frame.after (State.answer_frame ..)
    | with_reducible apply Frame.after (State.modRecord_frame ..)
    | with_reducible apply Frame.after (State.respond_frame ..)
    | with_reducible apply Frame.after (State.respondQueue_frame ..)

/-! ## Pwm -/

theorem State.modFurrow_frame (s : State) (f : Nat) (g : Furrow → Furrow) :
    Frame [.furrows] s (State.modFurrow s f g) := by
  unfold State.modFurrow
  try dsimp only
  repeat' first
    | with_reducible exact .refl _ _
    | decide
    | split
    | with_reducible apply Frame.set_furrows

theorem State.modPair_frame (s : State) (p : Nat) (g : LocalPair → LocalPair) :
    Frame [.pairs] s (State.modPair s p g) := by
  unfold State.modPair
  try dsimp only
  repeat' first
    | with_reducible exact .refl _ _
    | decide
    | split
    | with_reducible apply Frame.set_pairs

theorem State.takePwm_frame (s : State) (set : Nat → Bool) :
    Frame [.pwm] s (State.takePwm s set) := by
  unfold State.takePwm
  try dsimp only
  repeat' first
    | with_reducible exact .refl _ _
    | decide
    | split
    | with_reducible apply Frame.set_pwm

theorem State.replanPair_frame (s : State) (f p : Nat) :
    Frame [.pairs] s (State.replanPair s f p) := by
  unfold State.replanPair
  try dsimp only
  repeat' first
    | with_reducible exact .refl _ _
    | decide
    | split
    | with_reducible apply Frame.after (State.modPair_frame ..)

theorem State.recordClamp_frame (s : State) (f p : Nat) :
    Frame [.regs, .pairs] s (State.recordClamp s f p) := by
  unfold State.recordClamp
  try dsimp only
  repeat' first
    | with_reducible exact .refl _ _
    | decide
    | split
    | with_reducible apply Frame.after (State.count_frame ..)
    | with_reducible apply Frame.after (State.flag_frame ..)
    | with_reducible apply Frame.after (State.modPair_frame ..)

theorem State.putLive_frame (s : State) (f p a b : Nat) :
    Frame [.regs, .pairs] s (State.putLive s f p a b) := by
  unfold State.putLive
  try dsimp only
  repeat' first
    | with_reducible exact .refl _ _
    | decide
    | split
    | with_reducible apply Frame.after (State.modPair_frame ..)
    | with_reducible apply Frame.after (State.put_frame ..)
    | with_reducible apply Frame.after (State.recordClamp_frame ..)

theorem State.setLive_frame (s : State) (f p a b : Nat) :
    Frame [.regs, .pairs] s (State.setLive s f p a b) := by
  unfold State.setLive
  try dsimp only
  repeat' first
    | with_reducible exact .refl _ _
    | decide
    | split
    | with_reducible apply Frame.after (State.putLive_frame ..)
    | with_reducible apply Frame.after (State.replanPair_frame ..)

theorem State.directPairs_frame (s : State) (f : Nat) :
    Frame [.regs, .pairs] s (State.directPairs s f) := by
  unfold State.directPairs
  try dsimp only
  repeat' first
    | with_reducible exact .refl _ _
    | decide
    | split
    | with_reducible apply Frame.after (State.setLive_frame ..)
    | with_reducible refine Frame.foldl_after _ _ (fun s x => ?_) ?_
    | with_reducible refine Frame.foldl_fst _ _ (fun a x => ?_) ?_

theorem State.pairFault_frame (s : State) (p src : Nat) :
    Frame [.regs, .rings, .eventSeq, .sent, .pairs, .runner] s (State.pairFault s p src) := by
  unfold State.pairFault
  try dsimp only
  repeat' first
    | with_reducible exact .refl _ _
    | decide
    | split
    | with_reducible apply Frame.after (State.event_frame ..)
    | with_reducible apply Frame.after (State.flag_frame ..)
    | with_reducible apply Frame.after (State.modPair_frame ..)

theorem State.pairRelease_frame (s : State) (p : Nat) :
    Frame [.regs, .rings, .eventSeq, .sent, .pairs, .runner] s (State.pairRelease s p) := by
  unfold State.pairRelease
  try dsimp only
  repeat' first
    | with_reducible exact .refl _ _
    | decide
    | split
    | with_reducible apply Frame.after (State.event_frame ..)
    | with_reducible apply Frame.after (State.modPair_frame ..)

theorem State.pairSourceGone_frame (s : State) (p src : Nat) :
    Frame [.regs, .rings, .eventSeq, .sent, .pairs, .runner] s (State.pairSourceGone s p src) := by
  unfold State.pairSourceGone
  try dsimp only
  repeat' first
    | with_reducible exact .refl _ _
    | decide
    | split
    | with_reducible apply Frame.after (State.modPair_frame ..)
    | with_reducible apply Frame.after (State.pairRelease_frame ..)

theorem State.syncFaults_frame (s : State) (p : Nat) :
    Frame [.regs, .rings, .eventSeq, .sent, .pairs, .runner] s (State.syncFaults s p) := by
  unfold State.syncFaults
  try dsimp only
  repeat' first
    | with_reducible exact .refl _ _
    | decide
    | split
    | with_reducible apply Frame.after (State.pairFault_frame ..)
    | with_reducible apply Frame.after (State.pairSourceGone_frame ..)
    | with_reducible refine Frame.foldl_after _ _ (fun s x => ?_) ?_
    | with_reducible refine Frame.foldl_fst _ _ (fun a x => ?_) ?_

theorem State.takeFurrow_frame (s : State) (f : Nat) :
    Frame [.regs, .rings, .eventSeq, .sent, .pairs, .pwm, .runner] s (State.takeFurrow s f) := by
  unfold State.takeFurrow
  try dsimp only
  repeat' first
    | with_reducible exact .refl _ _
    | decide
    | split
    | with_reducible apply Frame.after (State.syncFaults_frame ..)
    | with_reducible apply Frame.after (State.takePwm_frame ..)
    | with_reducible refine Frame.foldl_after _ _ (fun s x => ?_) ?_
    | with_reducible refine Frame.foldl_fst _ _ (fun a x => ?_) ?_

theorem State.placeCounter_frame (s : State) (f : Nat) :
    Frame [.furrows] s (State.placeCounter s f) := by
  unfold State.placeCounter
  try dsimp only
  repeat' first
    | with_reducible exact .refl _ _
    | decide
    | split
    | with_reducible apply Frame.after (State.modFurrow_frame ..)

theorem State.startFurrow_frame (s : State) (f : Nat) :
    Frame [.regs, .rings, .eventSeq, .sent, .furrows, .pairs, .pwm, .runner] s (State.startFurrow s f) := by
  unfold State.startFurrow
  try dsimp only
  repeat' first
    | with_reducible exact .refl _ _
    | decide
    | split
    | with_reducible apply Frame.after (State.directPairs_frame ..)
    | with_reducible apply Frame.after (State.modFurrow_frame ..)
    | with_reducible apply Frame.after (State.modPair_frame ..)
    | with_reducible apply Frame.after (State.placeCounter_frame ..)
    | with_reducible apply Frame.after (State.put_frame ..)
    | with_reducible apply Frame.after (State.takeFurrow_frame ..)
    | with_reducible refine Frame.foldl_after _ _ (fun s x => ?_) ?_
    | with_reducible refine Frame.foldl_fst _ _ (fun a x => ?_) ?_

theorem State.stopFurrow_frame (s : State) (f : Nat) :
    Frame [.furrows, .pairs] s (State.stopFurrow s f) := by
  unfold State.stopFurrow
  try dsimp only
  repeat' first
    | with_reducible exact .refl _ _
    | decide
    | split
    | with_reducible apply Frame.after (State.modFurrow_frame ..)
    | with_reducible apply Frame.after (State.modPair_frame ..)
    | with_reducible refine Frame.foldl_after _ _ (fun s x => ?_) ?_
    | with_reducible refine Frame.foldl_fst _ _ (fun a x => ?_) ?_

theorem State.startFurrows_frame (s : State) :
    Frame [.regs, .rings, .eventSeq, .sent, .furrows, .pairs, .pwm, .runner] s (State.startFurrows s) := by
  unfold State.startFurrows
  try dsimp only
  repeat' first
    | with_reducible exact .refl _ _
    | decide
    | split
    | with_reducible apply Frame.after (State.startFurrow_frame ..)
    | with_reducible refine Frame.foldl_after _ _ (fun s x => ?_) ?_
    | with_reducible refine Frame.foldl_fst _ _ (fun a x => ?_) ?_

theorem State.stopFurrows_frame (s : State) :
    Frame [.furrows, .pairs] s (State.stopFurrows s) := by
  unfold State.stopFurrows
  try dsimp only
  repeat' first
    | with_reducible exact .refl _ _
    | decide
    | split
    | with_reducible apply Frame.after (State.stopFurrow_frame ..)
    | with_reducible refine Frame.foldl_after _ _ (fun s x => ?_) ?_
    | with_reducible refine Frame.foldl_fst _ _ (fun a x => ?_) ?_

theorem State.takeSettings_frame (s : State) (f : Nat) :
    Frame [.regs, .rings, .eventSeq, .sent, .furrows, .pairs, .pwm, .runner] s (State.takeSettings s f).1 := by
  unfold State.takeSettings
  try dsimp only
  repeat' first
    | with_reducible exact .refl _ _
    | decide
    | split
    | with_reducible apply Frame.after (State.modFurrow_frame ..)
    | with_reducible apply Frame.after (State.put_frame ..)
    | with_reducible apply Frame.after (State.stopFurrow_frame ..)
    | with_reducible apply Frame.after (State.takeFurrow_frame ..)

theorem State.phaseAt_frame (s : State) (f : Nat) (atPeriod : Bool) :
    Frame [.furrows] s (State.phaseAt s f atPeriod) := by
  unfold State.phaseAt
  try dsimp only
  repeat' first
    | with_reducible exact .refl _ _
    | decide
    | split
    | with_reducible apply Frame.after (State.modFurrow_frame ..)

theorem State.transferPair_frame (s : State) (f p : Nat) (named : Bool) (duty : Option Int) :
    Frame [.regs, .pairs] s (State.transferPair s f p named duty) := by
  unfold State.transferPair
  try dsimp only
  repeat' first
    | with_reducible exact .refl _ _
    | decide
    | split
    | with_reducible apply Frame.after (State.putLive_frame ..)

theorem State.resumePairs_frame (s : State) (f : Nat) :
    Frame [.pairs] s (State.resumePairs s f) := by
  unfold State.resumePairs
  try dsimp only
  repeat' first
    | with_reducible exact .refl _ _
    | decide
    | split
    | with_reducible apply Frame.after (State.modPair_frame ..)
    | with_reducible refine Frame.foldl_after _ _ (fun s x => ?_) ?_
    | with_reducible refine Frame.foldl_fst _ _ (fun a x => ?_) ?_

theorem State.reloadLocal_frame (s : State) (f : Nat) (atPeriod : Bool) :
    Frame [.regs, .rings, .eventSeq, .sent, .furrows, .pairs, .pwm, .runner] s (State.reloadLocal s f atPeriod) := by
  unfold State.reloadLocal
  try dsimp only
  repeat' first
    | with_reducible exact .refl _ _
    | decide
    | split
    | with_reducible apply Frame.after (State.count_frame ..)
    | with_reducible apply Frame.after (State.countBy_frame ..)
    | with_reducible apply Frame.after (State.modFurrow_frame ..)
    | with_reducible apply Frame.after (State.phaseAt_frame ..)
    | with_reducible apply Frame.after (State.placeCounter_frame ..)
    | with_reducible apply Frame.after (State.put_frame ..)
    | with_reducible apply Frame.after (State.putT_frame ..)
    | with_reducible apply Frame.after (State.recordClamp_frame ..)
    | with_reducible apply Frame.after (State.replanPair_frame ..)
    | with_reducible apply Frame.after (State.resumePairs_frame ..)
    | with_reducible apply Frame.after (State.takeSettings_frame ..)
    | with_reducible apply Frame.after (State.transferPair_frame ..)
    | with_reducible refine Frame.foldl_after _ _ (fun s x => ?_) ?_
    | with_reducible refine Frame.foldl_fst _ _ (fun a x => ?_) ?_

theorem State.recordXcond_frame (s : State) (f p : Nat) (low : Bool) :
    Frame [.regs, .rings, .eventSeq, .sent, .pairs, .runner] s (State.recordXcond s f p low) := by
  unfold State.recordXcond
  try dsimp only
  repeat' first
    | with_reducible exact .refl _ _
    | decide
    | split
    | with_reducible apply Frame.after (State.count_frame ..)
    | with_reducible apply Frame.after (State.event_frame ..)
    | with_reducible apply Frame.after (State.flag_frame ..)
    | with_reducible apply Frame.after (State.modPair_frame ..)

theorem State.directPeriod_frame (s : State) (f v : Nat) :
    Frame [.regs, .furrows, .pairs] s (State.directPeriod s f v) := by
  unfold State.directPeriod
  try dsimp only
  repeat' first
    | with_reducible exact .refl _ _
    | decide
    | split
    | with_reducible apply Frame.after (State.directPairs_frame ..)
    | with_reducible apply Frame.after (State.modFurrow_frame ..)
    | with_reducible apply Frame.after (State.put_frame ..)

/-! ## GateLink -/

theorem State.modLane_frame (s : State) (l : Nat) (g : GateLane → GateLane) :
    Frame [.lanes] s (State.modLane s l g) := by
  unfold State.modLane
  try dsimp only
  repeat' first
    | with_reducible exact .refl _ _
    | decide
    | split
    | with_reducible apply Frame.set_lanes

theorem State.modNode_frame (s : State) (l n : Nat) (g : GateNode → GateNode) :
    Frame [.nodes] s (State.modNode s l n g) := by
  unfold State.modNode
  try dsimp only
  repeat' first
    | with_reducible exact .refl _ _
    | decide
    | split
    | with_reducible apply Frame.set_nodes

theorem State.modRemote_frame (s : State) (l p : Nat) (g : RemotePair → RemotePair) :
    Frame [.remotes] s (State.modRemote s l p g) := by
  unfold State.modRemote
  try dsimp only
  repeat' first
    | with_reducible exact .refl _ _
    | decide
    | split
    | with_reducible apply Frame.set_remotes

theorem State.laneSend_frame (s : State) (l type : Nat) (fields : List Int) :
    Frame [.sent, .runner] s (State.laneSend s l type fields) := by
  unfold State.laneSend
  try dsimp only
  repeat' first
    | with_reducible exact .refl _ _
    | decide
    | split
    | with_reducible apply Frame.after (State.send_frame ..)

theorem State.mgmt_frame (s : State) (l n type : Nat) (payload : Bytes) :
    Frame [.sent, .runner] s (State.mgmt s l n type payload) := by
  unfold State.mgmt
  try dsimp only
  repeat' first
    | with_reducible exact .refl _ _
    | decide
    | split
    | with_reducible apply Frame.after (State.laneSend_frame ..)

theorem State.closeBlock_frame (s : State) (l : Nat) :
    Frame [.sent, .lanes, .runner] s (State.closeBlock s l) := by
  unfold State.closeBlock
  try dsimp only
  repeat' first
    | with_reducible exact .refl _ _
    | decide
    | split
    | with_reducible apply Frame.after (State.laneSend_frame ..)
    | with_reducible apply Frame.after (State.modLane_frame ..)

theorem State.openBlock_frame (s : State) (l : Nat) :
    Frame [.sent, .lanes, .runner] s (State.openBlock s l) := by
  unfold State.openBlock
  try dsimp only
  repeat' first
    | with_reducible exact .refl _ _
    | decide
    | split
    | with_reducible apply Frame.after (State.laneSend_frame ..)
    | with_reducible apply Frame.after (State.modLane_frame ..)

theorem State.sendStop_frame (s : State) (l ch : Nat) :
    Frame [.regs, .sent, .lanes, .remotes, .runner] s (State.sendStop s l ch) := by
  unfold State.sendStop
  try dsimp only
  repeat' first
    | with_reducible exact .refl _ _
    | decide
    | split
    | with_reducible apply Frame.after (State.closeBlock_frame ..)
    | with_reducible apply Frame.after (State.count_frame ..)
    | with_reducible apply Frame.after (State.flag_frame ..)
    | with_reducible apply Frame.after (State.laneSend_frame ..)
    | with_reducible apply Frame.after (State.modLane_frame ..)
    | with_reducible apply Frame.after (State.modRemote_frame ..)

theorem State.sendRelease_frame (s : State) (l p : Nat) :
    Frame [.sent, .remotes, .runner] s (State.sendRelease s l p) := by
  unfold State.sendRelease
  try dsimp only
  repeat' first
    | with_reducible exact .refl _ _
    | decide
    | split
    | with_reducible apply Frame.after (State.mgmt_frame ..)
    | with_reducible apply Frame.after (State.modRemote_frame ..)

theorem State.inhibitLane_frame (s : State) (l : Nat) :
    Frame [.sent, .lanes, .remotes, .runner] s (State.inhibitLane s l) := by
  unfold State.inhibitLane
  try dsimp only
  repeat' first
    | with_reducible exact .refl _ _
    | decide
    | split
    | with_reducible apply Frame.after (State.closeBlock_frame ..)
    | with_reducible apply Frame.after (State.laneSend_frame ..)
    | with_reducible apply Frame.after (State.modLane_frame ..)
    | with_reducible apply Frame.after (State.modRemote_frame ..)
    | with_reducible refine Frame.foldl_after _ _ (fun s x => ?_) ?_
    | with_reducible refine Frame.foldl_fst _ _ (fun a x => ?_) ?_

theorem State.inhibitLanes_frame (s : State) :
    Frame [.sent, .lanes, .remotes, .runner] s (State.inhibitLanes s) := by
  unfold State.inhibitLanes
  try dsimp only
  repeat' first
    | with_reducible exact .refl _ _
    | decide
    | split
    | with_reducible apply Frame.after (State.inhibitLane_frame ..)
    | with_reducible refine Frame.foldl_after _ _ (fun s x => ?_) ?_
    | with_reducible refine Frame.foldl_fst _ _ (fun a x => ?_) ?_

theorem State.upliftLanes_frame (s : State) :
    Frame [.sent, .lanes, .runner] s (State.upliftLanes s) := by
  unfold State.upliftLanes
  try dsimp only
  repeat' first
    | with_reducible exact .refl _ _
    | decide
    | split
    | with_reducible apply Frame.after (State.laneSend_frame ..)
    | with_reducible apply Frame.after (State.modLane_frame ..)
    | with_reducible refine Frame.foldl_after _ _ (fun s x => ?_) ?_
    | with_reducible refine Frame.foldl_fst _ _ (fun a x => ?_) ?_

theorem State.laneRates_frame (s : State) (full : Bool) :
    Frame [.lanes] s (State.laneRates s full) := by
  unfold State.laneRates
  try dsimp only
  repeat' first
    | with_reducible exact .refl _ _
    | decide
    | split
    | with_reducible apply Frame.after (State.modLane_frame ..)
    | with_reducible refine Frame.foldl_after _ _ (fun s x => ?_) ?_
    | with_reducible refine Frame.foldl_fst _ _ (fun a x => ?_) ?_

theorem State.queueEdge_frame (s : State) (l ch : Nat) (level : Bool) (t : ST64) (rake : Bool) :
    Frame [.regs, .lanes] s (State.queueEdge s l ch level t rake) := by
  unfold State.queueEdge
  try dsimp only
  repeat' first
    | with_reducible exact .refl _ _
    | decide
    | split
    | with_reducible apply Frame.after (State.modLane_frame ..)
    | with_reducible apply Frame.after (State.put_frame ..)

theorem State.refuseEdge_frame (s : State) (l : Nat) (c : EdgeCmd) :
    Frame [.regs, .remotes] s (State.refuseEdge s l c) := by
  unfold State.refuseEdge
  try dsimp only
  repeat' first
    | with_reducible exact .refl _ _
    | decide
    | split
    | with_reducible apply Frame.after (State.flag_frame ..)
    | with_reducible apply Frame.after (State.modRemote_frame ..)

theorem State.departEdge_frame (s : State) (l : Nat) (c : EdgeCmd) :
    Frame [.regs, .sent, .lanes, .nodes, .remotes, .runner] s (State.departEdge s l c) := by
  unfold State.departEdge
  try dsimp only
  repeat' first
    | with_reducible exact .refl _ _
    | decide
    | split
    | with_reducible apply Frame.after (State.closeBlock_frame ..)
    | with_reducible apply Frame.after (State.count_frame ..)
    | with_reducible apply Frame.after (State.countBy_frame ..)
    | with_reducible apply Frame.after (State.laneSend_frame ..)
    | with_reducible apply Frame.after (State.modNode_frame ..)
    | with_reducible apply Frame.after (State.modRemote_frame ..)
    | with_reducible apply Frame.after (State.openBlock_frame ..)

theorem State.leadEvent_frame (s : State) (l ch : Nat) (lead : Int) :
    Frame [.regs, .rings, .eventSeq, .sent, .lanes, .runner] s (State.leadEvent s l ch lead) := by
  unfold State.leadEvent
  try dsimp only
  repeat' first
    | with_reducible exact .refl _ _
    | decide
    | split
    | with_reducible apply Frame.after (State.event_frame ..)
    | with_reducible apply Frame.after (State.modLane_frame ..)

theorem State.tryEdge_frame (s : State) (l : Nat) (c : EdgeCmd) :
    Frame [.regs, .rings, .eventSeq, .sent, .lanes, .nodes, .remotes, .runner] s (State.tryEdge s l c) := by
  unfold State.tryEdge
  try dsimp only
  repeat' first
    | with_reducible exact .refl _ _
    | decide
    | split
    | with_reducible apply Frame.after (State.closeBlock_frame ..)
    | with_reducible apply Frame.after (State.count_frame ..)
    | with_reducible apply Frame.after (State.departEdge_frame ..)
    | with_reducible apply Frame.after (State.flag_frame ..)
    | with_reducible apply Frame.after (State.leadEvent_frame ..)
    | with_reducible apply Frame.after (State.refuseEdge_frame ..)

theorem State.remoteXcond_frame (s : State) (f l p : Nat) (low : Bool) :
    Frame [.regs, .rings, .eventSeq, .sent, .remotes, .runner] s (State.remoteXcond s f l p low) := by
  unfold State.remoteXcond
  try dsimp only
  repeat' first
    | with_reducible exact .refl _ _
    | decide
    | split
    | with_reducible apply Frame.after (State.count_frame ..)
    | with_reducible apply Frame.after (State.event_frame ..)
    | with_reducible apply Frame.after (State.flag_frame ..)
    | with_reducible apply Frame.after (State.modRemote_frame ..)

theorem State.reloadRemote_frame (s : State) (f : Nat) (lp : Nat × Nat) :
    Frame [.regs, .rings, .eventSeq, .sent, .lanes, .remotes, .runner] s (State.reloadRemote s f lp) := by
  unfold State.reloadRemote
  try dsimp only
  repeat' first
    | with_reducible exact .refl _ _
    | decide
    | split
    | with_reducible apply Frame.after (State.countBy_frame ..)
    | with_reducible apply Frame.after (State.flag_frame ..)
    | with_reducible apply Frame.after (State.modRemote_frame ..)
    | with_reducible apply Frame.after (State.put_frame ..)
    | with_reducible apply Frame.after (State.queueEdge_frame ..)
    | with_reducible apply Frame.after (State.remoteXcond_frame ..)
    | with_reducible refine Frame.foldl_after _ _ (fun s x => ?_) ?_
    | with_reducible refine Frame.foldl_fst _ _ (fun a x => ?_) ?_

theorem State.reloadRemotes_frame (s : State) (f : Nat) :
    Frame [.regs, .rings, .eventSeq, .sent, .furrows, .lanes, .remotes, .runner] s (State.reloadRemotes s f) := by
  unfold State.reloadRemotes
  try dsimp only
  repeat' first
    | with_reducible exact .refl _ _
    | decide
    | split
    | with_reducible apply Frame.after (State.modFurrow_frame ..)
    | with_reducible apply Frame.after (State.reloadRemote_frame ..)
    | with_reducible refine Frame.foldl_after _ _ (fun s x => ?_) ?_
    | with_reducible refine Frame.foldl_fst _ _ (fun a x => ?_) ?_

theorem State.clearRemotes_frame (s : State) :
    Frame [.remotes] s (State.clearRemotes s) := by
  unfold State.clearRemotes
  try dsimp only
  repeat' first
    | with_reducible exact .refl _ _
    | decide
    | split
    | with_reducible apply Frame.after (State.modRemote_frame ..)
    | with_reducible refine Frame.foldl_after _ _ (fun s x => ?_) ?_
    | with_reducible refine Frame.foldl_fst _ _ (fun a x => ?_) ?_

theorem State.startRemotes_frame (s : State) :
    Frame [.regs, .remotes] s (State.startRemotes s) := by
  unfold State.startRemotes
  try dsimp only
  repeat' first
    | with_reducible exact .refl _ _
    | decide
    | split
    | with_reducible apply Frame.after (State.modRemote_frame ..)
    | with_reducible apply Frame.after (State.put_frame ..)
    | with_reducible refine Frame.foldl_after _ _ (fun s x => ?_) ?_
    | with_reducible refine Frame.foldl_fst _ _ (fun a x => ?_) ?_

theorem State.modArm_frame (s : State) (a : Nat) (g : RakeArm → RakeArm) :
    Frame [.arms] s (State.modArm s a g) := by
  unfold State.modArm
  try dsimp only
  repeat' first
    | with_reducible exact .refl _ _
    | decide
    | split
    | with_reducible apply Frame.set_arms

theorem State.rakeCommand_frame (s : State) (a : Nat) (t : ST64) (l p : Nat) (want : Bool) :
    Frame [.regs, .lanes, .remotes] s (State.rakeCommand s a t l p want) := by
  unfold State.rakeCommand
  try dsimp only
  repeat' first
    | with_reducible exact .refl _ _
    | decide
    | split
    | with_reducible apply Frame.after (State.modRemote_frame ..)
    | with_reducible apply Frame.after (State.queueEdge_frame ..)

theorem State.rakeApply_frame (s : State) (a : Nat) (t : ST64) (base : Nat) (want : Nat → Bool) :
    Frame [.regs, .lanes, .remotes] s (State.rakeApply s a t base want) := by
  unfold State.rakeApply
  try dsimp only
  repeat' first
    | with_reducible exact .refl _ _
    | decide
    | split
    | with_reducible apply Frame.after (State.rakeCommand_frame ..)
    | with_reducible refine Frame.foldl_after _ _ (fun s x => ?_) ?_
    | with_reducible refine Frame.foldl_fst _ _ (fun a x => ?_) ?_

theorem State.rakeRegs_frame (s : State) (a : Nat) (t : ST64) (p : Nat × Nat × List Nat × Nat) :
    Frame [.regs] s (State.rakeRegs s a t p) := by
  unfold State.rakeRegs
  try dsimp only
  repeat' first
    | with_reducible exact .refl _ _
    | decide
    | split
    | with_reducible apply Frame.after (State.countBy_frame ..)
    | with_reducible apply Frame.after (State.put_frame ..)
    | with_reducible apply Frame.after (State.putB_frame ..)
    | with_reducible apply Frame.after (State.putT_frame ..)

theorem State.shareSets_frame (s : State) (a : Nat) (t : ST64) (now : List Nat) :
    Frame [.sent, .runner] s (State.shareSets s a t now) := by
  unfold State.shareSets
  try dsimp only
  repeat' first
    | with_reducible exact .refl _ _
    | decide
    | split
    | with_reducible apply Frame.after (State.send_frame ..)
    | with_reducible refine Frame.foldl_after _ _ (fun s x => ?_) ?_
    | with_reducible refine Frame.foldl_fst _ _ (fun a x => ?_) ?_

theorem State.rakeRun_frame (s : State) (a n : Nat) (t : ST64) :
    Frame [.regs, .rings, .eventSeq, .sent, .lanes, .remotes, .runner] s (State.rakeRun s a n t) := by
  unfold State.rakeRun
  try dsimp only
  repeat' first
    | with_reducible exact .refl _ _
    | decide
    | split
    | with_reducible apply Frame.after (State.event_frame ..)
    | with_reducible apply Frame.after (State.flag_frame ..)
    | with_reducible apply Frame.after (State.rakeApply_frame ..)
    | with_reducible apply Frame.after (State.rakeRegs_frame ..)
    | with_reducible apply Frame.after (State.shareSets_frame ..)

theorem State.staleVcap_frame (s : State) :
    Frame [.regs] s (State.staleVcap s) := by
  unfold State.staleVcap
  try dsimp only
  repeat' first
    | with_reducible exact .refl _ _
    | decide
    | split
    | with_reducible apply Frame.after (State.flag_frame ..)
    | with_reducible refine Frame.foldl_after _ _ (fun s x => ?_) ?_
    | with_reducible refine Frame.foldl_fst _ _ (fun a x => ?_) ?_

theorem State.linkFaultOn_frame (s : State) (l n cause : Nat) :
    Frame [.regs, .rings, .eventSeq, .sent, .nodes, .runner] s (State.linkFaultOn s l n cause) := by
  unfold State.linkFaultOn
  try dsimp only
  repeat' first
    | with_reducible exact .refl _ _
    | decide
    | split
    | with_reducible apply Frame.after (State.count_frame ..)
    | with_reducible apply Frame.after (State.event_frame ..)
    | with_reducible apply Frame.after (State.flag_frame ..)
    | with_reducible apply Frame.after (State.modNode_frame ..)
    | with_reducible refine Frame.foldl_after _ _ (fun s x => ?_) ?_
    | with_reducible refine Frame.foldl_fst _ _ (fun a x => ?_) ?_

theorem State.linkFaultOff_frame (s : State) (l n : Nat) :
    Frame [.regs, .rings, .eventSeq, .sent, .nodes, .runner] s (State.linkFaultOff s l n) := by
  unfold State.linkFaultOff
  try dsimp only
  repeat' first
    | with_reducible exact .refl _ _
    | decide
    | split
    | with_reducible apply Frame.after (State.event_frame ..)
    | with_reducible apply Frame.after (State.modNode_frame ..)

theorem State.upstreamLost_frame (s : State) (l : Nat) :
    Frame [.regs, .lanes] s (State.upstreamLost s l) := by
  unfold State.upstreamLost
  try dsimp only
  repeat' first
    | with_reducible exact .refl _ _
    | decide
    | split
    | with_reducible apply Frame.after (State.flag_frame ..)
    | with_reducible apply Frame.after (State.modLane_frame ..)

theorem State.configNode_frame (s : State) (l n : Nat) :
    Frame [.sent, .nodes, .runner] s (State.configNode s l n) := by
  unfold State.configNode
  try dsimp only
  repeat' first
    | with_reducible exact .refl _ _
    | decide
    | split
    | with_reducible apply Frame.after (State.mgmt_frame ..)
    | with_reducible apply Frame.after (State.modNode_frame ..)

theorem State.chainStep_frame (s : State) (l kind step : Nat) :
    Frame [.sent, .lanes, .nodes, .runner] s (State.chainStep s l kind step) := by
  unfold State.chainStep
  try dsimp only
  repeat' first
    | with_reducible exact .refl _ _
    | decide
    | split
    | with_reducible apply Frame.after (State.configNode_frame ..)
    | with_reducible apply Frame.after (State.mgmt_frame ..)
    | with_reducible apply Frame.after (State.modLane_frame ..)
    | with_reducible refine Frame.foldl_after _ _ (fun s x => ?_) ?_
    | with_reducible refine Frame.foldl_fst _ _ (fun a x => ?_) ?_

theorem State.chainAnswered_frame (s : State) (l n : Nat) :
    Frame [.sent, .lanes, .nodes, .runner] s (State.chainAnswered s l n) := by
  unfold State.chainAnswered
  try dsimp only
  repeat' first
    | with_reducible exact .refl _ _
    | decide
    | split
    | with_reducible apply Frame.after (State.chainStep_frame ..)
    | with_reducible apply Frame.after (State.modLane_frame ..)

theorem State.chainResync_frame (s : State) (l kind : Nat) :
    Frame [.sent, .lanes, .nodes, .runner] s (State.chainResync s l kind) := by
  unfold State.chainResync
  try dsimp only
  repeat' first
    | with_reducible exact .refl _ _
    | decide
    | split
    | with_reducible apply Frame.after (State.chainStep_frame ..)

theorem State.bypass_frame (s : State) (l n action cause : Nat) :
    Frame [.regs, .rings, .eventSeq, .sent, .nodes, .shears, .runner] s (State.bypass s l n action cause) := by
  unfold State.bypass
  try dsimp only
  repeat' first
    | with_reducible exact .refl _ _
    | decide
    | split
    | with_reducible apply Frame.after (State.event_frame ..)
    | with_reducible apply Frame.after (State.mgmt_frame ..)
    | with_reducible apply Frame.after (State.modNode_frame ..)
    | with_reducible apply Frame.after (State.modShears_frame ..)
    | with_reducible refine Frame.foldl_after _ _ (fun s x => ?_) ?_
    | with_reducible refine Frame.foldl_fst _ _ (fun a x => ?_) ?_

theorem State.masterHeard_frame (s : State) :
    Frame [.ctl, .runner] s (State.masterHeard s) := by
  unfold State.masterHeard
  try dsimp only
  repeat' first
    | with_reducible exact .refl _ _
    | decide
    | split
    | with_reducible apply Frame.after (State.dropCause_frame ..)
    | with_reducible apply Frame.after (State.modRunner_frame ..)

theorem State.memberRegs_frame (s : State) (a member : Nat) (t : ST64) :
    Frame [.regs] s (State.memberRegs s a member t) := by
  unfold State.memberRegs
  try dsimp only
  repeat' first
    | with_reducible exact .refl _ _
    | decide
    | split
    | with_reducible apply Frame.after (State.countBy_frame ..)
    | with_reducible apply Frame.after (State.put_frame ..)
    | with_reducible apply Frame.after (State.putB_frame ..)
    | with_reducible apply Frame.after (State.putT_frame ..)

end Sys2Proof.Machine
end

