-- ==== Sys2Proof/Laws/FrameUnits.lean ====
section
/-! SUPPORT. What the Harvest, the Sieve, the Sundial, the network,
    the Cloche and the Shears may change: one lemma per operation. -/

namespace Sys2Proof.Machine
open State

/-! ## Harvest -/

theorem State.modHunit_frame (s : State) (u : Nat) (g : HarvestUnit → HarvestUnit) :
    Frame [.harvest] s (State.modHunit s u g) := by
  unfold State.modHunit
  try dsimp only
  repeat' first
    | with_reducible exact .refl _ _
    | decide
    | split
    | with_reducible apply Frame.set_harvest

theorem State.noteSample_frame (s : State) (ch : Nat) :
    Frame [.prior] s (State.noteSample s ch) := by
  unfold State.noteSample
  try dsimp only
  repeat' first
    | with_reducible exact .refl _ _
    | decide
    | split
    | with_reducible apply Frame.after (State.modPrior_frame ..)

theorem State.noteCopy_frame (s : State) (e : Nat) :
    Frame [.prior] s (State.noteCopy s e) := by
  unfold State.noteCopy
  try dsimp only
  repeat' first
    | with_reducible exact .refl _ _
    | decide
    | split
    | with_reducible apply Frame.after (State.modPrior_frame ..)

theorem State.noteShared_frame (s : State) (a : Nat) :
    Frame [.prior] s (State.noteShared s a) := by
  unfold State.noteShared
  try dsimp only
  repeat' first
    | with_reducible exact .refl _ _
    | decide
    | split
    | with_reducible apply Frame.after (State.modPrior_frame ..)

theorem State.hstate_frame (s : State) (u : Nat) (st : HarvestState) :
    Frame [.regs, .harvest] s (State.hstate s u st) := by
  unfold State.hstate
  try dsimp only
  repeat' first
    | with_reducible exact .refl _ _
    | decide
    | split
    | with_reducible apply Frame.after (State.modHunit_frame ..)
    | with_reducible apply Frame.after (State.put_frame ..)

theorem State.harvestDone_frame (s : State) (u : Nat) :
    Frame [.regs, .rings, .eventSeq, .sent, .harvest, .runner] s (State.harvestDone s u) := by
  unfold State.harvestDone
  try dsimp only
  repeat' first
    | with_reducible exact .refl _ _
    | decide
    | split
    | with_reducible apply Frame.after (State.count_frame ..)
    | with_reducible apply Frame.after (State.event_frame ..)
    | with_reducible apply Frame.after (State.hstate_frame ..)
    | with_reducible apply Frame.after (State.modHunit_frame ..)
    | with_reducible apply Frame.after (State.putB_frame ..)

theorem State.harvestTruncate_frame (s : State) (u : Nat) :
    Frame [.regs, .rings, .eventSeq, .sent, .harvest, .runner] s (State.harvestTruncate s u) := by
  unfold State.harvestTruncate
  try dsimp only
  repeat' first
    | with_reducible exact .refl _ _
    | decide
    | split
    | with_reducible apply Frame.after (State.flag_frame ..)
    | with_reducible apply Frame.after (State.harvestDone_frame ..)
    | with_reducible apply Frame.after (State.modHunit_frame ..)

theorem State.harvestEndWhere_frame (s : State) (p : Nat → Bool) :
    Frame [.regs, .rings, .eventSeq, .sent, .harvest, .runner] s (State.harvestEndWhere s p) := by
  unfold State.harvestEndWhere
  try dsimp only
  repeat' first
    | with_reducible exact .refl _ _
    | decide
    | split
    | with_reducible apply Frame.after (State.harvestTruncate_frame ..)
    | with_reducible refine Frame.foldl_after _ _ (fun s x => ?_) ?_
    | with_reducible refine Frame.foldl_fst _ _ (fun a x => ?_) ?_

theorem State.harvestChannelLost_frame (s : State) (ch : Nat) :
    Frame [.regs, .rings, .eventSeq, .sent, .harvest, .runner] s (State.harvestChannelLost s ch) := by
  unfold State.harvestChannelLost
  try dsimp only
  repeat' first
    | with_reducible exact .refl _ _
    | decide
    | split
    | with_reducible apply Frame.after (State.harvestEndWhere_frame ..)

theorem State.harvestSpacingChanged_frame (s : State) :
    Frame [.regs, .rings, .eventSeq, .sent, .harvest, .runner] s (State.harvestSpacingChanged s) := by
  unfold State.harvestSpacingChanged
  try dsimp only
  repeat' first
    | with_reducible exact .refl _ _
    | decide
    | split
    | with_reducible apply Frame.after (State.harvestEndWhere_frame ..)

theorem State.harvestOriginMoved_frame (s : State) (by_ : Int) :
    Frame [.regs, .rings, .eventSeq, .sent, .harvest, .runner] s (State.harvestOriginMoved s by_) := by
  unfold State.harvestOriginMoved
  try dsimp only
  repeat' first
    | with_reducible exact .refl _ _
    | decide
    | split
    | with_reducible apply Frame.after (State.harvestEndWhere_frame ..)

theorem State.harvestFinish_frame (s : State) (u : Nat) :
    Frame [.regs, .rings, .eventSeq, .sent, .harvest, .runner] s (State.harvestFinish s u) := by
  unfold State.harvestFinish
  try dsimp only
  repeat' first
    | with_reducible exact .refl _ _
    | decide
    | split
    | with_reducible apply Frame.after (State.flag_frame ..)
    | with_reducible apply Frame.after (State.harvestDone_frame ..)
    | with_reducible apply Frame.after (State.modHunit_frame ..)

theorem State.harvestFireOne_frame (s : State) (u src flags : Nat) (t : ST64) :
    Frame [.regs, .rings, .eventSeq, .sent, .harvest, .runner] s (State.harvestFireOne s u src flags t) := by
  unfold State.harvestFireOne
  try dsimp only
  repeat' first
    | with_reducible exact .refl _ _
    | decide
    | split
    | with_reducible apply Frame.after (State.count_frame ..)
    | with_reducible apply Frame.after (State.eventAt_frame ..)
    | with_reducible apply Frame.after (State.flag_frame ..)
    | with_reducible apply Frame.after (State.harvestFinish_frame ..)
    | with_reducible apply Frame.after (State.hstate_frame ..)
    | with_reducible apply Frame.after (State.modHunit_frame ..)

theorem State.harvestFire_frame (s : State) (u src : Nat) (t : ST64) :
    Frame [.regs, .rings, .eventSeq, .sent, .harvest, .runner] s (State.harvestFire s u src t) := by
  unfold State.harvestFire
  try dsimp only
  repeat' first
    | with_reducible exact .refl _ _
    | decide
    | split
    | with_reducible apply Frame.after (State.harvestFireOne_frame ..)
    | with_reducible apply Frame.after (State.send_frame ..)
    | with_reducible refine Frame.foldl_after _ _ (fun s x => ?_) ?_
    | with_reducible refine Frame.foldl_fst _ _ (fun a x => ?_) ?_

theorem State.harvestFurrow_frame (s : State) (f ev : Nat) :
    Frame [.regs, .rings, .eventSeq, .sent, .harvest, .runner] s (State.harvestFurrow s f ev) := by
  unfold State.harvestFurrow
  try dsimp only
  repeat' first
    | with_reducible exact .refl _ _
    | decide
    | split
    | with_reducible apply Frame.after (State.harvestFire_frame ..)
    | with_reducible refine Frame.foldl_after _ _ (fun s x => ?_) ?_
    | with_reducible refine Frame.foldl_fst _ _ (fun a x => ?_) ?_

theorem State.harvestShears_frame (s : State) (applied : Nat) (decision : ST64) :
    Frame [.regs, .rings, .eventSeq, .sent, .harvest, .runner] s (State.harvestShears s applied decision) := by
  unfold State.harvestShears
  try dsimp only
  repeat' first
    | with_reducible exact .refl _ _
    | decide
    | split
    | with_reducible apply Frame.after (State.harvestFire_frame ..)
    | with_reducible refine Frame.foldl_after _ _ (fun s x => ?_) ?_
    | with_reducible refine Frame.foldl_fst _ _ (fun a x => ?_) ?_

theorem State.harvestLevel_frame (s : State) (u : Nat) :
    Frame [.regs, .rings, .eventSeq, .sent, .harvest, .runner] s (State.harvestLevel s u) := by
  unfold State.harvestLevel
  try dsimp only
  repeat' first
    | with_reducible exact .refl _ _
    | decide
    | split
    | with_reducible apply Frame.after (State.harvestFire_frame ..)
    | with_reducible apply Frame.after (State.modHunit_frame ..)

theorem State.harvestArm_frame (s : State) (u : Nat) :
    Frame [.regs, .harvest] s (State.harvestArm s u) := by
  unfold State.harvestArm
  try dsimp only
  repeat' first
    | with_reducible exact .refl _ _
    | decide
    | split
    | with_reducible apply Frame.after (State.countBy_frame ..)
    | with_reducible apply Frame.after (State.hstate_frame ..)
    | with_reducible apply Frame.after (State.modHunit_frame ..)
    | with_reducible apply Frame.after (State.put_frame ..)
    | with_reducible apply Frame.after (State.putB_frame ..)

theorem State.harvestWrite_frame (s : State) (u : Nat) (b : Bytes) :
    Frame [.regs, .rings, .eventSeq, .sent, .harvest, .runner] s (State.harvestWrite s u b) := by
  unfold State.harvestWrite
  try dsimp only
  repeat' first
    | with_reducible exact .refl _ _
    | decide
    | split
    | with_reducible apply Frame.after (State.countBy_frame ..)
    | with_reducible apply Frame.after (State.event_frame ..)
    | with_reducible apply Frame.after (State.flag_frame ..)
    | with_reducible apply Frame.after (State.hstate_frame ..)
    | with_reducible apply Frame.after (State.modHunit_frame ..)

theorem State.harvestFix_frame (s : State) (u : Nat) :
    Frame [.regs, .rings, .eventSeq, .sent, .harvest, .runner] s (State.harvestFix s u) := by
  unfold State.harvestFix
  try dsimp only
  repeat' first
    | with_reducible exact .refl _ _
    | decide
    | split
    | with_reducible apply Frame.after (State.harvestFinish_frame ..)
    | with_reducible apply Frame.after (State.modHunit_frame ..)

theorem State.harvestInstant_frame (s : State) (u : Nat) :
    Frame [.regs, .rings, .eventSeq, .sent, .harvest, .runner] s (State.harvestInstant s u) := by
  unfold State.harvestInstant
  try dsimp only
  repeat' first
    | with_reducible exact .refl _ _
    | decide
    | split
    | with_reducible apply Frame.after (State.flag_frame ..)
    | with_reducible apply Frame.after (State.harvestFix_frame ..)
    | with_reducible apply Frame.after (State.harvestLevel_frame ..)
    | with_reducible apply Frame.after (State.harvestWrite_frame ..)
    | with_reducible apply Frame.after (State.modHunit_frame ..)

theorem State.streamEntry_frame (s : State) (u kind offset : Nat) (b : Bytes) :
    Frame [.regs, .rings, .sent, .runner] s (State.streamEntry s u kind offset b) := by
  unfold State.streamEntry
  try dsimp only
  repeat' first
    | with_reducible exact .refl _ _
    | decide
    | split
    | with_reducible apply Frame.after (State.ringAppend_frame ..)

theorem State.streamRecord_frame (u k : Nat) (s : State) :
    Frame [.regs, .rings, .sent, .harvest, .runner] s (State.streamRecord u k s) := by
  induction k generalizing s with
  | zero => exact .refl _ _
  | succ k ih =>
    unfold State.streamRecord
    dsimp only
    split
    · exact .trans (.after (State.modHunit_frame ..) (by decide) (.after (State.ringAppend_frame ..) (by decide)
        (.refl _ _))) (ih _)
    · exact .refl _ _

theorem State.streamFrames_frame (u k : Nat) (s : State) :
    Frame [.regs, .rings, .sent, .harvest, .runner] s (State.streamFrames u k s) := by
  induction k generalizing s with
  | zero => exact .refl _ _
  | succ k ih =>
    unfold State.streamFrames
    dsimp only
    split
    · exact .refl _ _
    · split
      · refine .trans (.after (State.modHunit_frame ..) (by decide) ?_) (ih _)
        exact .foldl_after _ _ (fun s x => .mono (State.streamEntry_frame ..) (by decide)) (.refl _ _)
      · exact .refl _ _

theorem State.furrowEvent_frame (s : State) (f ev : Nat) :
    Frame [.regs, .rings, .eventSeq, .sent, .furrows, .harvest, .runner] s (State.furrowEvent s f ev) := by
  unfold State.furrowEvent
  try dsimp only
  repeat' first
    | with_reducible exact .refl _ _
    | decide
    | split
    | with_reducible apply Frame.after (State.flag_frame ..)
    | with_reducible apply Frame.after (State.harvestFurrow_frame ..)
    | with_reducible apply Frame.after (State.modFurrow_frame ..)
    | with_reducible apply Frame.after (State.send_frame ..)

/-! ## Sieve -/

theorem State.modSieve_frame (s : State) (g : Sieve → Sieve) :
    Frame [.sieve] s (State.modSieve s g) := by
  unfold State.modSieve
  try dsimp only
  repeat' first
    | with_reducible exact .refl _ _
    | decide
    | split
    | with_reducible apply Frame.set_sieve

theorem State.modChan_frame (s : State) (ch : Nat) (g : SieveChannel → SieveChannel) :
    Frame [.sieve] s (State.modChan s ch g) := by
  unfold State.modChan
  try dsimp only
  repeat' first
    | with_reducible exact .refl _ _
    | decide
    | split
    | with_reducible apply Frame.after (State.modSieve_frame ..)

theorem State.putStatus_frame (s : State) (ch : Nat) (st : Nat) :
    Frame [.regs, .rings, .eventSeq, .sent, .harvest, .prior, .runner] s (State.putStatus s ch st) := by
  unfold State.putStatus
  try dsimp only
  repeat' first
    | with_reducible exact .refl _ _
    | decide
    | split
    | with_reducible apply Frame.after (State.harvestChannelLost_frame ..)
    | with_reducible apply Frame.after (State.noteSample_frame ..)
    | with_reducible apply Frame.after (State.put_frame ..)

theorem State.deliver_frame (s : State) (ch : Nat) (v : Int) (t : ST64) (st : Nat) :
    Frame [.regs, .rings, .eventSeq, .sent, .harvest, .prior, .runner] s (State.deliver s ch v t st) := by
  unfold State.deliver
  try dsimp only
  repeat' first
    | with_reducible exact .refl _ _
    | decide
    | split
    | with_reducible apply Frame.after (State.noteSample_frame ..)
    | with_reducible apply Frame.after (State.put_frame ..)
    | with_reducible apply Frame.after (State.putStatus_frame ..)
    | with_reducible apply Frame.after (State.putT_frame ..)

theorem State.deliverSv_frame (s : State) (ch : Nat) (fallback : Bool) :
    Frame [.regs, .rings, .eventSeq, .sent, .sieve, .harvest, .prior, .runner] s (State.deliverSv s ch fallback) := by
  unfold State.deliverSv
  try dsimp only
  repeat' first
    | with_reducible exact .refl _ _
    | decide
    | split
    | with_reducible apply Frame.after (State.deliver_frame ..)
    | with_reducible apply Frame.after (State.modChan_frame ..)

theorem State.deliverLocal_frame (s : State) (ch : Nat) :
    Frame [.regs, .rings, .eventSeq, .sent, .sieve, .harvest, .prior, .runner] s (State.deliverLocal s ch) := by
  unfold State.deliverLocal
  try dsimp only
  repeat' first
    | with_reducible exact .refl _ _
    | decide
    | split
    | with_reducible apply Frame.after (State.deliver_frame ..)
    | with_reducible apply Frame.after (State.modChan_frame ..)

theorem State.changeSource_frame (s : State) (ch : Nat) (sv : Bool) :
    Frame [.regs, .rings, .eventSeq, .sent, .sieve, .runner] s (State.changeSource s ch sv) := by
  unfold State.changeSource
  try dsimp only
  repeat' first
    | with_reducible exact .refl _ _
    | decide
    | split
    | with_reducible apply Frame.after (State.event_frame ..)
    | with_reducible apply Frame.after (State.modChan_frame ..)

theorem State.sampleBoundary_frame (s : State) (ch : Nat) (isLocal : Bool) :
    Frame [.regs, .rings, .eventSeq, .sent, .sieve, .harvest, .prior, .runner] s
        (State.sampleBoundary s ch isLocal) := by
  unfold State.sampleBoundary
  try dsimp only
  repeat' first
    | with_reducible exact .refl _ _
    | decide
    | split
    | with_reducible apply Frame.after (State.changeSource_frame ..)
    | with_reducible apply Frame.after (State.deliverLocal_frame ..)
    | with_reducible apply Frame.after (State.deliverSv_frame ..)

theorem State.chanStatus_frame (s : State) (ch : Nat) (st : ChStatus) :
    Frame [.regs, .rings, .eventSeq, .sent, .sieve, .harvest, .prior, .runner] s (State.chanStatus s ch st) := by
  unfold State.chanStatus
  try dsimp only
  repeat' first
    | with_reducible exact .refl _ _
    | decide
    | split
    | with_reducible apply Frame.after (State.modChan_frame ..)
    | with_reducible apply Frame.after (State.putStatus_frame ..)

theorem State.settle_frame (s : State) (ch : Nat) :
    Frame [.regs, .rings, .eventSeq, .sent, .sieve, .harvest, .prior, .runner] s (State.settle s ch) := by
  unfold State.settle
  try dsimp only
  repeat' first
    | with_reducible exact .refl _ _
    | decide
    | split
    | with_reducible apply Frame.after (State.chanStatus_frame ..)
    | with_reducible apply Frame.after (State.modChan_frame ..)

theorem State.startChan_frame (s : State) (ch : Nat) :
    Frame [.regs, .rings, .eventSeq, .sent, .sieve, .harvest, .prior, .runner] s (State.startChan s ch) := by
  unfold State.startChan
  try dsimp only
  repeat' first
    | with_reducible exact .refl _ _
    | decide
    | split
    | with_reducible apply Frame.after (State.modChan_frame ..)
    | with_reducible apply Frame.after (State.settle_frame ..)

theorem State.stopChan_frame (s : State) (ch : Nat) :
    Frame [.regs, .rings, .eventSeq, .sent, .sieve, .harvest, .prior, .runner] s (State.stopChan s ch) := by
  unfold State.stopChan
  try dsimp only
  repeat' first
    | with_reducible exact .refl _ _
    | decide
    | split
    | with_reducible apply Frame.after (State.chanStatus_frame ..)
    | with_reducible apply Frame.after (State.modChan_frame ..)
    | with_reducible apply Frame.after (State.put_frame ..)

theorem State.refreshSieve_frame (s : State) :
    Frame [.regs, .rings, .eventSeq, .sent, .sieve, .harvest, .prior, .runner] s (State.refreshSieve s) := by
  unfold State.refreshSieve
  try dsimp only
  repeat' first
    | with_reducible exact .refl _ _
    | decide
    | split
    | with_reducible apply Frame.after (State.putStatus_frame ..)
    | with_reducible apply Frame.after (State.startChan_frame ..)
    | with_reducible apply Frame.after (State.stopChan_frame ..)
    | with_reducible refine Frame.foldl_after _ _ (fun s x => ?_) ?_
    | with_reducible refine Frame.foldl_fst _ _ (fun a x => ?_) ?_

theorem State.moveGrid_frame (s : State) :
    Frame [.regs, .rings, .eventSeq, .sent, .sieve, .harvest, .prior, .runner] s (State.moveGrid s) := by
  unfold State.moveGrid
  try dsimp only
  repeat' first
    | with_reducible exact .refl _ _
    | decide
    | split
    | with_reducible apply Frame.after (State.modChan_frame ..)
    | with_reducible apply Frame.after (State.settle_frame ..)
    | with_reducible refine Frame.foldl_after _ _ (fun s x => ?_) ?_
    | with_reducible refine Frame.foldl_fst _ _ (fun a x => ?_) ?_

theorem State.cmpLevel_frame (s : State) (n : Nat) (code : Int) :
    Frame [.draws, .sieve] s (State.cmpLevel s n code).2 := by
  unfold State.cmpLevel
  try dsimp only
  repeat' first
    | with_reducible exact .refl _ _
    | decide
    | split
    | with_reducible apply Frame.after (State.draw_frame ..)
    | with_reducible apply Frame.after (State.modSieve_frame ..)

theorem State.cmpStart_frame (s : State) (old : Store) (n : Nat) :
    Frame [.draws, .sieve] s (State.cmpStart s old n) := by
  unfold State.cmpStart
  try dsimp only
  repeat' first
    | with_reducible exact .refl _ _
    | decide
    | split
    | with_reducible apply Frame.after (State.cmpLevel_frame ..)
    | with_reducible apply Frame.after (State.modSieve_frame ..)

theorem State.putCmp_frame (s : State) (n : Nat) (b : Bool) :
    Frame [.regs, .prior] s (State.putCmp s n b) := by
  unfold State.putCmp
  try dsimp only
  repeat' first
    | with_reducible exact .refl _ _
    | decide
    | split
    | with_reducible apply Frame.after (State.noteSample_frame ..)
    | with_reducible apply Frame.after (State.put_frame ..)

theorem State.swapSieve_frame (s : State) (old : Store) :
    Frame [.regs, .rings, .eventSeq, .sent, .draws, .sieve, .harvest, .prior, .runner] s (State.swapSieve s old) := by
  unfold State.swapSieve
  try dsimp only
  repeat' first
    | with_reducible exact .refl _ _
    | decide
    | split
    | with_reducible apply Frame.after (State.cmpStart_frame ..)
    | with_reducible apply Frame.after (State.modSieve_frame ..)
    | with_reducible apply Frame.after (State.putCmp_frame ..)
    | with_reducible apply Frame.after (State.refreshSieve_frame ..)
    | with_reducible apply Frame.after (State.startChan_frame ..)
    | with_reducible refine Frame.foldl_after _ _ (fun s x => ?_) ?_
    | with_reducible refine Frame.foldl_fst _ _ (fun a x => ?_) ?_

theorem State.addSync_frame (s : State) (t : ST64) (source : Nat) :
    Frame [.sieve] s (State.addSync s t source) := by
  unfold State.addSync
  try dsimp only
  repeat' first
    | with_reducible exact .refl _ _
    | decide
    | split
    | with_reducible apply Frame.after (State.modSieve_frame ..)

theorem State.disarmSync_frame (s : State) :
    Frame [.regs, .sieve] s (State.disarmSync s) := by
  unfold State.disarmSync
  try dsimp only
  repeat' first
    | with_reducible exact .refl _ _
    | decide
    | split
    | with_reducible apply Frame.after (State.modSieve_frame ..)
    | with_reducible apply Frame.after (State.put_frame ..)

theorem State.mainOutput_frame (s : State) (ch : Nat) (c : SieveChannel) (tLast : ST64) :
    Frame [.regs, .rings, .eventSeq, .sent, .sieve, .harvest, .prior, .runner] s (State.mainOutput s ch c tLast) := by
  unfold State.mainOutput
  try dsimp only
  repeat' first
    | with_reducible exact .refl _ _
    | decide
    | split
    | with_reducible apply Frame.after (State.flag_frame ..)
    | with_reducible apply Frame.after (State.modChan_frame ..)
    | with_reducible apply Frame.after (State.sampleBoundary_frame ..)

theorem State.sieveBit_frame (s : State) (ch : Nat) (b : Option Bool) :
    Frame [.regs, .rings, .eventSeq, .sent, .draws, .sieve, .harvest, .prior, .runner] s (State.sieveBit s ch b) := by
  unfold State.sieveBit
  try dsimp only
  repeat' first
    | with_reducible exact .refl _ _
    | decide
    | split
    | with_reducible apply Frame.after (State.draw_frame ..)
    | with_reducible apply Frame.after (State.mainOutput_frame ..)
    | with_reducible apply Frame.after (State.modChan_frame ..)

/-! ## Sundial -/

theorem State.toTimeState_frame (s : State) (n : Nat) :
    Frame [.regs, .rings, .eventSeq, .sent, .time, .runner] s (State.toTimeState s n) := by
  unfold State.toTimeState
  try dsimp only
  repeat' first
    | with_reducible exact .refl _ _
    | decide
    | split
    | with_reducible apply Frame.after (State.event_frame ..)
    | with_reducible apply Frame.after (State.modTime_frame ..)
    | with_reducible apply Frame.after (State.put_frame ..)

theorem State.setSteer_frame (s : State) (v : Int) :
    Frame [.regs, .time] s (State.setSteer s v) := by
  unfold State.setSteer
  try dsimp only
  repeat' first
    | with_reducible exact .refl _ _
    | decide
    | split
    | with_reducible apply Frame.after (State.flag_frame ..)
    | with_reducible apply Frame.after (State.modTime_frame ..)
    | with_reducible apply Frame.after (State.put_frame ..)

theorem State.freeSteer_frame (s : State) :
    Frame [.regs, .draws, .time] s (State.freeSteer s) := by
  unfold State.freeSteer
  try dsimp only
  repeat' first
    | with_reducible exact .refl _ _
    | decide
    | split
    | with_reducible apply Frame.after (State.draw_frame ..)
    | with_reducible apply Frame.after (State.setSteer_frame ..)

theorem State.toHoldover_frame (s : State) :
    Frame [.regs, .rings, .eventSeq, .sent, .draws, .time, .runner] s (State.toHoldover s) := by
  unfold State.toHoldover
  try dsimp only
  repeat' first
    | with_reducible exact .refl _ _
    | decide
    | split
    | with_reducible apply Frame.after (State.flag_frame ..)
    | with_reducible apply Frame.after (State.freeSteer_frame ..)
    | with_reducible apply Frame.after (State.putT_frame ..)
    | with_reducible apply Frame.after (State.setSteer_frame ..)
    | with_reducible apply Frame.after (State.toTimeState_frame ..)

theorem State.sourcePresent_frame (s : State) :
    Frame [.regs, .rings, .eventSeq, .sent, .time, .runner] s (State.sourcePresent s) := by
  unfold State.sourcePresent
  try dsimp only
  repeat' first
    | with_reducible exact .refl _ _
    | decide
    | split
    | with_reducible apply Frame.after (State.toTimeState_frame ..)

theorem State.sourceLost_frame (s : State) :
    Frame [.regs, .rings, .eventSeq, .sent, .draws, .time, .runner] s (State.sourceLost s) := by
  unfold State.sourceLost
  try dsimp only
  repeat' first
    | with_reducible exact .refl _ _
    | decide
    | split
    | with_reducible apply Frame.after (State.toHoldover_frame ..)
    | with_reducible apply Frame.after (State.toTimeState_frame ..)

theorem State.ppsNext_frame (s : State) :
    Frame [.regs] s (State.ppsNext s) := by
  unfold State.ppsNext
  try dsimp only
  repeat' first
    | with_reducible exact .refl _ _
    | decide
    | split
    | with_reducible apply Frame.after (State.putT_frame ..)
    | with_reducible refine Frame.foldl_after _ _ (fun s x => ?_) ?_
    | with_reducible refine Frame.foldl_fst _ _ (fun a x => ?_) ?_

theorem State.stepMap_frame (s : State) (offset : Int) :
    Frame [.regs, .rings, .eventSeq, .sent, .runner] s (State.stepMap s offset) := by
  unfold State.stepMap
  try dsimp only
  repeat' first
    | with_reducible exact .refl _ _
    | decide
    | split
    | with_reducible apply Frame.after (State.count_frame ..)
    | with_reducible apply Frame.after (State.event_frame ..)
    | with_reducible apply Frame.after (State.flag_frame ..)
    | with_reducible apply Frame.after (State.ppsNext_frame ..)
    | with_reducible apply Frame.after (State.put_frame ..)

theorem State.discipline_frame (s : State) (offset : Int) :
    Frame [.regs, .rings, .eventSeq, .sent, .draws, .time, .runner] s (State.discipline s offset) := by
  unfold State.discipline
  try dsimp only
  repeat' first
    | with_reducible exact .refl _ _
    | decide
    | split
    | with_reducible apply Frame.after (State.freeSteer_frame ..)
    | with_reducible apply Frame.after (State.modTime_frame ..)
    | with_reducible apply Frame.after (State.put_frame ..)
    | with_reducible apply Frame.after (State.setSteer_frame ..)
    | with_reducible apply Frame.after (State.sourcePresent_frame ..)
    | with_reducible apply Frame.after (State.stepMap_frame ..)
    | with_reducible apply Frame.after (State.toTimeState_frame ..)

theorem State.modPort_frame (s : State) (p : Nat) (g : PtpPort → PtpPort) :
    Frame [.time] s (State.modPort s p g) := by
  unfold State.modPort
  try dsimp only
  repeat' first
    | with_reducible exact .refl _ _
    | decide
    | split
    | with_reducible apply Frame.after (State.modTime_frame ..)

theorem State.heardOn_frame (s : State) (p : Nat) (stamp : ST64) :
    Frame [.regs, .rings, .eventSeq, .sent, .net, .runner] s (State.heardOn s p stamp) := by
  unfold State.heardOn
  try dsimp only
  repeat' first
    | with_reducible exact .refl _ _
    | decide
    | split
    | with_reducible apply Frame.after (State.event_frame ..)
    | with_reducible apply Frame.after (State.put_frame ..)
    | with_reducible apply Frame.set_net

theorem State.choosePort_frame (s : State) :
    Frame [.regs, .rings, .eventSeq, .sent, .runner] s (State.choosePort s) := by
  unfold State.choosePort
  try dsimp only
  repeat' first
    | with_reducible exact .refl _ _
    | decide
    | split
    | with_reducible apply Frame.after (State.event_frame ..)
    | with_reducible apply Frame.after (State.put_frame ..)
    | with_reducible apply Frame.after (State.putB_frame ..)

theorem State.sendPtp_frame (s : State) (p type : Nat) (fields : List Int) :
    Frame [.sent, .runner] s (State.sendPtp s p type fields) := by
  unfold State.sendPtp
  try dsimp only
  repeat' first
    | with_reducible exact .refl _ _
    | decide
    | split
    | with_reducible apply Frame.after (State.send_frame ..)

theorem State.postPtp_frame (s : State) (q : Nat) (p : Fin 2) (stamp : ST64) :
    Frame [.regs, .rings, .eventSeq, .sent, .draws, .runner] s (State.postPtp s q p stamp) := by
  unfold State.postPtp
  try dsimp only
  repeat' first
    | with_reducible exact .refl _ _
    | decide
    | split
    | with_reducible apply Frame.after (State.draw_frame ..)
    | with_reducible apply Frame.after (State.postFrame_frame ..)
    | with_reducible apply Frame.after (State.skipDraws_frame ..)

theorem State.refEvent_frame (s : State) (source kind : Nat) :
    Frame [.regs, .rings, .eventSeq, .sent, .runner] s (State.refEvent s source kind) := by
  unfold State.refEvent
  try dsimp only
  repeat' first
    | with_reducible exact .refl _ _
    | decide
    | split
    | with_reducible apply Frame.after (State.event_frame ..)

theorem State.measureTap_frame (s : State) :
    Frame [.regs, .draws] s (State.measureTap s) := by
  unfold State.measureTap
  try dsimp only
  repeat' first
    | with_reducible exact .refl _ _
    | decide
    | split
    | with_reducible apply Frame.after (State.draw_frame ..)
    | with_reducible apply Frame.after (State.put_frame ..)

theorem State.modOut_frame (s : State) (o : Nat) (g : TimedOut → TimedOut) :
    Frame [.time] s (State.modOut s o g) := by
  unfold State.modOut
  try dsimp only
  repeat' first
    | with_reducible exact .refl _ _
    | decide
    | split
    | with_reducible apply Frame.after (State.modTime_frame ..)

theorem State.toutState_frame (s : State) (o : Nat) (n : Nat) :
    Frame [.regs] s (State.toutState s o n) := by
  unfold State.toutState
  try dsimp only
  repeat' first
    | with_reducible exact .refl _ _
    | decide
    | split
    | with_reducible apply Frame.after (State.put_frame ..)

theorem State.toutPin_frame (s : State) (o : Nat) :
    Frame [.sent, .runner] s (State.toutPin s o) := by
  unfold State.toutPin
  try dsimp only
  repeat' first
    | with_reducible exact .refl _ _
    | decide
    | split
    | with_reducible apply Frame.after (State.send_frame ..)

theorem State.toutPins_frame (s : State) :
    Frame [.sent, .runner] s (State.toutPins s) := by
  unfold State.toutPins
  try dsimp only
  repeat' first
    | with_reducible exact .refl _ _
    | decide
    | split
    | with_reducible apply Frame.after (State.toutPin_frame ..)
    | with_reducible refine Frame.foldl_after _ _ (fun s x => ?_) ?_
    | with_reducible refine Frame.foldl_fst _ _ (fun a x => ?_) ?_

/-! ## Network -/

theorem State.modNet_frame (s : State) (g : NetUnit → NetUnit) :
    Frame [.net] s (State.modNet s g) := by
  unfold State.modNet
  try dsimp only
  repeat' first
    | with_reducible exact .refl _ _
    | decide
    | split
    | with_reducible apply Frame.set_net

theorem State.sendBoth_frame (s : State) (etherType tag type : Nat) (fields : List Int) (data : Bytes) :
    Frame [.sent, .net, .runner] s (State.sendBoth s etherType tag type fields data) := by
  unfold State.sendBoth
  try dsimp only
  repeat' first
    | with_reducible exact .refl _ _
    | decide
    | split
    | with_reducible apply Frame.after (State.modNet_frame ..)
    | with_reducible apply Frame.after (State.send_frame ..)

theorem State.screen_frame (s : State) (h : EthHeader) :
    Frame [.regs, .rings, .eventSeq, .sent, .net, .runner] s (State.screen s h).2 := by
  unfold State.screen
  try dsimp only
  repeat' first
    | with_reducible exact .refl _ _
    | decide
    | split
    | with_reducible apply Frame.after (State.count_frame ..)
    | with_reducible apply Frame.after (State.heardOn_frame ..)

theorem State.setNodes_frame (s : State) (l : List NetNode) :
    Frame [.regs, .net] s (State.setNodes s l) := by
  unfold State.setNodes
  try dsimp only
  repeat' first
    | with_reducible exact .refl _ _
    | decide
    | split
    | with_reducible apply Frame.after (State.modNet_frame ..)
    | with_reducible apply Frame.after (State.put_frame ..)

theorem State.nodeFor_frame (s : State) (mac : Nat) :
    Frame [.regs, .net] s (State.nodeFor s mac).2 := by
  unfold State.nodeFor
  try dsimp only
  repeat' first
    | with_reducible exact .refl _ _
    | decide
    | split
    | with_reducible apply Frame.after (State.count_frame ..)
    | with_reducible apply Frame.after (State.setNodes_frame ..)

theorem State.putNode_frame (s : State) (n : NetNode) :
    Frame [.regs, .net] s (State.putNode s n) := by
  unfold State.putNode
  try dsimp only
  repeat' first
    | with_reducible exact .refl _ _
    | decide
    | split
    | with_reducible apply Frame.after (State.setNodes_frame ..)

theorem State.prpKeep_frame (s : State) (h : EthHeader) :
    Frame [.regs, .net] s (State.prpKeep s h).2 := by
  unfold State.prpKeep
  try dsimp only
  repeat' first
    | with_reducible exact .refl _ _
    | decide
    | split
    | with_reducible apply Frame.after (State.count_frame ..)
    | with_reducible apply Frame.after (State.nodeFor_frame ..)
    | with_reducible apply Frame.after (State.putNode_frame ..)

theorem State.receive_frame (s : State) (h : EthHeader) :
    Frame [.regs, .rings, .eventSeq, .sent, .net, .runner] s (State.receive s h).2 := by
  unfold State.receive
  try dsimp only
  repeat' first
    | with_reducible exact .refl _ _
    | decide
    | split
    | with_reducible apply Frame.after (State.prpKeep_frame ..)
    | with_reducible apply Frame.after (State.screen_frame ..)

theorem State.underItsBed_frame {l : List Part} (hl : [.regs, .net] ⊆ l) {t : ST64} {base n : Nat} {f : State → State}
    {s u : State} (h : ∀ s, Frame l s (f s)) (g : Frame l u s) : Frame l u (s.underItsBed t base n f) := by
  have a (i k : Nat) (v : Int) (s : State) : Frame l s (s.put i k v) :=
    .mono (State.put_frame ..) fun p hp => hl (by revert p; decide)
  unfold State.underItsBed
  split
  · exact .trans g (h s)
  · dsimp only
    refine .foldl_after _ _ (fun s x => a _ _ _ s) ?_
    refine .after (State.modNet_frame ..) (fun p hp => hl (by revert p; decide)) ?_
    exact State.withBed_frame h (.foldl_after _ _ (fun s x => a _ _ _ s) g)

theorem State.svBoundary_frame (s : State) (v : Nat) :
    Frame [.regs, .rings, .eventSeq, .sent, .sieve, .harvest, .prior, .runner] s (State.svBoundary s v) := by
  unfold State.svBoundary
  try dsimp only
  repeat' first
    | with_reducible exact .refl _ _
    | decide
    | split
    | with_reducible apply Frame.after (State.sampleBoundary_frame ..)
    | with_reducible refine Frame.foldl_after _ _ (fun s x => ?_) ?_
    | with_reducible refine Frame.foldl_fst _ _ (fun a x => ?_) ?_

theorem State.svMember_frame (s : State) (n m : Nat) (t : ST64) (synced : Bool) (v : Int × Nat) :
    Frame [.regs, .rings, .eventSeq, .sent, .sieve, .harvest, .prior, .runner] s
        (State.svMember s n m t synced v) := by
  unfold State.svMember
  try dsimp only
  repeat' first
    | with_reducible exact .refl _ _
    | decide
    | split
    | with_reducible apply Frame.after (State.deliver_frame ..)
    | with_reducible apply Frame.after (State.put_frame ..)
    | with_reducible apply Frame.after (State.svBoundary_frame ..)

theorem State.svAsdu_frame (s : State) (n : Nat) (rx : ST64) (a : SvAsdu) :
    Frame [.regs, .rings, .eventSeq, .sent, .sieve, .harvest, .prior, .net, .runner] s (State.svAsdu s n rx a) := by
  unfold State.svAsdu
  try dsimp only
  repeat' first
    | with_reducible exact .refl _ _
    | decide
    | split
    | with_reducible apply Frame.after (State.count_frame ..)
    | with_reducible apply Frame.after (State.countBy_frame ..)
    | with_reducible apply Frame.after (State.event_frame ..)
    | with_reducible apply Frame.after (State.modNet_frame ..)
    | with_reducible apply Frame.after (State.put_frame ..)
    | with_reducible apply Frame.after (State.svMember_frame ..)
    | with_reducible refine Frame.foldl_after _ _ (fun s x => ?_) ?_
    | with_reducible refine Frame.foldl_fst _ _ (fun a x => ?_) ?_

theorem State.svLose_frame (s : State) (n : Nat) :
    Frame [.regs, .rings, .eventSeq, .sent, .harvest, .prior, .runner] s (State.svLose s n) := by
  unfold State.svLose
  try dsimp only
  repeat' first
    | with_reducible exact .refl _ _
    | decide
    | split
    | with_reducible apply Frame.after (State.event_frame ..)
    | with_reducible apply Frame.after (State.put_frame ..)
    | with_reducible apply Frame.after (State.putStatus_frame ..)
    | with_reducible refine Frame.foldl_after _ _ (fun s x => ?_) ?_
    | with_reducible refine Frame.foldl_fst _ _ (fun a x => ?_) ?_

theorem State.pubSend_frame (s : State) (p : Nat) :
    Frame [.sent, .net, .runner] s (State.pubSend s p) := by
  unfold State.pubSend
  try dsimp only
  repeat' first
    | with_reducible exact .refl _ _
    | decide
    | split
    | with_reducible apply Frame.after (State.sendBoth_frame ..)

theorem State.modPub_frame (s : State) (p : Nat) (g : GoosePub → GoosePub) :
    Frame [.net] s (State.modPub s p g) := by
  unfold State.modPub
  try dsimp only
  repeat' first
    | with_reducible exact .refl _ _
    | decide
    | split
    | with_reducible apply Frame.after (State.modNet_frame ..)

theorem State.pubEvaluate_frame (s : State) (p : Nat) :
    Frame [.regs, .sent, .net, .runner] s (State.pubEvaluate s p) := by
  unfold State.pubEvaluate
  try dsimp only
  repeat' first
    | with_reducible exact .refl _ _
    | decide
    | split
    | with_reducible apply Frame.after (State.advance_frame ..)
    | with_reducible apply Frame.after (State.modPub_frame ..)
    | with_reducible apply Frame.after (State.pubSend_frame ..)
    | with_reducible apply Frame.after (State.put_frame ..)

theorem State.modSub_frame (s : State) (n : Nat) (g : GooseSub → GooseSub) :
    Frame [.net] s (State.modSub s n g) := by
  unfold State.modSub
  try dsimp only
  repeat' first
    | with_reducible exact .refl _ _
    | decide
    | split
    | with_reducible apply Frame.after (State.modNet_frame ..)

theorem State.svRestart_frame (s : State) (n : Nat) :
    Frame [.regs, .rings, .eventSeq, .sent, .harvest, .prior, .net, .runner] s (State.svRestart s n) := by
  unfold State.svRestart
  try dsimp only
  repeat' first
    | with_reducible exact .refl _ _
    | decide
    | split
    | with_reducible apply Frame.after (State.modNet_frame ..)
    | with_reducible apply Frame.after (State.put_frame ..)
    | with_reducible apply Frame.after (State.svLose_frame ..)

theorem State.subRestart_frame (s : State) (n : Nat) :
    Frame [.regs, .rings, .eventSeq, .sent, .net, .runner] s (State.subRestart s n) := by
  unfold State.subRestart
  try dsimp only
  repeat' first
    | with_reducible exact .refl _ _
    | decide
    | split
    | with_reducible apply Frame.after (State.event_frame ..)
    | with_reducible apply Frame.after (State.modSub_frame ..)
    | with_reducible apply Frame.after (State.put_frame ..)

theorem State.netStart_frame (s : State) :
    Frame [.regs, .rings, .eventSeq, .sent, .harvest, .prior, .net, .runner] s (State.netStart s) := by
  unfold State.netStart
  try dsimp only
  repeat' first
    | with_reducible exact .refl _ _
    | decide
    | split
    | with_reducible apply Frame.after (State.subRestart_frame ..)
    | with_reducible apply Frame.after (State.svRestart_frame ..)
    | with_reducible refine Frame.foldl_after _ _ (fun s x => ?_) ?_
    | with_reducible refine Frame.foldl_fst _ _ (fun a x => ?_) ?_

theorem State.netStop_frame (s : State) :
    Frame [.regs, .rings, .eventSeq, .sent, .draws, .time, .net, .runner] s (State.netStop s) := by
  unfold State.netStop
  try dsimp only
  repeat' first
    | with_reducible exact .refl _ _
    | decide
    | split
    | with_reducible apply Frame.after (State.modPort_frame ..)
    | with_reducible apply Frame.after (State.modPub_frame ..)
    | with_reducible apply Frame.after (State.put_frame ..)
    | with_reducible apply Frame.after (State.sourceLost_frame ..)
    | with_reducible refine Frame.foldl_after _ _ (fun s x => ?_) ?_
    | with_reducible refine Frame.foldl_fst _ _ (fun a x => ?_) ?_

theorem State.swapNet_frame (s : State) (old : Store) :
    Frame [.regs, .rings, .eventSeq, .sent, .harvest, .prior, .net, .runner] s (State.swapNet s old) := by
  unfold State.swapNet
  try dsimp only
  repeat' first
    | with_reducible exact .refl _ _
    | decide
    | split
    | with_reducible apply Frame.after (State.modPub_frame ..)
    | with_reducible apply Frame.after (State.subRestart_frame ..)
    | with_reducible apply Frame.after (State.svRestart_frame ..)
    | with_reducible refine Frame.foldl_after _ _ (fun s x => ?_) ?_
    | with_reducible refine Frame.foldl_fst _ _ (fun a x => ?_) ?_

theorem State.svFrame_frame (s : State) (h : EthHeader) (f : SvFrame) :
    Frame [.regs, .rings, .eventSeq, .sent, .sieve, .harvest, .prior, .net, .runner] s (State.svFrame s h f) := by
  unfold State.svFrame
  try dsimp only
  repeat' first
    | with_reducible exact .refl _ _
    | decide
    | split
    | with_reducible apply Frame.after (State.count_frame ..)
    | with_reducible apply Frame.after (State.event_frame ..)
    | with_reducible apply Frame.after (State.modNet_frame ..)
    | with_reducible apply Frame.after (State.svAsdu_frame ..)
    | with_reducible refine Frame.foldl_after _ _ (fun s x => ?_) ?_
    | with_reducible refine Frame.foldl_fst _ _ (fun a x => ?_) ?_

theorem State.gooseFrame_frame (s : State) (h : EthHeader) (f : GooseFrame) :
    Frame [.regs, .rings, .eventSeq, .sent, .net, .runner] s (State.gooseFrame s h f) := by
  unfold State.gooseFrame
  try dsimp only
  repeat' first
    | with_reducible exact .refl _ _
    | decide
    | split
    | with_reducible apply Frame.after (State.advance_frame ..)
    | with_reducible apply Frame.after (State.count_frame ..)
    | with_reducible apply Frame.after (State.event_frame ..)
    | with_reducible apply Frame.after (State.modSub_frame ..)
    | with_reducible apply Frame.after (State.put_frame ..)
    | with_reducible apply Frame.after (State.putB_frame ..)
    | with_reducible apply Frame.after (State.ringPost_frame ..)

/-! ## Cloche -/

theorem State.modCloche_frame (s : State) (g : Cloche → Cloche) :
    Frame [.cloche] s (State.modCloche s g) := by
  unfold State.modCloche
  try dsimp only
  repeat' first
    | with_reducible exact .refl _ _
    | decide
    | split
    | with_reducible apply Frame.set_cloche

theorem State.modIn_frame (s : State) (n : Nat) (g : SafetyIn → SafetyIn) :
    Frame [.cloche] s (State.modIn s n g) := by
  unfold State.modIn
  try dsimp only
  repeat' first
    | with_reducible exact .refl _ _
    | decide
    | split
    | with_reducible apply Frame.after (State.modCloche_frame ..)

theorem State.modSo_frame (s : State) (k : Nat) (g : SafetyOut → SafetyOut) :
    Frame [.cloche] s (State.modSo s k g) := by
  unfold State.modSo
  try dsimp only
  repeat' first
    | with_reducible exact .refl _ _
    | decide
    | split
    | with_reducible apply Frame.after (State.modCloche_frame ..)

theorem State.modRx_frame (s : State) (n : Nat) (g : SafeRx → SafeRx) :
    Frame [.cloche] s (State.modRx s n g) := by
  unfold State.modRx
  try dsimp only
  repeat' first
    | with_reducible exact .refl _ _
    | decide
    | split
    | with_reducible apply Frame.after (State.modCloche_frame ..)

theorem State.refreshDemands_frame (s : State) :
    Frame [.ctl] s (State.refreshDemands s) := by
  unfold State.refreshDemands
  try dsimp only
  repeat' first
    | with_reducible exact .refl _ _
    | decide
    | split
    | with_reducible apply Frame.after (State.dropCause_frame ..)

theorem State.withdraw_frame (s : State) :
    Frame [.ctl, .sent, .lanes, .remotes, .runner] s (State.withdraw s) := by
  unfold State.withdraw
  try dsimp only
  repeat' first
    | with_reducible exact .refl _ _
    | decide
    | split
    | with_reducible apply Frame.after (State.inhibitLanes_frame ..)
    | with_reducible apply Frame.after (State.modCtl_kept ..)
    | with_reducible exact fun _ => ⟨rfl, rfl⟩

theorem State.requestPermission_frame (s : State) :
    Frame [.ctl, .sent, .lanes, .runner] s (State.requestPermission s) := by
  unfold State.requestPermission
  try dsimp only
  repeat' first
    | with_reducible exact .refl _ _
    | decide
    | split
    | with_reducible apply Frame.after (State.modCtl_kept ..)
    | with_reducible exact fun _ => ⟨rfl, rfl⟩
    | with_reducible apply Frame.after (State.upliftLanes_frame ..)

theorem State.sps_frame (s : State) (bit : Nat) :
    Frame [.ctl, .regs, .rings, .eventSeq, .sent, .lanes, .remotes, .runner] s (State.sps s bit) := by
  unfold State.sps
  try dsimp only
  repeat' first
    | with_reducible exact .refl _ _
    | decide
    | split
    | with_reducible apply Frame.after (State.count_frame ..)
    | with_reducible apply Frame.after (State.event_frame ..)
    | with_reducible apply Frame.after (State.flag_frame ..)
    | with_reducible apply Frame.after (State.putB_frame ..)
    | with_reducible apply Frame.after (State.raiseCause_frame ..)
    | with_reducible apply Frame.after (State.withdraw_frame ..)

theorem State.guardSample_frame (s : State) :
    Frame [.ctl] s (State.guardSample s) := by
  unfold State.guardSample
  try dsimp only
  repeat' first
    | with_reducible exact .refl _ _
    | decide
    | split
    | with_reducible apply Frame.after (State.modCtl_kept ..)
    | with_reducible exact fun _ => ⟨rfl, rfl⟩

theorem State.guardReset_frame (s : State) :
    Frame [.ctl] s (State.guardReset s) := by
  unfold State.guardReset
  try dsimp only
  repeat' first
    | with_reducible exact .refl _ _
    | decide
    | split
    | with_reducible apply Frame.after (State.modCtl_kept ..)
    | with_reducible exact fun _ => ⟨rfl, rfl⟩

theorem State.changeIn_frame (s : State) (n : Nat) (g : SafetyIn → SafetyIn) :
    Frame [.ctl, .regs, .rings, .eventSeq, .sent, .lanes, .remotes, .cloche, .runner] s (State.changeIn s n g) := by
  unfold State.changeIn
  try dsimp only
  repeat' first
    | with_reducible exact .refl _ _
    | decide
    | split
    | with_reducible apply Frame.after (State.count_frame ..)
    | with_reducible apply Frame.after (State.modIn_frame ..)
    | with_reducible apply Frame.after (State.refreshDemands_frame ..)
    | with_reducible apply Frame.after (State.sps_frame ..)

theorem State.refreshInputs_frame (s : State) :
    Frame [.ctl, .cloche] s (State.refreshInputs s) := by
  unfold State.refreshInputs
  try dsimp only
  repeat' first
    | with_reducible exact .refl _ _
    | decide
    | split
    | with_reducible apply Frame.after (State.modIn_frame ..)
    | with_reducible apply Frame.after (State.refreshDemands_frame ..)
    | with_reducible refine Frame.foldl_after _ _ (fun s x => ?_) ?_
    | with_reducible refine Frame.foldl_fst _ _ (fun a x => ?_) ?_

theorem State.soFail_frame (s : State) (k reason : Nat) (reading : Bool) :
    Frame [.ctl, .regs, .rings, .eventSeq, .sent, .lanes, .remotes, .cloche, .runner] s
        (State.soFail s k reason reading) := by
  unfold State.soFail
  try dsimp only
  repeat' first
    | with_reducible exact .refl _ _
    | decide
    | split
    | with_reducible apply Frame.after (State.count_frame ..)
    | with_reducible apply Frame.after (State.event_frame ..)
    | with_reducible apply Frame.after (State.flag_frame ..)
    | with_reducible apply Frame.after (State.modCloche_frame ..)
    | with_reducible apply Frame.after (State.modSo_frame ..)
    | with_reducible apply Frame.after (State.sps_frame ..)

theorem State.soCommand_frame (s : State) (k : Nat) (on : Bool) :
    Frame [.regs, .rings, .eventSeq, .sent, .cloche, .runner] s (State.soCommand s k on) := by
  unfold State.soCommand
  try dsimp only
  repeat' first
    | with_reducible exact .refl _ _
    | decide
    | split
    | with_reducible apply Frame.after (State.event_frame ..)
    | with_reducible apply Frame.after (State.modSo_frame ..)

theorem State.soWaitEnd_frame (s : State) (k : Nat) :
    Frame [.cloche] s (State.soWaitEnd s k) := by
  unfold State.soWaitEnd
  try dsimp only
  repeat' first
    | with_reducible exact .refl _ _
    | decide
    | split
    | with_reducible apply Frame.after (State.modSo_frame ..)

theorem State.requestWarm_frame (s : State) (bit : Nat) :
    Frame [.ctl, .sent, .lanes, .remotes, .rst, .runner] s (State.requestWarm s bit) := by
  unfold State.requestWarm
  try dsimp only
  repeat' first
    | with_reducible exact .refl _ _
    | decide
    | split
    | with_reducible apply Frame.after (State.modRst_frame ..)
    | with_reducible apply Frame.after (State.send_frame ..)
    | with_reducible apply Frame.after (State.withdraw_frame ..)

theorem State.clocheFault_frame (s : State) (kind : Nat) :
    Frame [.ctl, .regs, .rings, .eventSeq, .sent, .lanes, .remotes, .cloche, .rst, .runner] s
        (State.clocheFault s kind) := by
  unfold State.clocheFault
  try dsimp only
  repeat' first
    | with_reducible exact .refl _ _
    | decide
    | split
    | with_reducible apply Frame.after (State.event_frame ..)
    | with_reducible apply Frame.after (State.modCloche_frame ..)
    | with_reducible apply Frame.after (State.modCtl_kept ..)
    | with_reducible exact fun _ => ⟨rfl, rfl⟩
    | with_reducible apply Frame.after (State.requestWarm_frame ..)
    | with_reducible apply Frame.after (State.send_frame ..)
    | with_reducible apply Frame.after (State.sps_frame ..)

theorem State.chkReport_frame (s : State) (e : Nat) :
    Frame [.ctl, .regs, .rings, .eventSeq, .sent, .lanes, .remotes, .cloche, .rst, .runner] s
        (State.chkReport s e) := by
  unfold State.chkReport
  try dsimp only
  repeat' first
    | with_reducible exact .refl _ _
    | decide
    | split
    | with_reducible apply Frame.after (State.clocheFault_frame ..)
    | with_reducible apply Frame.after (State.modCloche_frame ..)

theorem State.overrunStop_frame (s : State) :
    Frame [.ctl, .regs, .rings, .eventSeq, .sent, .lanes, .remotes, .cloche, .runner] s (State.overrunStop s) := by
  unfold State.overrunStop
  try dsimp only
  repeat' first
    | with_reducible exact .refl _ _
    | decide
    | split
    | with_reducible apply Frame.after (State.modCloche_frame ..)
    | with_reducible apply Frame.after (State.sps_frame ..)

theorem State.overrunGone_frame (s : State) :
    Frame [.ctl, .cloche] s (State.overrunGone s) := by
  unfold State.overrunGone
  try dsimp only
  repeat' first
    | with_reducible exact .refl _ _
    | decide
    | split
    | with_reducible apply Frame.after (State.dropCause_frame ..)
    | with_reducible apply Frame.after (State.modCloche_frame ..)

theorem State.rxFault_frame (s : State) (c reason q : Nat) :
    Frame [.ctl, .regs, .rings, .eventSeq, .sent, .lanes, .remotes, .runner] s (State.rxFault s c reason q) := by
  unfold State.rxFault
  try dsimp only
  repeat' first
    | with_reducible exact .refl _ _
    | decide
    | split
    | with_reducible apply Frame.after (State.event_frame ..)
    | with_reducible apply Frame.after (State.flag_frame ..)
    | with_reducible apply Frame.after (State.sps_frame ..)

theorem State.rxMatched_frame (s : State) (c q : Nat) (pdu : Bytes) :
    Frame [.ctl, .regs, .rings, .eventSeq, .sent, .lanes, .remotes, .cloche, .runner] s
        (State.rxMatched s c q pdu) := by
  unfold State.rxMatched
  try dsimp only
  repeat' first
    | with_reducible exact .refl _ _
    | decide
    | split
    | with_reducible apply Frame.after (State.count_frame ..)
    | with_reducible apply Frame.after (State.countBy_frame ..)
    | with_reducible apply Frame.after (State.event_frame ..)
    | with_reducible apply Frame.after (State.modRx_frame ..)
    | with_reducible apply Frame.after (State.put_frame ..)
    | with_reducible apply Frame.after (State.refreshDemands_frame ..)
    | with_reducible apply Frame.after (State.sps_frame ..)
    | with_reducible refine Frame.foldl_after _ _ (fun s x => ?_) ?_
    | with_reducible refine Frame.foldl_fst _ _ (fun a x => ?_) ?_

theorem State.rxHold_frame (s : State) (c lan q : Nat) (pdu : Bytes) :
    Frame [.regs, .cloche] s (State.rxHold s c lan q pdu) := by
  unfold State.rxHold
  try dsimp only
  repeat' first
    | with_reducible exact .refl _ _
    | decide
    | split
    | with_reducible apply Frame.after (State.count_frame ..)
    | with_reducible apply Frame.after (State.modRx_frame ..)

theorem State.rxCopy_frame (s : State) (c lan : Nat) (pdu : Bytes) :
    Frame [.ctl, .regs, .rings, .eventSeq, .sent, .lanes, .remotes, .cloche, .runner] s
        (State.rxCopy s c lan pdu) := by
  unfold State.rxCopy
  try dsimp only
  repeat' first
    | with_reducible exact .refl _ _
    | decide
    | split
    | with_reducible apply Frame.after (State.count_frame ..)
    | with_reducible apply Frame.after (State.modRx_frame ..)
    | with_reducible apply Frame.after (State.rxFault_frame ..)
    | with_reducible apply Frame.after (State.rxHold_frame ..)
    | with_reducible apply Frame.after (State.rxMatched_frame ..)

theorem State.clocheApply_frame (s : State) (i k : Nat) (v : DVal) :
    Frame [.ctl, .regs, .rings, .eventSeq, .sent, .lanes, .remotes, .cloche, .runner] s
        (State.clocheApply s i k v) := by
  unfold State.clocheApply
  try dsimp only
  repeat' first
    | with_reducible exact .refl _ _
    | decide
    | split
    | with_reducible apply Frame.after (State.count_frame ..)
    | with_reducible apply Frame.after (State.modIn_frame ..)
    | with_reducible apply Frame.after (State.modRx_frame ..)
    | with_reducible apply Frame.after (State.modSo_frame ..)
    | with_reducible apply Frame.after (State.putV_frame ..)
    | with_reducible apply Frame.after (State.refreshDemands_frame ..)
    | with_reducible apply Frame.after (State.refreshInputs_frame ..)
    | with_reducible apply Frame.after (State.sps_frame ..)
    | with_reducible refine Frame.foldl_after _ _ (fun s x => ?_) ?_
    | with_reducible refine Frame.foldl_fst _ _ (fun a x => ?_) ?_

theorem State.windowEnd_frame (s : State) (n : Nat) (sawLow highNow : Bool) :
    Frame [.ctl, .regs, .rings, .eventSeq, .sent, .lanes, .remotes, .cloche, .runner] s
        (State.windowEnd s n sawLow highNow) := by
  unfold State.windowEnd
  try dsimp only
  repeat' first
    | with_reducible exact .refl _ _
    | decide
    | split
    | with_reducible apply Frame.after (State.changeIn_frame ..)
    | with_reducible apply Frame.after (State.count_frame ..)
    | with_reducible apply Frame.after (State.event_frame ..)
    | with_reducible apply Frame.after (State.flag_frame ..)
    | with_reducible apply Frame.after (State.guardReset_frame ..)
    | with_reducible apply Frame.after (State.guardSample_frame ..)

/-! ## Shears -/

theorem State.modLeg_frame (s : State) (n : Nat) (g : Leg → Leg) :
    Frame [.shears] s (State.modLeg s n g) := by
  unfold State.modLeg
  try dsimp only
  repeat' first
    | with_reducible exact .refl _ _
    | decide
    | split
    | with_reducible apply Frame.after (State.modShears_frame ..)

theorem State.modSgroup_frame (s : State) (g : Nat) (h : ShearsGroup → ShearsGroup) :
    Frame [.shears] s (State.modSgroup s g h) := by
  unfold State.modSgroup
  try dsimp only
  repeat' first
    | with_reducible exact .refl _ _
    | decide
    | split
    | with_reducible apply Frame.after (State.modShears_frame ..)

theorem State.countAff_frame (s : State) (g : Nat) :
    Frame [.shears] s (State.countAff s g) := by
  unfold State.countAff
  try dsimp only
  repeat' first
    | with_reducible exact .refl _ _
    | decide
    | split
    | with_reducible apply Frame.after (State.modSgroup_frame ..)

theorem State.reactAffected_frame (s : State) (n : Nat) (low : Bool) (pulsed : Bool) :
    Frame [.regs, .sent, .lanes, .remotes, .shears, .runner] s (State.reactAffected s n low pulsed).1 := by
  unfold State.reactAffected
  try dsimp only
  repeat' first
    | with_reducible exact .refl _ _
    | decide
    | split
    | with_reducible apply Frame.after (State.flag_frame ..)
    | with_reducible apply Frame.after (State.modLeg_frame ..)
    | with_reducible apply Frame.after (State.sendStop_frame ..)

theorem State.tripGroup_frame (s : State) (g : Nat) (src : Nat × Nat) :
    Frame [.regs, .rings, .eventSeq, .sent, .pairs, .lanes, .remotes, .shears, .runner] s
        (State.tripGroup s g src).1 := by
  unfold State.tripGroup
  try dsimp only
  repeat' first
    | with_reducible exact .refl _ _
    | decide
    | split
    | with_reducible apply Frame.after (State.count_frame ..)
    | with_reducible apply Frame.after (State.event_frame ..)
    | with_reducible apply Frame.after (State.flag_frame ..)
    | with_reducible apply Frame.after (State.modSgroup_frame ..)
    | with_reducible apply Frame.after (State.pairFault_frame ..)
    | with_reducible apply Frame.after (State.sendStop_frame ..)
    | with_reducible refine Frame.foldl_after _ _ (fun s x => ?_) ?_
    | with_reducible refine Frame.foldl_fst _ _ (fun a x => ?_) ?_

theorem State.reactAll_frame (s : State) :
    Frame [.ctl, .regs, .rings, .eventSeq, .sent, .shears, .runner] s (State.reactAll s).1 := by
  unfold State.reactAll
  try dsimp only
  repeat' first
    | with_reducible exact .refl _ _
    | decide
    | split
    | with_reducible apply Frame.after (State.event_frame ..)
    | with_reducible apply Frame.after (State.flag_frame ..)
    | with_reducible apply Frame.after (State.modShears_frame ..)
    | with_reducible apply Frame.after (State.raiseCause_frame ..)

theorem State.blockLeg_frame (s : State) (n : Nat) (low : Bool) :
    Frame [.regs, .sent, .lanes, .remotes, .shears, .runner] s (State.blockLeg s n low).1 := by
  unfold State.blockLeg
  try dsimp only
  repeat' first
    | with_reducible exact .refl _ _
    | decide
    | split
    | with_reducible apply Frame.after (State.flag_frame ..)
    | with_reducible apply Frame.after (State.modLeg_frame ..)
    | with_reducible apply Frame.after (State.sendStop_frame ..)

theorem State.stopBoth_frame (s : State) (n : Nat) :
    Frame [.regs, .sent, .lanes, .remotes, .shears, .runner] s (State.stopBoth s n) := by
  unfold State.stopBoth
  try dsimp only
  repeat' first
    | with_reducible exact .refl _ _
    | decide
    | split
    | with_reducible apply Frame.after (State.flag_frame ..)
    | with_reducible apply Frame.after (State.modLeg_frame ..)
    | with_reducible apply Frame.after (State.sendStop_frame ..)

theorem State.decideGroup_frame (s : State) (r : Report) (sw : Option Bool) (attr acts g : Nat) :
    Frame [.regs, .rings, .eventSeq, .sent, .pairs, .lanes, .remotes, .shears, .runner] s
        (State.decideGroup s r sw attr acts g).1 := by
  unfold State.decideGroup
  try dsimp only
  repeat' first
    | with_reducible exact .refl _ _
    | decide
    | split
    | with_reducible apply Frame.after (State.tripGroup_frame ..)

theorem State.decideAffected_frame (s : State) (r : Report) (n : Nat) :
    Frame [.ctl, .regs, .rings, .eventSeq, .sent, .pairs, .lanes, .remotes, .shears, .runner] s
        (State.decideAffected s r n).1 := by
  unfold State.decideAffected
  try dsimp only
  repeat' first
    | with_reducible exact .refl _ _
    | decide
    | split
    | with_reducible apply Frame.after (State.blockLeg_frame ..)
    | with_reducible apply Frame.after (State.countAff_frame ..)
    | with_reducible apply Frame.after (State.decideGroup_frame ..)
    | with_reducible apply Frame.after (State.flag_frame ..)
    | with_reducible apply Frame.after (State.reactAffected_frame ..)
    | with_reducible apply Frame.after (State.reactAll_frame ..)
    | with_reducible apply Frame.after (State.stopBoth_frame ..)

theorem State.decideReport_frame (s : State) (r : Report) :
    Frame [.ctl, .regs, .rings, .eventSeq, .sent, .pairs, .lanes, .remotes, .shears, .runner] s
        (State.decideReport s r).1 := by
  unfold State.decideReport
  try dsimp only
  repeat' first
    | with_reducible exact .refl _ _
    | decide
    | split
    | with_reducible apply Frame.after (State.decideAffected_frame ..)
    | with_reducible apply Frame.after (State.decideGroup_frame ..)
    | with_reducible apply Frame.after (State.reactAll_frame ..)

theorem State.report_frame (s : State) (r : Report) :
    Frame [.ctl, .regs, .rings, .eventSeq, .sent, .pairs, .lanes, .remotes, .shears, .harvest, .runner] s
        (State.report s r) := by
  unfold State.report
  try dsimp only
  repeat' first
    | with_reducible exact .refl _ _
    | decide
    | split
    | with_reducible apply Frame.after (State.count_frame ..)
    | with_reducible apply Frame.after (State.decideReport_frame ..)
    | with_reducible apply Frame.after (State.harvestShears_frame ..)
    | with_reducible apply Frame.after (State.modLeg_frame ..)
    | with_reducible apply Frame.after (State.modShears_frame ..)
    | with_reducible apply Frame.after (State.putB_frame ..)
    | with_reducible apply Frame.after (State.ringPost_frame ..)

theorem State.reportAll_frame (s : State) (l : List Report) :
    Frame [.ctl, .regs, .rings, .eventSeq, .sent, .pairs, .lanes, .remotes, .shears, .harvest, .runner] s
        (State.reportAll s l) := by
  unfold State.reportAll
  try dsimp only
  repeat' first
    | with_reducible exact .refl _ _
    | decide
    | split
    | with_reducible apply Frame.after (State.report_frame ..)
    | with_reducible refine Frame.foldl_after _ _ (fun s x => ?_) ?_
    | with_reducible refine Frame.foldl_fst _ _ (fun a x => ?_) ?_

theorem State.nodeFaults_frame (s : State) (l : Nat) (faults : List (Nat × Nat)) :
    Frame [.ctl, .regs, .rings, .eventSeq, .sent, .pairs, .lanes, .nodes, .remotes, .shears, .harvest, .runner] s
        (State.nodeFaults s l faults) := by
  unfold State.nodeFaults
  try dsimp only
  repeat' first
    | with_reducible exact .refl _ _
    | decide
    | split
    | with_reducible apply Frame.after (State.linkFaultOn_frame ..)
    | with_reducible apply Frame.after (State.modLeg_frame ..)
    | with_reducible apply Frame.after (State.reportAll_frame ..)
    | with_reducible refine Frame.foldl_after _ _ (fun s x => ?_) ?_
    | with_reducible refine Frame.foldl_fst _ _ (fun a x => ?_) ?_

theorem State.desatHold_frame (s : State) (l ch : Nat) (was now : Bool) (seen : ST64) :
    Frame [.regs, .shears] s (State.desatHold s l ch was now seen) := by
  unfold State.desatHold
  try dsimp only
  repeat' first
    | with_reducible exact .refl _ _
    | decide
    | split
    | with_reducible apply Frame.after (State.count_frame ..)
    | with_reducible apply Frame.after (State.modLeg_frame ..)

theorem State.desatPair_frame (s : State) (l ch : Nat) (h x : Bool × Bool) (seen : ST64) :
    Frame [.ctl, .regs, .rings, .eventSeq, .sent, .pairs, .lanes, .remotes, .shears, .harvest, .runner] s
        (State.desatPair s l ch h x seen) := by
  unfold State.desatPair
  try dsimp only
  repeat' first
    | with_reducible exact .refl _ _
    | decide
    | split
    | with_reducible apply Frame.after (State.desatHold_frame ..)
    | with_reducible apply Frame.after (State.report_frame ..)

theorem State.uvBit_frame (s : State) (l ch : Nat) (was now : Bool) (seen : ST64) :
    Frame [.ctl, .regs, .rings, .eventSeq, .sent, .pairs, .lanes, .remotes, .shears, .harvest, .runner] s
        (State.uvBit s l ch was now seen) := by
  unfold State.uvBit
  try dsimp only
  repeat' first
    | with_reducible exact .refl _ _
    | decide
    | split
    | with_reducible apply Frame.after (State.report_frame ..)

theorem State.ackCheck_frame (s : State) (l n j : Nat) (start : ST64) (ack : Nat) :
    Frame [.ctl, .regs, .rings, .eventSeq, .sent, .pairs, .lanes, .nodes, .remotes, .shears, .harvest, .runner] s
        (State.ackCheck s l n j start ack) := by
  unfold State.ackCheck
  try dsimp only
  repeat' first
    | with_reducible exact .refl _ _
    | decide
    | split
    | with_reducible apply Frame.after (State.count_frame ..)
    | with_reducible apply Frame.after (State.event_frame ..)
    | with_reducible apply Frame.after (State.flag_frame ..)
    | with_reducible apply Frame.after (State.modNode_frame ..)
    | with_reducible apply Frame.after (State.nodeFaults_frame ..)

theorem State.freeLeg_frame (s : State) (n : Nat) :
    Frame [.sent, .pairs, .remotes, .shears, .runner] s (State.freeLeg s n) := by
  unfold State.freeLeg
  try dsimp only
  repeat' first
    | with_reducible exact .refl _ _
    | decide
    | split
    | with_reducible apply Frame.after (State.modLeg_frame ..)
    | with_reducible apply Frame.after (State.modPair_frame ..)
    | with_reducible apply Frame.after (State.sendRelease_frame ..)

theorem State.clearTrip_frame (s : State) (g : Nat) :
    Frame [.regs, .rings, .eventSeq, .sent, .pairs, .shears, .runner] s (State.clearTrip s g) := by
  unfold State.clearTrip
  try dsimp only
  repeat' first
    | with_reducible exact .refl _ _
    | decide
    | split
    | with_reducible apply Frame.after (State.modSgroup_frame ..)
    | with_reducible apply Frame.after (State.pairSourceGone_frame ..)
    | with_reducible refine Frame.foldl_after _ _ (fun s x => ?_) ?_
    | with_reducible refine Frame.foldl_fst _ _ (fun a x => ?_) ?_

theorem State.endTrip_frame (s : State) (g : Nat) :
    Frame [.regs, .rings, .eventSeq, .sent, .pairs, .remotes, .shears, .runner] s (State.endTrip s g) := by
  unfold State.endTrip
  try dsimp only
  repeat' first
    | with_reducible exact .refl _ _
    | decide
    | split
    | with_reducible apply Frame.after (State.clearTrip_frame ..)
    | with_reducible apply Frame.after (State.sendRelease_frame ..)
    | with_reducible refine Frame.foldl_after _ _ (fun s x => ?_) ?_
    | with_reducible refine Frame.foldl_fst _ _ (fun a x => ?_) ?_

theorem State.swapShears_frame (s : State) (old : Store) :
    Frame [.regs, .sent, .lanes, .remotes, .runner] s (State.swapShears s old) := by
  unfold State.swapShears
  try dsimp only
  repeat' first
    | with_reducible exact .refl _ _
    | decide
    | split
    | with_reducible apply Frame.after (State.sendStop_frame ..)
    | with_reducible refine Frame.foldl_after _ _ (fun s x => ?_) ?_
    | with_reducible refine Frame.foldl_fst _ _ (fun a x => ?_) ?_

theorem State.testResult_frame (s : State) (target result trip rel : Nat) :
    Frame [.regs, .rings, .eventSeq, .sent, .shears, .runner] s (State.testResult s target result trip rel) := by
  unfold State.testResult
  try dsimp only
  repeat' first
    | with_reducible exact .refl _ _
    | decide
    | split
    | with_reducible apply Frame.after (State.advance_frame ..)
    | with_reducible apply Frame.after (State.event_frame ..)
    | with_reducible apply Frame.after (State.flag_frame ..)
    | with_reducible apply Frame.after (State.modShears_frame ..)
    | with_reducible apply Frame.after (State.put_frame ..)
    | with_reducible apply Frame.after (State.putT_frame ..)

theorem State.nodeTestDone_frame (s : State) (l n : Nat) (pass : Bool) :
    Frame [.regs, .rings, .eventSeq, .sent, .nodes, .shears, .runner] s (State.nodeTestDone s l n pass) := by
  unfold State.nodeTestDone
  try dsimp only
  repeat' first
    | with_reducible exact .refl _ _
    | decide
    | split
    | with_reducible apply Frame.after (State.modNode_frame ..)
    | with_reducible apply Frame.after (State.testResult_frame ..)

theorem State.frameBits_frame (s : State) (l n : Nat) (b1 : Nat) (seen : ST64) :
    Frame [.ctl, .regs, .rings, .eventSeq, .sent, .pairs, .lanes, .nodes, .remotes, .shears, .harvest, .runner] s
        (State.frameBits s l n b1 seen) := by
  unfold State.frameBits
  try dsimp only
  repeat' first
    | with_reducible exact .refl _ _
    | decide
    | split
    | with_reducible apply Frame.after (State.desatPair_frame ..)
    | with_reducible apply Frame.after (State.flag_frame ..)
    | with_reducible apply Frame.after (State.modNode_frame ..)
    | with_reducible apply Frame.after (State.nodeTestDone_frame ..)
    | with_reducible apply Frame.after (State.uvBit_frame ..)
    | with_reducible refine Frame.foldl_after _ _ (fun s x => ?_) ?_
    | with_reducible refine Frame.foldl_fst _ _ (fun a x => ?_) ?_

theorem State.frameTaken_frame (s : State) (l n : Nat) (b : Bytes) (arrival : ST64) :
    Frame [.ctl, .regs, .rings, .eventSeq, .sent, .pairs, .lanes, .nodes, .remotes, .shears, .harvest, .runner] s
        (State.frameTaken s l n b arrival) := by
  unfold State.frameTaken
  try dsimp only
  repeat' first
    | with_reducible exact .refl _ _
    | decide
    | split
    | with_reducible apply Frame.after (State.ackCheck_frame ..)
    | with_reducible apply Frame.after (State.chainAnswered_frame ..)
    | with_reducible apply Frame.after (State.count_frame ..)
    | with_reducible apply Frame.after (State.flag_frame ..)
    | with_reducible apply Frame.after (State.frameBits_frame ..)
    | with_reducible apply Frame.after (State.modNode_frame ..)
    | with_reducible apply Frame.after (State.put_frame ..)
    | with_reducible apply Frame.after (State.putB_frame ..)

theorem State.judgeCycle_frame (s : State) (l n j : Nat) :
    Frame [.regs, .rings, .eventSeq, .sent, .nodes, .runner] s (State.judgeCycle s l n j) := by
  unfold State.judgeCycle
  try dsimp only
  repeat' first
    | with_reducible exact .refl _ _
    | decide
    | split
    | with_reducible apply Frame.after (State.count_frame ..)
    | with_reducible apply Frame.after (State.linkFaultOff_frame ..)
    | with_reducible apply Frame.after (State.modNode_frame ..)

theorem State.judgeNode_frame (s : State) (l n : Nat) :
    Frame [.regs, .rings, .eventSeq, .sent, .nodes, .runner] s (State.judgeNode s l n) := by
  unfold State.judgeNode
  try dsimp only
  repeat' first
    | with_reducible exact .refl _ _
    | decide
    | split
    | with_reducible apply Frame.after (State.judgeCycle_frame ..)
    | with_reducible refine Frame.foldl_after _ _ (fun s x => ?_) ?_
    | with_reducible refine Frame.foldl_fst _ _ (fun a x => ?_) ?_

theorem State.cycleLock_frame (s : State) (l : Nat) (up : Bool) :
    Frame [.regs, .lanes] s (State.cycleLock s l up) := by
  unfold State.cycleLock
  try dsimp only
  repeat' first
    | with_reducible exact .refl _ _
    | decide
    | split
    | with_reducible apply Frame.after (State.modLane_frame ..)
    | with_reducible apply Frame.after (State.upstreamLost_frame ..)

theorem State.judgeLane_frame (s : State) (l : Nat) (up : Bool) :
    Frame [.ctl, .regs, .rings, .eventSeq, .sent, .pairs, .lanes, .nodes, .remotes, .shears, .harvest, .runner] s
        (State.judgeLane s l up) := by
  unfold State.judgeLane
  try dsimp only
  repeat' first
    | with_reducible exact .refl _ _
    | decide
    | split
    | with_reducible apply Frame.after (State.cycleLock_frame ..)
    | with_reducible apply Frame.after (State.judgeNode_frame ..)
    | with_reducible apply Frame.after (State.nodeFaults_frame ..)
    | with_reducible refine Frame.foldl_after _ _ (fun s x => ?_) ?_
    | with_reducible refine Frame.foldl_fst _ _ (fun a x => ?_) ?_

theorem State.sendCyc_frame (s : State) (l : Nat) :
    Frame [.sent, .lanes, .runner] s (State.sendCyc s l) := by
  unfold State.sendCyc
  try dsimp only
  repeat' first
    | with_reducible exact .refl _ _
    | decide
    | split
    | with_reducible apply Frame.after (State.laneSend_frame ..)
    | with_reducible apply Frame.after (State.mgmt_frame ..)
    | with_reducible apply Frame.after (State.modLane_frame ..)

theorem State.ageVcaps_frame (s : State) (l : Nat) :
    Frame [.nodes] s (State.ageVcaps s l) := by
  unfold State.ageVcaps
  try dsimp only
  repeat' first
    | with_reducible exact .refl _ _
    | decide
    | split
    | with_reducible apply Frame.after (State.modNode_frame ..)
    | with_reducible refine Frame.foldl_after _ _ (fun s x => ?_) ?_
    | with_reducible refine Frame.foldl_fst _ _ (fun a x => ?_) ?_

theorem State.skipCycles_frame (s : State) (l : Nat) :
    Frame [.nodes] s (State.skipCycles s l) := by
  unfold State.skipCycles
  try dsimp only
  repeat' first
    | with_reducible exact .refl _ _
    | decide
    | split
    | with_reducible apply Frame.after (State.modNode_frame ..)
    | with_reducible refine Frame.foldl_after _ _ (fun s x => ?_) ?_
    | with_reducible refine Frame.foldl_fst _ _ (fun a x => ?_) ?_

/-! ## Windows -/

theorem State.putQpState_frame (s : State) (ch : Nat) :
    Frame [.regs] s (State.putQpState s ch) := by
  unfold State.putQpState
  try dsimp only
  repeat' first
    | with_reducible exact .refl _ _
    | decide
    | split
    | with_reducible apply Frame.after (State.put_frame ..)

theorem State.qpTripped_frame (s : State) (ch : Nat) (high : Bool) (was : Bool) (seen : ST64) (v : Int) :
    Frame [.regs] s (State.qpTripped s ch high was seen v).1 := by
  unfold State.qpTripped
  try dsimp only
  repeat' first
    | with_reducible exact .refl _ _
    | decide
    | split
    | with_reducible apply Frame.after (State.flag_frame ..)
    | with_reducible apply Frame.after (State.putQpState_frame ..)

theorem State.holdWindow_frame (x : State × List Report) (ch : Nat) (high : Bool) (was : Bool) (v : Int) :
    Frame [.regs] x.1 (State.holdWindow x ch high was v).1 := by
  unfold State.holdWindow
  try dsimp only
  repeat' first
    | with_reducible exact .refl _ _
    | decide
    | split
    | with_reducible apply Frame.after (State.qpTripped_frame ..)

theorem State.supvFault_frame (x : State × List Report) (ch flags : Nat) (v : Int) :
    Frame [.regs, .rings, .eventSeq, .sent, .sieve, .harvest, .prior, .runner] x.1
        (State.supvFault x ch flags v).1 := by
  unfold State.supvFault
  try dsimp only
  repeat' first
    | with_reducible exact .refl _ _
    | decide
    | split
    | with_reducible apply Frame.after (State.chanStatus_frame ..)
    | with_reducible apply Frame.after (State.count_frame ..)
    | with_reducible apply Frame.after (State.event_frame ..)
    | with_reducible apply Frame.after (State.flag_frame ..)
    | with_reducible apply Frame.after (State.holdWindow_frame ..)
    | with_reducible apply Frame.after (State.modChan_frame ..)
    | with_reducible refine Frame.foldl_after _ _ (fun s x => ?_) ?_
    | with_reducible refine Frame.foldl_fst _ _ (fun a x => ?_) ?_

theorem State.swapWindows_frame (s : State) :
    Frame [.ctl, .regs, .rings, .eventSeq, .sent, .draws, .pairs, .lanes, .remotes, .shears, .harvest, .runner] s
        (State.swapWindows s) := by
  unfold State.swapWindows
  try dsimp only
  repeat' first
    | with_reducible exact .refl _ _
    | decide
    | split
    | with_reducible apply Frame.after (State.draw_frame ..)
    | with_reducible apply Frame.after (State.holdWindow_frame ..)
    | with_reducible apply Frame.after (State.putQpState_frame ..)
    | with_reducible apply Frame.after (State.reportAll_frame ..)
    | with_reducible refine Frame.foldl_after _ _ (fun s x => ?_) ?_
    | with_reducible refine Frame.foldl_fst _ _ (fun a x => ?_) ?_

theorem State.cmpLine_frame (s : State) (n : Nat) :
    Frame [.draws, .sieve] s (State.cmpLine s n).2 := by
  unfold State.cmpLine
  try dsimp only
  repeat' first
    | with_reducible exact .refl _ _
    | decide
    | split
    | with_reducible apply Frame.after (State.cmpLevel_frame ..)

theorem State.cmpTripped_frame (s : State) (n : Nat) (seen : ST64) :
    Frame [.ctl, .regs, .rings, .eventSeq, .sent, .pairs, .lanes, .remotes, .shears, .harvest, .prior, .runner] s
        (State.cmpTripped s n seen) := by
  unfold State.cmpTripped
  try dsimp only
  repeat' first
    | with_reducible exact .refl _ _
    | decide
    | split
    | with_reducible apply Frame.after (State.count_frame ..)
    | with_reducible apply Frame.after (State.putCmp_frame ..)
    | with_reducible apply Frame.after (State.report_frame ..)

theorem State.putCmpOwn_frame (s : State) (n : Nat) (b : Bool) :
    Frame [.sieve] s (State.putCmpOwn s n b) := by
  unfold State.putCmpOwn
  try dsimp only
  repeat' first
    | with_reducible exact .refl _ _
    | decide
    | split
    | with_reducible apply Frame.after (State.modSieve_frame ..)

theorem State.restoreCmp_frame (s : State) (n : Nat) :
    Frame [.ctl, .regs, .rings, .eventSeq, .sent, .pairs, .lanes, .remotes, .shears, .harvest, .prior, .runner] s
        (State.restoreCmp s n) := by
  unfold State.restoreCmp
  try dsimp only
  repeat' first
    | with_reducible exact .refl _ _
    | decide
    | split
    | with_reducible apply Frame.after (State.cmpTripped_frame ..)
    | with_reducible apply Frame.after (State.putCmp_frame ..)

theorem State.abandonTest_frame (s : State) :
    Frame [.ctl, .regs, .rings, .eventSeq, .sent, .pairs, .lanes, .remotes, .shears, .harvest, .prior, .runner] s
        (State.abandonTest s) := by
  unfold State.abandonTest
  try dsimp only
  repeat' first
    | with_reducible exact .refl _ _
    | decide
    | split
    | with_reducible apply Frame.after (State.restoreCmp_frame ..)
    | with_reducible apply Frame.after (State.testResult_frame ..)

end Sys2Proof.Machine
end

