-- ==== Sys2Proof/Laws/FrameEngines.lean ====
section
/-! SUPPORT. What the engines, grid forming, ride-through and the Sounder may change: one lemma per operation. -/

namespace Sys2Proof.Machine
open State

/-! ## Loops -/

theorem State.modEngine_frame (s : State) (e : Nat) (g : Engine → Engine) :
    Frame [.engines] s (State.modEngine s e g) := by
  unfold State.modEngine
  try dsimp only
  repeat' first
    | with_reducible exact .refl _ _
    | decide
    | split
    | with_reducible apply Frame.set_engines

theorem State.modSlot_frame (s : State) (e l : Nat) (g : LoopSlot → LoopSlot) :
    Frame [.engines] s (State.modSlot s e l g) := by
  unfold State.modSlot
  try dsimp only
  repeat' first
    | with_reducible exact .refl _ _
    | decide
    | split
    | with_reducible apply Frame.after (State.modEngine_frame ..)

theorem State.setLoop_frame (s : State) (e l : Nat) (new : LoopState) (cause : Nat) :
    Frame [.regs, .rings, .eventSeq, .sent, .engines, .runner] s (State.setLoop s e l new cause) := by
  unfold State.setLoop
  try dsimp only
  repeat' first
    | with_reducible exact .refl _ _
    | decide
    | split
    | with_reducible apply Frame.after (State.event_frame ..)
    | with_reducible apply Frame.after (State.modSlot_frame ..)
    | with_reducible apply Frame.after (State.put_frame ..)
    | with_reducible apply Frame.after (State.putT_frame ..)

theorem State.clearFerr_frame (s : State) (e b : Nat) :
    Frame [.engines] s (State.clearFerr s e b) := by
  unfold State.clearFerr
  try dsimp only
  repeat' first
    | with_reducible exact .refl _ _
    | decide
    | split
    | with_reducible apply Frame.after (State.modEngine_frame ..)

theorem State.closeLoop_frame (s : State) (e l cause : Nat) :
    Frame [.regs, .rings, .eventSeq, .sent, .engines, .runner] s (State.closeLoop s e l cause) := by
  unfold State.closeLoop
  try dsimp only
  repeat' first
    | with_reducible exact .refl _ _
    | decide
    | split
    | with_reducible apply Frame.after (State.clearFerr_frame ..)
    | with_reducible apply Frame.after (State.count_frame ..)
    | with_reducible apply Frame.after (State.modSlot_frame ..)
    | with_reducible apply Frame.after (State.setLoop_frame ..)
    | with_reducible refine Frame.foldl_after _ _ (fun s x => ?_) ?_
    | with_reducible refine Frame.foldl_fst _ _ (fun a x => ?_) ?_

theorem State.refreshLoopCauses_frame (s : State) :
    Frame [.ctl, .cloche] s (State.refreshLoopCauses s) := by
  unfold State.refreshLoopCauses
  try dsimp only
  repeat' first
    | with_reducible exact .refl _ _
    | decide
    | split
    | with_reducible apply Frame.after (State.dropCause_frame ..)
    | with_reducible apply Frame.after (State.overrunGone_frame ..)

theorem State.stepFault_frame (s : State) (e l : Nat) :
    Frame [.regs, .rings, .eventSeq, .sent, .engines, .runner] s (State.stepFault s e l).1 := by
  unfold State.stepFault
  try dsimp only
  repeat' first
    | with_reducible exact .refl _ _
    | decide
    | split
    | with_reducible apply Frame.after (State.flag_frame ..)
    | with_reducible apply Frame.after (State.modSlot_frame ..)
    | with_reducible apply Frame.after (State.put_frame ..)
    | with_reducible apply Frame.after (State.setLoop_frame ..)

theorem State.stepMark_frame (s : State) (e l : Nat) :
    Frame [.regs, .rings, .eventSeq, .sent, .engines, .runner] s (State.stepMark s e l) := by
  unfold State.stepMark
  try dsimp only
  repeat' first
    | with_reducible exact .refl _ _
    | decide
    | split
    | with_reducible apply Frame.after (State.closeLoop_frame ..)
    | with_reducible apply Frame.after (State.flag_frame ..)
    | with_reducible apply Frame.after (State.modSlot_frame ..)
    | with_reducible apply Frame.after (State.setLoop_frame ..)

theorem State.discardCmd_frame (s : State) (e l : Nat) :
    Frame [.regs] s (State.discardCmd s e l) := by
  unfold State.discardCmd
  try dsimp only
  repeat' first
    | with_reducible exact .refl _ _
    | decide
    | split
    | with_reducible apply Frame.after (State.count_frame ..)

theorem State.stepCmd_frame (s : State) (e l : Nat) (fresh : Bool) (c : LoopCmd) :
    Frame [.regs, .rings, .eventSeq, .sent, .engines, .runner] s (State.stepCmd s e l fresh c) := by
  unfold State.stepCmd
  try dsimp only
  repeat' first
    | with_reducible exact .refl _ _
    | decide
    | split
    | with_reducible apply Frame.after (State.closeLoop_frame ..)
    | with_reducible apply Frame.after (State.discardCmd_frame ..)
    | with_reducible apply Frame.after (State.modSlot_frame ..)
    | with_reducible apply Frame.after (State.put_frame ..)
    | with_reducible apply Frame.after (State.setLoop_frame ..)

theorem State.stepFerr_frame (s : State) (e l : Nat) :
    Frame [.regs, .rings, .eventSeq, .sent, .engines, .runner] s (State.stepFerr s e l) := by
  unfold State.stepFerr
  try dsimp only
  repeat' first
    | with_reducible exact .refl _ _
    | decide
    | split
    | with_reducible apply Frame.after (State.modSlot_frame ..)
    | with_reducible apply Frame.after (State.setLoop_frame ..)

theorem State.stepHedge_frame (s : State) (e l : Nat) :
    Frame [.regs, .rings, .eventSeq, .sent, .engines, .runner] s (State.stepHedge s e l) := by
  unfold State.stepHedge
  try dsimp only
  repeat' first
    | with_reducible exact .refl _ _
    | decide
    | split
    | with_reducible apply Frame.after (State.modSlot_frame ..)
    | with_reducible apply Frame.after (State.setLoop_frame ..)

theorem State.keepPreload_frame (s : State) (e l : Nat) (retuned : Bool) :
    Frame [.engines] s (State.keepPreload s e l retuned) := by
  unfold State.keepPreload
  try dsimp only
  repeat' first
    | with_reducible exact .refl _ _
    | decide
    | split
    | with_reducible apply Frame.after (State.modSlot_frame ..)

theorem State.applySlot_frame (s : State) (e l : Nat) :
    Frame [.regs, .rings, .eventSeq, .sent, .engines, .runner] s (State.applySlot s e l) := by
  unfold State.applySlot
  try dsimp only
  repeat' first
    | with_reducible exact .refl _ _
    | decide
    | split
    | with_reducible apply Frame.after (State.keepPreload_frame ..)
    | with_reducible apply Frame.after (State.modSlot_frame ..)
    | with_reducible apply Frame.after (State.stepCmd_frame ..)
    | with_reducible apply Frame.after (State.stepFault_frame ..)
    | with_reducible apply Frame.after (State.stepFerr_frame ..)
    | with_reducible apply Frame.after (State.stepHedge_frame ..)
    | with_reducible apply Frame.after (State.stepMark_frame ..)
    | with_reducible refine Frame.foldl_after _ _ (fun s x => ?_) ?_
    | with_reducible refine Frame.foldl_fst _ _ (fun a x => ?_) ?_

theorem State.applySlots_frame (s : State) (e : Nat) :
    Frame [.ctl, .regs, .rings, .eventSeq, .sent, .engines, .cloche, .runner] s (State.applySlots s e) := by
  unfold State.applySlots
  try dsimp only
  repeat' first
    | with_reducible exact .refl _ _
    | decide
    | split
    | with_reducible apply Frame.after (State.applySlot_frame ..)
    | with_reducible apply Frame.after (State.refreshLoopCauses_frame ..)
    | with_reducible refine Frame.foldl_after _ _ (fun s x => ?_) ?_
    | with_reducible refine Frame.foldl_fst _ _ (fun a x => ?_) ?_

theorem State.settleSlots_frame (s : State) (e : Nat) :
    Frame [.ctl, .regs, .rings, .eventSeq, .sent, .engines, .cloche, .runner] s (State.settleSlots s e) := by
  unfold State.settleSlots
  try dsimp only
  repeat' first
    | with_reducible exact .refl _ _
    | decide
    | split
    | with_reducible apply Frame.after (State.applySlots_frame ..)

theorem State.engineAction_frame (s : State) (e code reason : Nat) :
    Frame [.ctl, .regs, .rings, .eventSeq, .sent, .engines, .pairs, .lanes, .remotes, .shears, .harvest, .runner] s
        (State.engineAction s e code reason) := by
  unfold State.engineAction
  try dsimp only
  repeat' first
    | with_reducible exact .refl _ _
    | decide
    | split
    | with_reducible apply Frame.after (State.event_frame ..)
    | with_reducible apply Frame.after (State.modSlot_frame ..)
    | with_reducible apply Frame.after (State.raiseCause_frame ..)
    | with_reducible apply Frame.after (State.report_frame ..)
    | with_reducible refine Frame.foldl_after _ _ (fun s x => ?_) ?_
    | with_reducible refine Frame.foldl_fst _ _ (fun a x => ?_) ?_

theorem State.ferrTrip_frame (s : State) (e b : Nat) :
    Frame [.ctl, .regs, .rings, .eventSeq, .sent, .engines, .runner] s (State.ferrTrip s e b) := by
  unfold State.ferrTrip
  try dsimp only
  repeat' first
    | with_reducible exact .refl _ _
    | decide
    | split
    | with_reducible apply Frame.after (State.count_frame ..)
    | with_reducible apply Frame.after (State.event_frame ..)
    | with_reducible apply Frame.after (State.flag_frame ..)
    | with_reducible apply Frame.after (State.modSlot_frame ..)
    | with_reducible apply Frame.after (State.raiseCause_frame ..)

theorem State.initSlots_frame (s : State) (e cause : Nat) :
    Frame [.regs, .rings, .eventSeq, .sent, .engines, .runner] s (State.initSlots s e cause) := by
  unfold State.initSlots
  try dsimp only
  repeat' first
    | with_reducible exact .refl _ _
    | decide
    | split
    | with_reducible apply Frame.after (State.modSlot_frame ..)
    | with_reducible apply Frame.after (State.setLoop_frame ..)
    | with_reducible refine Frame.foldl_after _ _ (fun s x => ?_) ?_
    | with_reducible refine Frame.foldl_fst _ _ (fun a x => ?_) ?_

theorem State.queueLoop_frame (s : State) (e l : Nat) (c : LoopCmd) :
    Frame [.ctl, .regs, .rings, .eventSeq, .sent, .engines, .cloche, .runner] s (State.queueLoop s e l c) := by
  unfold State.queueLoop
  try dsimp only
  repeat' first
    | with_reducible exact .refl _ _
    | decide
    | split
    | with_reducible apply Frame.after (State.modSlot_frame ..)
    | with_reducible apply Frame.after (State.settleSlots_frame ..)

/-! ## Trellis -/

theorem State.runFlag_s (r : PeriodRun) (b : Nat) :
    (State.runFlag r b).s = r.s := by unfold State.runFlag; split <;> rfl

theorem State.commitBlock_frame (s : State) (e b : Nat) (o : BlockOut) :
    Frame [.engines] s (State.commitBlock s e b o) := by
  unfold State.commitBlock
  try dsimp only
  repeat' first
    | with_reducible exact .refl _ _
    | decide
    | split
    | with_reducible apply Frame.after (State.modEngine_frame ..)
    | with_reducible refine Frame.foldl_after _ _ (fun s x => ?_) ?_
    | with_reducible refine Frame.foldl_fst _ _ (fun a x => ?_) ?_

theorem State.hedgeResult_frame (s : State) (e b : Nat) (winner : Int) :
    Frame [.regs, .engines] s (State.hedgeResult s e b winner) := by
  unfold State.hedgeResult
  try dsimp only
  repeat' first
    | with_reducible exact .refl _ _
    | decide
    | split
    | with_reducible apply Frame.after (State.modSlot_frame ..)
    | with_reducible apply Frame.after (State.put_frame ..)
    | with_reducible refine Frame.foldl_after _ _ (fun s x => ?_) ?_
    | with_reducible refine Frame.foldl_fst _ _ (fun a x => ?_) ?_

theorem State.tripEffects_frame (s : State) (e b : Nat) :
    Frame [.ctl, .regs, .rings, .eventSeq, .sent, .engines, .ride, .runner] s (State.tripEffects s e b) := by
  unfold State.tripEffects
  try dsimp only
  repeat' first
    | with_reducible exact .refl _ _
    | decide
    | split
    | with_reducible apply Frame.after (State.ferrTrip_frame ..)
    | with_reducible apply Frame.after (State.modRide_frame ..)

theorem State.clampEffects_frame (s : State) (e b : Nat) (c : Nat × Int × Int) :
    Frame [.regs, .rings, .eventSeq, .sent, .runner] s (State.clampEffects s e b c) := by
  unfold State.clampEffects
  try dsimp only
  repeat' first
    | with_reducible exact .refl _ _
    | decide
    | split
    | with_reducible apply Frame.after (State.event_frame ..)
    | with_reducible apply Frame.after (State.flag_frame ..)

theorem State.guardEffects_frame (s : State) (e b : Nat) (o : BlockOut) :
    Frame [.regs] s (State.guardEffects s e b o) := by
  unfold State.guardEffects
  try dsimp only
  repeat' first
    | with_reducible exact .refl _ _
    | decide
    | split
    | with_reducible apply Frame.after (State.count_frame ..)
    | with_reducible apply Frame.after (State.flag_frame ..)

theorem State.syncEffects_frame (s : State) (e b : Nat) (x : List (BitVec 32)) :
    Frame [.gf] s (State.syncEffects s e b x) := by
  unfold State.syncEffects
  try dsimp only
  repeat' first
    | with_reducible exact .refl _ _
    | decide
    | split
    | with_reducible apply Frame.after (State.modGf_frame ..)

theorem State.blockEffects_frame (s : State) (e b : Nat) (x : List (BitVec 32)) (o : BlockOut) :
    Frame [.ctl, .regs, .rings, .eventSeq, .sent, .engines, .gf, .ride, .runner] s
        (State.blockEffects s e b x o) := by
  unfold State.blockEffects
  try dsimp only
  repeat' first
    | with_reducible exact .refl _ _
    | decide
    | split
    | with_reducible apply Frame.after (State.clampEffects_frame ..)
    | with_reducible apply Frame.after (State.guardEffects_frame ..)
    | with_reducible apply Frame.after (State.hedgeResult_frame ..)
    | with_reducible apply Frame.after (State.syncEffects_frame ..)
    | with_reducible apply Frame.after (State.tripEffects_frame ..)

theorem State.computeBlock_frame (r : PeriodRun) (e b : Nat) :
    Frame [.ctl, .regs, .rings, .eventSeq, .sent, .draws, .engines, .gf, .ride, .runner] r.s
        (State.computeBlock r e b).s := by
  unfold State.computeBlock
  dsimp only
  repeat' first
    | with_reducible exact .refl _ _
    | decide
    | split
    | rw [State.runFlag_s]
    | with_reducible apply Frame.after (State.modEngine_frame ..)
    | with_reducible apply Frame.after (State.blockEffects_frame ..)
    | with_reducible apply Frame.after (State.commitBlock_frame ..)
    | with_reducible apply Frame.after (State.skipDraws_frame ..)

theorem State.mismatch_frame (r : PeriodRun) (e b : Nat) :
    Frame [.ctl, .regs, .rings, .eventSeq, .sent, .lanes, .remotes, .cloche, .rst, .runner] r.s
        (State.mismatch r e b).s := by
  unfold State.mismatch
  rw [State.runFlag_s]
  exact .after (State.chkReport_frame ..) (by decide) (.after (State.put_frame ..) (by decide)
    (.after (State.count_frame ..) (by decide) (.refl _ _)))

theorem State.withhold_frame (r : PeriodRun) (e b c : Nat) :
    Frame [.regs, .rings, .eventSeq, .sent, .runner] r.s (State.withhold r e b c).s := by
  unfold State.withhold
  rw [State.runFlag_s]
  exact State.eventAt_frame ..

theorem State.runListed_frame (e phase : Nat) (mism : List (Nat × Bool)) (r : PeriodRun) (w : Bool × Nat) (rest : Nat) :
    Frame [.ctl, .regs, .rings, .eventSeq, .sent, .draws, .engines, .gf, .ride, .lanes, .remotes, .cloche, .rst,
        .runner] r.s (State.runListed e phase mism r w rest).s := by
  unfold State.runListed
  dsimp only
  repeat' first
    | with_reducible exact .refl _ _
    | decide
    | split
    | with_reducible apply Frame.after (State.withhold_frame ..)
    | with_reducible apply Frame.after (State.computeBlock_frame ..)
    | with_reducible apply Frame.after (State.mismatch_frame ..)
    | with_reducible apply Frame.after (State.event_frame ..)
    | with_reducible apply Frame.after (State.count_frame ..)

theorem State.runList_frame (e phase : Nat) (mism : List (Nat × Bool)) (l : List (Bool × Nat)) (r : PeriodRun) :
    Frame [.ctl, .regs, .rings, .eventSeq, .sent, .draws, .engines, .gf, .ride, .lanes, .remotes, .cloche, .rst,
        .runner] r.s (State.runList e phase mism l r).s := by
  induction l generalizing r with
  | nil => exact .refl _ _
  | cons w l ih => exact .trans (State.runListed_frame ..) (ih _)

theorem State.staleLimit_frame (s : State) (e : Nat) (stale : Bool) :
    Frame [.ctl, .regs, .rings, .eventSeq, .sent, .engines, .pairs, .lanes, .remotes, .shears, .harvest, .runner] s
        (State.staleLimit s e stale) := by
  unfold State.staleLimit
  try dsimp only
  repeat' first
    | with_reducible exact .refl _ _
    | decide
    | split
    | with_reducible apply Frame.after (State.engineAction_frame ..)
    | with_reducible apply Frame.after (State.event_frame ..)
    | with_reducible apply Frame.after (State.modEngine_frame ..)

theorem State.latency_frame (s : State) (e : Nat) :
    Frame [.regs] s (State.latency s e) := by
  unfold State.latency
  try dsimp only
  repeat' first
    | with_reducible exact .refl _ _
    | decide
    | split
    | with_reducible apply Frame.after (State.put_frame ..)

theorem State.periodFlags_frame (s : State) (e : Nat) (flags : List Nat) :
    Frame [.regs] s (State.periodFlags s e flags) := by
  unfold State.periodFlags
  try dsimp only
  repeat' first
    | with_reducible exact .refl _ _
    | decide
    | split
    | with_reducible apply Frame.after (State.count_frame ..)
    | with_reducible apply Frame.after (State.flag_frame ..)
    | with_reducible refine Frame.foldl_after _ _ (fun s x => ?_) ?_
    | with_reducible refine Frame.foldl_fst _ _ (fun a x => ?_) ?_

theorem State.overrun_frame (s : State) (e : Nat) :
    Frame [.ctl, .regs, .rings, .eventSeq, .sent, .engines, .pairs, .lanes, .remotes, .shears, .cloche, .harvest,
        .runner] s (State.overrun s e) := by
  unfold State.overrun
  try dsimp only
  repeat' first
    | with_reducible exact .refl _ _
    | decide
    | split
    | with_reducible apply Frame.after (State.countBy_frame ..)
    | with_reducible apply Frame.after (State.engineAction_frame ..)
    | with_reducible apply Frame.after (State.overrunStop_frame ..)

theorem State.endPreload_frame (s : State) (e : Nat) :
    Frame [.engines] s (State.endPreload s e) := by
  unfold State.endPreload
  try dsimp only
  repeat' first
    | with_reducible exact .refl _ _
    | decide
    | split
    | with_reducible apply Frame.after (State.modSlot_frame ..)
    | with_reducible refine Frame.foldl_after _ _ (fun s x => ?_) ?_
    | with_reducible refine Frame.foldl_fst _ _ (fun a x => ?_) ?_

theorem State.periodOpen_frame (s : State) (e : Nat) :
    Frame [.ctl, .regs, .rings, .eventSeq, .sent, .engines, .cloche, .runner] s (State.periodOpen s e) := by
  unfold State.periodOpen
  try dsimp only
  repeat' first
    | with_reducible exact .refl _ _
    | decide
    | split
    | with_reducible apply Frame.after (State.applySlots_frame ..)
    | with_reducible apply Frame.after (State.countBy_frame ..)
    | with_reducible apply Frame.after (State.modEngine_frame ..)
    | with_reducible apply Frame.after (State.putT_frame ..)

theorem State.noteStale_frame (s : State) (e : Nat) :
    Frame [.regs] s (State.noteStale s e) := by
  unfold State.noteStale
  try dsimp only
  repeat' first
    | with_reducible exact .refl _ _
    | decide
    | split
    | with_reducible apply Frame.after (State.put_frame ..)

theorem State.periodRun_frame (s : State) (e : Nat) (mism : List (Nat × Bool)) :
    Frame [.ctl, .regs, .rings, .eventSeq, .sent, .draws, .engines, .gf, .ride, .lanes, .remotes, .cloche, .rst,
        .runner] s (State.periodRun s e mism).s := by
  unfold State.periodRun
  exact State.runList_frame (r := ⟨s, _, _, _⟩) ..

theorem State.periodClose_frame (s : State) (e : Nat) (cycle : Nat) (flags : List Nat) (ended stale : Bool) :
    Frame [.ctl, .regs, .rings, .eventSeq, .sent, .engines, .gf, .pairs, .lanes, .remotes, .shears, .cloche, .harvest,
        .runner] s (State.periodClose s e cycle flags ended stale) := by
  unfold State.periodClose
  try dsimp only
  repeat' first
    | with_reducible exact .refl _ _
    | decide
    | split
    | with_reducible apply Frame.after (State.flag_frame ..)
    | with_reducible apply Frame.after (State.modEngine_frame ..)
    | with_reducible apply Frame.after (State.modGf_frame ..)
    | with_reducible apply Frame.after (State.overrun_frame ..)
    | with_reducible apply Frame.after (State.periodFlags_frame ..)
    | with_reducible apply Frame.after (State.put_frame ..)

theorem State.period_frame (s : State) (e : Nat) (mism : List (Nat × Bool)) :
    Frame [.ctl, .regs, .rings, .eventSeq, .sent, .draws, .engines, .gf, .ride, .pairs, .lanes, .remotes, .shears,
        .cloche, .harvest, .rst, .runner] s (State.period s e mism) := by
  unfold State.period
  try dsimp only
  repeat' first
    | with_reducible exact .refl _ _
    | decide
    | split
    | with_reducible apply Frame.after (State.endPreload_frame ..)
    | with_reducible apply Frame.after (State.latency_frame ..)
    | with_reducible apply Frame.after (State.noteStale_frame ..)
    | with_reducible apply Frame.after (State.periodClose_frame ..)
    | with_reducible apply Frame.after (State.periodOpen_frame ..)
    | with_reducible apply Frame.after (State.periodRun_frame ..)
    | with_reducible apply Frame.after (State.staleLimit_frame ..)

theorem State.handOne_frame (s : State) (e : Nat) (h : HandOver) :
    Frame [.regs, .rings, .eventSeq, .sent, .engines, .furrows, .lanes, .remotes, .arms, .shared, .prior, .runner] s
        (State.handOne s e h) := by
  unfold State.handOne
  try dsimp only
  repeat' first
    | with_reducible exact .refl _ _
    | decide
    | split
    | with_reducible apply Frame.after (State.modArm_frame ..)
    | with_reducible apply Frame.after (State.modEngine_frame ..)
    | with_reducible apply Frame.after (State.modFurrow_frame ..)
    | with_reducible apply Frame.after (State.noteShared_frame ..)
    | with_reducible apply Frame.after (State.rakeRun_frame ..)
    | with_reducible apply Frame.after (State.ringPost_frame ..)
    | with_reducible apply Frame.after (State.send_frame ..)
    | with_reducible apply Frame.after (State.setShared_frame ..)
    | with_reducible refine Frame.foldl_after _ _ (fun s x => ?_) ?_
    | with_reducible refine Frame.foldl_fst _ _ (fun a x => ?_) ?_

theorem State.publish_frame (s : State) (e : Nat) :
    Frame [.regs, .rings, .eventSeq, .sent, .engines, .furrows, .lanes, .remotes, .arms, .shared, .prior, .runner] s
        (State.publish s e) := by
  unfold State.publish
  try dsimp only
  repeat' first
    | with_reducible exact .refl _ _
    | decide
    | split
    | with_reducible apply Frame.after (State.handOne_frame ..)
    | with_reducible apply Frame.after (State.modEngine_frame ..)
    | with_reducible apply Frame.after (State.noteCopy_frame ..)
    | with_reducible apply Frame.after (State.put_frame ..)
    | with_reducible refine Frame.foldl_after _ _ (fun s x => ?_) ?_
    | with_reducible refine Frame.foldl_fst _ _ (fun a x => ?_) ?_

theorem State.clearEngine_frame (s : State) (e : Nat) :
    Frame [.engines] s (State.clearEngine s e) := by
  unfold State.clearEngine
  try dsimp only
  repeat' first
    | with_reducible exact .refl _ _
    | decide
    | split
    | with_reducible apply Frame.after (State.modEngine_frame ..)

theorem State.dropPeriods_frame (s : State) :
    Frame [.engines] s (State.dropPeriods s) := by
  unfold State.dropPeriods
  try dsimp only
  repeat' first
    | with_reducible exact .refl _ _
    | decide
    | split
    | with_reducible apply Frame.after (State.modEngine_frame ..)
    | with_reducible refine Frame.foldl_after _ _ (fun s x => ?_) ?_
    | with_reducible refine Frame.foldl_fst _ _ (fun a x => ?_) ?_

theorem State.sleepEngines_frame (s : State) :
    Frame [.engines] s (State.sleepEngines s) := by
  unfold State.sleepEngines
  try dsimp only
  repeat' first
    | with_reducible exact .refl _ _
    | decide
    | split
    | with_reducible apply Frame.after (State.modEngine_frame ..)
    | with_reducible refine Frame.foldl_after _ _ (fun s x => ?_) ?_
    | with_reducible refine Frame.foldl_fst _ _ (fun a x => ?_) ?_

/-! ## GridForming -/

theorem State.setDeadbus_frame (s : State) (new : Nat) (low : Int) :
    Frame [.regs, .rings, .eventSeq, .sent, .gf, .runner] s (State.setDeadbus s new low) := by
  unfold State.setDeadbus
  try dsimp only
  repeat' first
    | with_reducible exact .refl _ _
    | decide
    | split
    | with_reducible apply Frame.after (State.event_frame ..)
    | with_reducible apply Frame.after (State.modGf_frame ..)
    | with_reducible apply Frame.after (State.put_frame ..)

theorem State.deadbusEval_frame (s : State) (e : Nat) (ok : Bool) :
    Frame [.regs, .rings, .eventSeq, .sent, .gf, .runner] s (State.deadbusEval s e ok) := by
  unfold State.deadbusEval
  try dsimp only
  repeat' first
    | with_reducible exact .refl _ _
    | decide
    | split
    | with_reducible apply Frame.after (State.flag_frame ..)
    | with_reducible apply Frame.after (State.modGf_frame ..)
    | with_reducible apply Frame.after (State.setDeadbus_frame ..)

theorem State.refreshDeadbus_frame (s : State) :
    Frame [.regs, .rings, .eventSeq, .sent, .gf, .runner] s (State.refreshDeadbus s) := by
  unfold State.refreshDeadbus
  try dsimp only
  repeat' first
    | with_reducible exact .refl _ _
    | decide
    | split
    | with_reducible apply Frame.after (State.modGf_frame ..)
    | with_reducible apply Frame.after (State.setDeadbus_frame ..)

theorem State.rampEval_frame (s : State) (e : Nat) (published : Bool) :
    Frame [.regs, .gf] s (State.rampEval s e published) := by
  unfold State.rampEval
  try dsimp only
  repeat' first
    | with_reducible exact .refl _ _
    | decide
    | split
    | with_reducible apply Frame.after (State.count_frame ..)
    | with_reducible apply Frame.after (State.modGf_frame ..)

theorem State.syncPassed_frame (s : State) (e b : Nat) :
    Frame [.regs, .rings, .eventSeq, .sent, .gf, .runner] s (State.syncPassed s e b) := by
  unfold State.syncPassed
  try dsimp only
  repeat' first
    | with_reducible exact .refl _ _
    | decide
    | split
    | with_reducible apply Frame.after (State.event_frame ..)
    | with_reducible apply Frame.after (State.modGf_frame ..)
    | with_reducible apply Frame.after (State.putB_frame ..)

theorem State.syncEval_frame (s : State) (e : Nat) (ok : Bool) :
    Frame [.regs, .rings, .eventSeq, .sent, .gf, .runner] s (State.syncEval s e ok) := by
  unfold State.syncEval
  try dsimp only
  repeat' first
    | with_reducible exact .refl _ _
    | decide
    | split
    | with_reducible apply Frame.after (State.modGf_frame ..)
    | with_reducible apply Frame.after (State.syncPassed_frame ..)

theorem State.syncStart_frame (s : State) :
    Frame [.engines, .gf] s (State.syncStart s) := by
  unfold State.syncStart
  try dsimp only
  repeat' first
    | with_reducible exact .refl _ _
    | decide
    | split
    | with_reducible apply Frame.after (State.modEngine_frame ..)
    | with_reducible apply Frame.after (State.modGf_frame ..)

theorem State.syncStop_frame (s : State) :
    Frame [.gf] s (State.syncStop s) := by
  unfold State.syncStop
  try dsimp only
  repeat' first
    | with_reducible exact .refl _ _
    | decide
    | split
    | with_reducible apply Frame.after (State.modGf_frame ..)

theorem State.breakerCmd_frame (s : State) (out command : Nat) (pulsed : Bool) :
    Frame [.regs, .rings, .eventSeq, .sent, .gf, .cloche, .runner] s (State.breakerCmd s out command pulsed) := by
  unfold State.breakerCmd
  try dsimp only
  repeat' first
    | with_reducible exact .refl _ _
    | decide
    | split
    | with_reducible apply Frame.after (State.event_frame ..)
    | with_reducible apply Frame.after (State.modGf_frame ..)
    | with_reducible apply Frame.after (State.put_frame ..)
    | with_reducible apply Frame.after (State.soCommand_frame ..)

theorem State.breakerClose_frame (s : State) :
    Frame [.regs, .rings, .eventSeq, .sent, .gf, .cloche, .runner] s (State.breakerClose s) := by
  unfold State.breakerClose
  try dsimp only
  repeat' first
    | with_reducible exact .refl _ _
    | decide
    | split
    | with_reducible apply Frame.after (State.breakerCmd_frame ..)

theorem State.breakerOpen_frame (s : State) :
    Frame [.regs, .rings, .eventSeq, .sent, .gf, .cloche, .runner] s (State.breakerOpen s) := by
  unfold State.breakerOpen
  try dsimp only
  repeat' first
    | with_reducible exact .refl _ _
    | decide
    | split
    | with_reducible apply Frame.after (State.breakerCmd_frame ..)

theorem State.breakerWatch_frame (s : State) :
    Frame [.regs, .rings, .eventSeq, .sent, .cloche, .runner] s (State.breakerWatch s) := by
  unfold State.breakerWatch
  try dsimp only
  repeat' first
    | with_reducible exact .refl _ _
    | decide
    | split
    | with_reducible apply Frame.after (State.soCommand_frame ..)

theorem State.breakerHalt_frame (s : State) :
    Frame [.regs, .rings, .eventSeq, .sent, .gf, .cloche, .runner] s (State.breakerHalt s) := by
  unfold State.breakerHalt
  try dsimp only
  repeat' first
    | with_reducible exact .refl _ _
    | decide
    | split
    | with_reducible apply Frame.after (State.modGf_frame ..)
    | with_reducible apply Frame.after (State.soCommand_frame ..)
    | with_reducible apply Frame.after (State.soWaitEnd_frame ..)
    | with_reducible refine Frame.foldl_after _ _ (fun s x => ?_) ?_
    | with_reducible refine Frame.foldl_fst _ _ (fun a x => ?_) ?_

theorem State.putIsl_frame (s : State) :
    Frame [.regs] s (State.putIsl s) := by
  unfold State.putIsl
  try dsimp only
  repeat' first
    | with_reducible exact .refl _ _
    | decide
    | split
    | with_reducible apply Frame.after (State.put_frame ..)

theorem State.dropDrift_frame (s : State) :
    Frame [.regs, .gf] s (State.dropDrift s) := by
  unfold State.dropDrift
  try dsimp only
  repeat' first
    | with_reducible exact .refl _ _
    | decide
    | split
    | with_reducible apply Frame.after (State.modGf_frame ..)
    | with_reducible apply Frame.after (State.putIsl_frame ..)

theorem State.declareIsland_frame (s : State) :
    Frame [.regs, .rings, .eventSeq, .sent, .gf, .runner] s (State.declareIsland s) := by
  unfold State.declareIsland
  try dsimp only
  repeat' first
    | with_reducible exact .refl _ _
    | decide
    | split
    | with_reducible apply Frame.after (State.count_frame ..)
    | with_reducible apply Frame.after (State.event_frame ..)
    | with_reducible apply Frame.after (State.flag_frame ..)
    | with_reducible apply Frame.after (State.modGf_frame ..)
    | with_reducible apply Frame.after (State.putT_frame ..)

theorem State.driftEval_frame (s : State) (e : Nat) (ok : Bool) :
    Frame [.regs, .rings, .eventSeq, .sent, .gf, .runner] s (State.driftEval s e ok) := by
  unfold State.driftEval
  try dsimp only
  repeat' first
    | with_reducible exact .refl _ _
    | decide
    | split
    | with_reducible apply Frame.after (State.declareIsland_frame ..)
    | with_reducible apply Frame.after (State.modGf_frame ..)
    | with_reducible apply Frame.after (State.putIsl_frame ..)

theorem State.impedanceEval_frame (s : State) (zz : Nat) :
    Frame [.regs, .rings, .eventSeq, .sent, .draws, .gf, .runner] s (State.impedanceEval s zz) := by
  unfold State.impedanceEval
  try dsimp only
  repeat' first
    | with_reducible exact .refl _ _
    | decide
    | split
    | with_reducible apply Frame.after (State.declareIsland_frame ..)
    | with_reducible apply Frame.after (State.draw_frame ..)
    | with_reducible apply Frame.after (State.modGf_frame ..)
    | with_reducible apply Frame.after (State.put_frame ..)
    | with_reducible apply Frame.after (State.putIsl_frame ..)

/-! ## Ride -/

theorem State.presentRide_frame (s : State) (cause : Nat) (word : Int) (te : ST64) :
    Frame [.ride] s (State.presentRide s cause word te) := by
  unfold State.presentRide
  try dsimp only
  repeat' first
    | with_reducible exact .refl _ _
    | decide
    | split
    | with_reducible apply Frame.after (State.modRide_frame ..)

theorem State.voltageEval_frame (s : State) (word : Int) (t0 : ST64) :
    Frame [.ride] s (State.voltageEval s word t0) := by
  unfold State.voltageEval
  try dsimp only
  repeat' first
    | with_reducible exact .refl _ _
    | decide
    | split
    | with_reducible apply Frame.after (State.modRide_frame ..)
    | with_reducible apply Frame.after (State.presentRide_frame ..)

theorem State.leaveEnvelope_frame (s : State) (reason : Nat) (word t : Int) :
    Frame [.regs, .rings, .eventSeq, .sent, .ride, .runner] s (State.leaveEnvelope s reason word t) := by
  unfold State.leaveEnvelope
  try dsimp only
  repeat' first
    | with_reducible exact .refl _ _
    | decide
    | split
    | with_reducible apply Frame.after (State.count_frame ..)
    | with_reducible apply Frame.after (State.event_frame ..)
    | with_reducible apply Frame.after (State.modRide_frame ..)
    | with_reducible apply Frame.after (State.put_frame ..)
    | with_reducible apply Frame.after (State.putB_frame ..)

theorem State.rideModeEval_frame (s : State) (word : Int) (t0 : ST64) :
    Frame [.regs, .rings, .eventSeq, .sent, .ride, .runner] s (State.rideModeEval s word t0) := by
  unfold State.rideModeEval
  try dsimp only
  repeat' first
    | with_reducible exact .refl _ _
    | decide
    | split
    | with_reducible apply Frame.after (State.leaveEnvelope_frame ..)
    | with_reducible apply Frame.after (State.modRide_frame ..)

theorem State.episodeEval_frame (s : State) (word : Int) (t0 : ST64) :
    Frame [.regs] s (State.episodeEval s word t0) := by
  unfold State.episodeEval
  try dsimp only
  repeat' first
    | with_reducible exact .refl _ _
    | decide
    | split
    | with_reducible apply Frame.after (State.put_frame ..)

theorem State.rideEval_frame (s : State) (e : Nat) (ok : Bool) :
    Frame [.regs, .rings, .eventSeq, .sent, .ride, .runner] s (State.rideEval s e ok) := by
  unfold State.rideEval
  try dsimp only
  repeat' first
    | with_reducible exact .refl _ _
    | decide
    | split
    | with_reducible apply Frame.after (State.episodeEval_frame ..)
    | with_reducible apply Frame.after (State.modRide_frame ..)
    | with_reducible apply Frame.after (State.rideModeEval_frame ..)
    | with_reducible apply Frame.after (State.voltageEval_frame ..)

theorem State.limitEval_frame (s : State) (e : Nat) (ok : Bool) :
    Frame [.ride] s (State.limitEval s e ok) := by
  unfold State.limitEval
  try dsimp only
  repeat' first
    | with_reducible exact .refl _ _
    | decide
    | split
    | with_reducible apply Frame.after (State.modRide_frame ..)
    | with_reducible apply Frame.after (State.presentRide_frame ..)

theorem State.dropRuns_frame (s : State) :
    Frame [.ride] s (State.dropRuns s) := by
  unfold State.dropRuns
  try dsimp only
  repeat' first
    | with_reducible exact .refl _ _
    | decide
    | split
    | with_reducible apply Frame.after (State.modRide_frame ..)

theorem State.rideEntered_frame (s : State) (cause : Nat) (word : Int) (te : ST64) :
    Frame [.regs, .rings, .eventSeq, .sent, .ride, .runner] s (State.rideEntered s cause word te) := by
  unfold State.rideEntered
  try dsimp only
  repeat' first
    | with_reducible exact .refl _ _
    | decide
    | split
    | with_reducible apply Frame.after (State.count_frame ..)
    | with_reducible apply Frame.after (State.event_frame ..)
    | with_reducible apply Frame.after (State.flag_frame ..)
    | with_reducible apply Frame.after (State.modRide_frame ..)
    | with_reducible apply Frame.after (State.put_frame ..)
    | with_reducible apply Frame.after (State.putT_frame ..)

theorem State.rideRecovered_frame (s : State) :
    Frame [.regs, .rings, .eventSeq, .sent, .ride, .runner] s (State.rideRecovered s) := by
  unfold State.rideRecovered
  try dsimp only
  repeat' first
    | with_reducible exact .refl _ _
    | decide
    | split
    | with_reducible apply Frame.after (State.count_frame ..)
    | with_reducible apply Frame.after (State.event_frame ..)
    | with_reducible apply Frame.after (State.modRide_frame ..)

theorem State.episodeEnd_frame (s : State) (complete : Bool) :
    Frame [.regs, .rings, .eventSeq, .sent, .ride, .runner] s (State.episodeEnd s complete) := by
  unfold State.episodeEnd
  try dsimp only
  repeat' first
    | with_reducible exact .refl _ _
    | decide
    | split
    | with_reducible apply Frame.after (State.event_frame ..)
    | with_reducible apply Frame.after (State.modRide_frame ..)

theorem State.putFraction_frame (s : State) (e : Nat) :
    Frame [.regs] s (State.putFraction s e) := by
  unfold State.putFraction
  try dsimp only
  repeat' first
    | with_reducible exact .refl _ _
    | decide
    | split
    | with_reducible apply Frame.after (State.put_frame ..)

/-! ## Sounder -/

theorem State.abandonEstimate_frame (s : State) (reason : Nat) :
    Frame [.regs, .rings, .eventSeq, .sent, .sounder, .runner] s (State.abandonEstimate s reason) := by
  unfold State.abandonEstimate
  try dsimp only
  repeat' first
    | with_reducible exact .refl _ _
    | decide
    | split
    | with_reducible apply Frame.after (State.count_frame ..)
    | with_reducible apply Frame.after (State.event_frame ..)
    | with_reducible apply Frame.after (State.flag_frame ..)
    | with_reducible apply Frame.after (State.modSounder_frame ..)

theorem State.notePause_frame (s : State) :
    Frame [.sounder] s (State.notePause s) := by
  unfold State.notePause
  try dsimp only
  repeat' first
    | with_reducible exact .refl _ _
    | decide
    | split
    | with_reducible apply Frame.after (State.modSounder_frame ..)

theorem State.soundSample_frame (s : State) (e : Nat) :
    Frame [.sounder] s (State.soundSample s e) := by
  unfold State.soundSample
  try dsimp only
  repeat' first
    | with_reducible exact .refl _ _
    | decide
    | split
    | with_reducible apply Frame.after (State.modSounder_frame ..)

theorem State.sounderPeriod_frame (s : State) (e : Nat) :
    Frame [.regs, .rings, .eventSeq, .sent, .sounder, .runner] s (State.sounderPeriod s e) := by
  unfold State.sounderPeriod
  try dsimp only
  repeat' first
    | with_reducible exact .refl _ _
    | decide
    | split
    | with_reducible apply Frame.after (State.abandonEstimate_frame ..)
    | with_reducible apply Frame.after (State.modSounder_frame ..)
    | with_reducible apply Frame.after (State.put_frame ..)

theorem State.sounderPeriodEnd_frame (s : State) (e : Nat) :
    Frame [.regs, .rings, .eventSeq, .sent, .sounder, .runner] s (State.sounderPeriodEnd s e) := by
  unfold State.sounderPeriodEnd
  try dsimp only
  repeat' first
    | with_reducible exact .refl _ _
    | decide
    | split
    | with_reducible apply Frame.after (State.abandonEstimate_frame ..)

theorem State.clampTarget_frame (s : State) (k : Nat) (v : Int) :
    Frame [.regs, .rings, .eventSeq, .sent, .runner] s (State.clampTarget s k v).1 := by
  unfold State.clampTarget
  try dsimp only
  repeat' first
    | with_reducible exact .refl _ _
    | decide
    | split
    | with_reducible apply Frame.after (State.count_frame ..)
    | with_reducible apply Frame.after (State.event_frame ..)
    | with_reducible apply Frame.after (State.flag_frame ..)

theorem State.putApplied_frame (s : State) :
    Frame [.regs] s (State.putApplied s) := by
  unfold State.putApplied
  try dsimp only
  repeat' first
    | with_reducible exact .refl _ _
    | decide
    | split
    | with_reducible apply Frame.after (State.putB_frame ..)

theorem State.applyTarget_frame (s : State) (k : Nat) (v : Int) :
    Frame [.regs, .active, .rings, .eventSeq, .sent, .sounder, .runner] s (State.applyTarget s k v).1 := by
  unfold State.applyTarget
  try dsimp only
  repeat' first
    | with_reducible exact .refl _ _
    | decide
    | split
    | with_reducible apply Frame.after (State.clampTarget_frame ..)
    | with_reducible apply Frame.after (State.modSounder_frame ..)
    | with_reducible apply Frame.after (State.putApplied_frame ..)
    | with_reducible apply Frame.after (State.putCfg_frame ..)

theorem State.soundDecide_frame (s : State) (S : Int) :
    Frame [.regs, .active, .rings, .eventSeq, .sent, .sounder, .runner] s (State.soundDecide s S) := by
  unfold State.soundDecide
  try dsimp only
  repeat' first
    | with_reducible exact .refl _ _
    | decide
    | split
    | with_reducible apply Frame.after (State.applyTarget_frame ..)
    | with_reducible apply Frame.after (State.event_frame ..)
    | with_reducible apply Frame.after (State.modSounder_frame ..)
    | with_reducible apply Frame.after (State.put_frame ..)
    | with_reducible apply Frame.after (State.putT_frame ..)
    | with_reducible refine Frame.foldl_after _ _ (fun s x => ?_) ?_
    | with_reducible refine Frame.foldl_fst _ _ (fun a x => ?_) ?_

theorem State.soundResult_frame (s : State) (bins : List BinResult) :
    Frame [.regs, .draws] s (State.soundResult s bins).1 := by
  unfold State.soundResult
  try dsimp only
  repeat' first
    | with_reducible exact .refl _ _
    | decide
    | split
    | with_reducible apply Frame.after (State.advance_frame ..)
    | with_reducible apply Frame.after (State.draw_frame ..)
    | with_reducible apply Frame.after (State.flag_frame ..)
    | with_reducible apply Frame.after (State.put_frame ..)
    | with_reducible apply Frame.after (State.putB_frame ..)
    | with_reducible apply Frame.after (State.putT_frame ..)

theorem State.completeEstimate_frame (s : State) :
    Frame [.regs, .active, .rings, .eventSeq, .sent, .draws, .gf, .sounder, .runner] s
        (State.completeEstimate s) := by
  unfold State.completeEstimate
  try dsimp only
  repeat' first
    | with_reducible exact .refl _ _
    | decide
    | split
    | with_reducible apply Frame.after (State.count_frame ..)
    | with_reducible apply Frame.after (State.impedanceEval_frame ..)
    | with_reducible apply Frame.after (State.modSounder_frame ..)
    | with_reducible apply Frame.after (State.ringPost_frame ..)
    | with_reducible apply Frame.after (State.soundDecide_frame ..)
    | with_reducible apply Frame.after (State.soundResult_frame ..)

theorem State.soundMode_frame (s : State) (m : Nat) :
    Frame [.regs, .rings, .eventSeq, .sent, .sounder, .runner] s (State.soundMode s m) := by
  unfold State.soundMode
  try dsimp only
  repeat' first
    | with_reducible exact .refl _ _
    | decide
    | split
    | with_reducible apply Frame.after (State.event_frame ..)
    | with_reducible apply Frame.after (State.modSounder_frame ..)
    | with_reducible apply Frame.after (State.notePause_frame ..)
    | with_reducible apply Frame.after (State.put_frame ..)

/-! ## Engines -/

theorem State.supervise_frame (s : State) (e : Nat) (published ok ride : Bool) :
    Frame [.regs, .rings, .eventSeq, .sent, .gf, .ride, .sounder, .runner] s
        (State.supervise s e published ok ride) := by
  unfold State.supervise
  try dsimp only
  repeat' first
    | with_reducible exact .refl _ _
    | decide
    | split
    | with_reducible apply Frame.after (State.deadbusEval_frame ..)
    | with_reducible apply Frame.after (State.driftEval_frame ..)
    | with_reducible apply Frame.after (State.limitEval_frame ..)
    | with_reducible apply Frame.after (State.notePause_frame ..)
    | with_reducible apply Frame.after (State.rampEval_frame ..)
    | with_reducible apply Frame.after (State.rideEval_frame ..)
    | with_reducible apply Frame.after (State.soundSample_frame ..)
    | with_reducible apply Frame.after (State.syncEval_frame ..)

theorem State.outputPhase_frame (s : State) (e : Nat) :
    Frame [.regs, .rings, .eventSeq, .sent, .engines, .gf, .ride, .sounder, .furrows, .lanes, .remotes, .arms,
        .shared, .prior, .runner] s (State.outputPhase s e) := by
  unfold State.outputPhase
  try dsimp only
  repeat' first
    | with_reducible exact .refl _ _
    | decide
    | split
    | with_reducible apply Frame.after (State.modEngine_frame ..)
    | with_reducible apply Frame.after (State.publish_frame ..)
    | with_reducible apply Frame.after (State.supervise_frame ..)
    | with_reducible refine State.withBed_frame (fun s => ?_) ?_

theorem State.setBeatOrigin_frame (s : State) (t : ST64) :
    Frame [.regs, .rings, .eventSeq, .sent, .time, .harvest, .runner] s (State.setBeatOrigin s t) := by
  unfold State.setBeatOrigin
  try dsimp only
  repeat' first
    | with_reducible exact .refl _ _
    | decide
    | split
    | with_reducible apply Frame.after (State.harvestOriginMoved_frame ..)
    | with_reducible apply Frame.after (State.modTime_frame ..)
    | with_reducible apply Frame.after (State.putT_frame ..)

end Sys2Proof.Machine
end

