-- ==== Sys2Proof/Laws/FrameArray.lean ====
section
/-! SUPPORT. What the lanes, the array, the mode controller, the cores and power may change: one lemma per operation. -/

namespace Sys2Proof.Machine
open State

/-! ## Lanes -/

theorem State.modSlane_frame (s : State) (l : Nat) (g : SerialLane → SerialLane) :
    Frame [.slanes] s (State.modSlane s l g) := by
  unfold State.modSlane
  try dsimp only
  repeat' first
    | with_reducible exact .refl _ _
    | decide
    | split
    | with_reducible apply Frame.set_slanes

theorem State.ethDown_frame (s : State) (l : Nat) :
    Frame [.regs, .rings, .eventSeq, .sent, .slanes, .runner] s (State.ethDown s l) := by
  unfold State.ethDown
  try dsimp only
  repeat' first
    | with_reducible exact .refl _ _
    | decide
    | split
    | with_reducible apply Frame.after (State.event_frame ..)
    | with_reducible apply Frame.after (State.modSlane_frame ..)
    | with_reducible apply Frame.after (State.put_frame ..)

theorem State.ethUp_frame (s : State) (l : Nat) :
    Frame [.regs, .rings, .eventSeq, .sent, .slanes, .runner] s (State.ethUp s l) := by
  unfold State.ethUp
  try dsimp only
  repeat' first
    | with_reducible exact .refl _ _
    | decide
    | split
    | with_reducible apply Frame.after (State.event_frame ..)
    | with_reducible apply Frame.after (State.modSlane_frame ..)
    | with_reducible apply Frame.after (State.put_frame ..)

theorem State.domainDone_frame (s : State) (kind target : Nat) :
    Frame [.regs, .rings, .eventSeq, .sent, .rst, .runner] s (State.domainDone s kind target) := by
  unfold State.domainDone
  try dsimp only
  repeat' first
    | with_reducible exact .refl _ _
    | decide
    | split
    | with_reducible apply Frame.after (State.count_frame ..)
    | with_reducible apply Frame.after (State.event_frame ..)
    | with_reducible apply Frame.after (State.modRst_frame ..)

theorem State.domainLane_frame (s : State) (l : Nat) :
    Frame [.regs, .rings, .eventSeq, .sent, .rst, .runner] s (State.domainLane s l) := by
  unfold State.domainLane
  try dsimp only
  repeat' first
    | with_reducible exact .refl _ _
    | decide
    | split
    | with_reducible apply Frame.after (State.domainDone_frame ..)

theorem State.fullRetrain_frame (s : State) (l : Nat) :
    Frame [.regs, .rings, .eventSeq, .sent, .lanes, .nodes, .remotes, .slanes, .runner] s
        (State.fullRetrain s l) := by
  unfold State.fullRetrain
  try dsimp only
  repeat' first
    | with_reducible exact .refl _ _
    | decide
    | split
    | with_reducible apply Frame.after (State.chainResync_frame ..)
    | with_reducible apply Frame.after (State.ethDown_frame ..)
    | with_reducible apply Frame.after (State.inhibitLane_frame ..)
    | with_reducible apply Frame.after (State.modLane_frame ..)
    | with_reducible apply Frame.after (State.modSlane_frame ..)
    | with_reducible apply Frame.after (State.put_frame ..)

theorem State.relock_frame (s : State) (l : Nat) :
    Frame [.regs, .slanes] s (State.relock s l) := by
  unfold State.relock
  try dsimp only
  repeat' first
    | with_reducible exact .refl _ _
    | decide
    | split
    | with_reducible apply Frame.after (State.modSlane_frame ..)
    | with_reducible apply Frame.after (State.put_frame ..)

theorem State.rateBurst_frame (s : State) (l : Nat) :
    Frame [.regs, .rings, .eventSeq, .sent, .lanes, .rst, .slanes, .runner] s (State.rateBurst s l) := by
  unfold State.rateBurst
  try dsimp only
  repeat' first
    | with_reducible exact .refl _ _
    | decide
    | split
    | with_reducible apply Frame.after (State.domainLane_frame ..)
    | with_reducible apply Frame.after (State.event_frame ..)
    | with_reducible apply Frame.after (State.modLane_frame ..)
    | with_reducible apply Frame.after (State.modSlane_frame ..)
    | with_reducible apply Frame.after (State.put_frame ..)

theorem State.gateRates_frame (s : State) (full : Bool) :
    Frame [.regs, .rings, .eventSeq, .sent, .lanes, .rst, .slanes, .runner] s (State.gateRates s full) := by
  unfold State.gateRates
  try dsimp only
  repeat' first
    | with_reducible exact .refl _ _
    | decide
    | split
    | with_reducible apply Frame.after (State.laneRates_frame ..)
    | with_reducible apply Frame.after (State.rateBurst_frame ..)
    | with_reducible refine Frame.foldl_after _ _ (fun s x => ?_) ?_
    | with_reducible refine Frame.foldl_fst _ _ (fun a x => ?_) ?_

theorem State.runnerRates_frame (s : State) (was : Nat → Bool) :
    Frame [.regs, .rings, .eventSeq, .sent, .lanes, .rst, .slanes, .runner] s (State.runnerRates s was) := by
  unfold State.runnerRates
  try dsimp only
  repeat' first
    | with_reducible exact .refl _ _
    | decide
    | split
    | with_reducible apply Frame.after (State.rateBurst_frame ..)
    | with_reducible refine Frame.foldl_after _ _ (fun s x => ?_) ?_
    | with_reducible refine Frame.foldl_fst _ _ (fun a x => ?_) ?_

theorem State.endLoopback_frame (s : State) (l reason : Nat) :
    Frame [.regs, .rings, .eventSeq, .sent, .lanes, .nodes, .remotes, .slanes, .runner] s
        (State.endLoopback s l reason) := by
  unfold State.endLoopback
  try dsimp only
  repeat' first
    | with_reducible exact .refl _ _
    | decide
    | split
    | with_reducible apply Frame.after (State.event_frame ..)
    | with_reducible apply Frame.after (State.fullRetrain_frame ..)
    | with_reducible apply Frame.after (State.modSlane_frame ..)
    | with_reducible apply Frame.after (State.put_frame ..)

theorem State.endLoopbacks_frame (s : State) (reason : Nat) :
    Frame [.regs, .rings, .eventSeq, .sent, .lanes, .nodes, .remotes, .slanes, .runner] s
        (State.endLoopbacks s reason) := by
  unfold State.endLoopbacks
  try dsimp only
  repeat' first
    | with_reducible exact .refl _ _
    | decide
    | split
    | with_reducible apply Frame.after (State.endLoopback_frame ..)
    | with_reducible refine Frame.foldl_after _ _ (fun s x => ?_) ?_
    | with_reducible refine Frame.foldl_fst _ _ (fun a x => ?_) ?_

theorem State.countChecked_frame (s : State) (l bits errs : Nat) :
    Frame [.regs, .slanes] s (State.countChecked s l bits errs) := by
  unfold State.countChecked
  try dsimp only
  repeat' first
    | with_reducible exact .refl _ _
    | decide
    | split
    | with_reducible apply Frame.after (State.countBy_frame ..)
    | with_reducible apply Frame.after (State.modSlane_frame ..)

theorem State.injectBits_frame (s : State) (l n : Nat) :
    Frame [.regs, .slanes] s (State.injectBits s l n) := by
  unfold State.injectBits
  try dsimp only
  repeat' first
    | with_reducible exact .refl _ _
    | decide
    | split
    | with_reducible apply Frame.after (State.countBy_frame ..)
    | with_reducible apply Frame.after (State.modSlane_frame ..)

theorem State.codeError_frame (s : State) (l : Nat) :
    Frame [.regs] s (State.codeError s l) := by
  unfold State.codeError
  try dsimp only
  repeat' first
    | with_reducible exact .refl _ _
    | decide
    | split
    | with_reducible apply Frame.after (State.count_frame ..)
    | with_reducible apply Frame.after (State.flag_frame ..)

theorem State.retrainEnd_frame (s : State) (l : Nat) (ok : Bool) :
    Frame [.regs, .rings, .eventSeq, .sent, .lanes, .rst, .slanes, .runner] s (State.retrainEnd s l ok) := by
  unfold State.retrainEnd
  try dsimp only
  repeat' first
    | with_reducible exact .refl _ _
    | decide
    | split
    | with_reducible apply Frame.after (State.count_frame ..)
    | with_reducible apply Frame.after (State.domainLane_frame ..)
    | with_reducible apply Frame.after (State.ethUp_frame ..)
    | with_reducible apply Frame.after (State.event_frame ..)
    | with_reducible apply Frame.after (State.flag_frame ..)
    | with_reducible apply Frame.after (State.modLane_frame ..)
    | with_reducible apply Frame.after (State.modSlane_frame ..)
    | with_reducible apply Frame.after (State.put_frame ..)

/-! ## Array -/

theorem State.refreshHops_frame (s : State) :
    Frame [.regs] s (State.refreshHops s) := by
  unfold State.refreshHops
  try dsimp only
  repeat' first
    | with_reducible exact .refl _ _
    | decide
    | split
    | with_reducible apply Frame.after (State.put_frame ..)
    | with_reducible refine Frame.foldl_after _ _ (fun s x => ?_) ?_
    | with_reducible refine Frame.foldl_fst _ _ (fun a x => ?_) ?_

theorem State.arrayTo_frame (s : State) (n : Nat) :
    Frame [.regs, .rings, .eventSeq, .sent, .lanes, .rst, .slanes, .runner] s (State.arrayTo s n) := by
  unfold State.arrayTo
  try dsimp only
  repeat' first
    | with_reducible exact .refl _ _
    | decide
    | split
    | with_reducible apply Frame.after (State.event_frame ..)
    | with_reducible apply Frame.after (State.put_frame ..)
    | with_reducible apply Frame.after (State.runnerRates_frame ..)

theorem State.sendTopology_frame (s : State) (dest : Nat) :
    Frame [.sent, .runner] s (State.sendTopology s dest) := by
  unfold State.sendTopology
  try dsimp only
  repeat' first
    | with_reducible exact .refl _ _
    | decide
    | split
    | with_reducible apply Frame.after (State.send_frame ..)

theorem State.refreshArrayCause_frame (s : State) :
    Frame [.ctl] s (State.refreshArrayCause s) := by
  unfold State.refreshArrayCause
  try dsimp only
  repeat' first
    | with_reducible exact .refl _ _
    | decide
    | split
    | with_reducible apply Frame.after (State.dropCause_frame ..)

theorem State.toAlone_frame (s : State) :
    Frame [.ctl, .regs, .rings, .eventSeq, .sent, .draws, .lanes, .time, .rst, .slanes, .runner] s
        (State.toAlone s) := by
  unfold State.toAlone
  try dsimp only
  repeat' first
    | with_reducible exact .refl _ _
    | decide
    | split
    | with_reducible apply Frame.after (State.arrayTo_frame ..)
    | with_reducible apply Frame.after (State.modRunner_frame ..)
    | with_reducible apply Frame.after (State.put_frame ..)
    | with_reducible apply Frame.after (State.refreshArrayCause_frame ..)
    | with_reducible apply Frame.after (State.toHoldover_frame ..)
    | with_reducible refine Frame.foldl_after _ _ (fun s x => ?_) ?_
    | with_reducible refine Frame.foldl_fst _ _ (fun a x => ?_) ?_

theorem State.sendJoin_frame (s : State) :
    Frame [.sent, .runner] s (State.sendJoin s) := by
  unfold State.sendJoin
  try dsimp only
  repeat' first
    | with_reducible exact .refl _ _
    | decide
    | split
    | with_reducible apply Frame.after (State.modRunner_frame ..)
    | with_reducible apply Frame.after (State.send_frame ..)

theorem State.joinFormed_frame (s : State) :
    Frame [.sent, .runner] s (State.joinFormed s) := by
  unfold State.joinFormed
  try dsimp only
  repeat' first
    | with_reducible exact .refl _ _
    | decide
    | split
    | with_reducible apply Frame.after (State.sendJoin_frame ..)

theorem State.arrayNormal_frame (s : State) :
    Frame [.regs, .rings, .eventSeq, .sent, .lanes, .rst, .slanes, .runner] s (State.arrayNormal s) := by
  unfold State.arrayNormal
  try dsimp only
  repeat' first
    | with_reducible exact .refl _ _
    | decide
    | split
    | with_reducible apply Frame.after (State.arrayTo_frame ..)
    | with_reducible apply Frame.after (State.modRunner_frame ..)
    | with_reducible apply Frame.after (State.put_frame ..)
    | with_reducible apply Frame.after (State.refreshHops_frame ..)
    | with_reducible apply Frame.after (State.sendTopology_frame ..)

theorem State.formArray_frame (s : State) :
    Frame [.regs, .rings, .eventSeq, .sent, .lanes, .rst, .slanes, .runner] s (State.formArray s) := by
  unfold State.formArray
  try dsimp only
  repeat' first
    | with_reducible exact .refl _ _
    | decide
    | split
    | with_reducible apply Frame.after (State.arrayNormal_frame ..)
    | with_reducible apply Frame.after (State.arrayTo_frame ..)
    | with_reducible apply Frame.after (State.modRunner_frame ..)
    | with_reducible apply Frame.after (State.put_frame ..)
    | with_reducible refine Frame.foldl_after _ _ (fun s x => ?_) ?_
    | with_reducible refine Frame.foldl_fst _ _ (fun a x => ?_) ?_

theorem State.reform_frame (s : State) :
    Frame [.regs, .rings, .eventSeq, .sent, .lanes, .rst, .slanes, .runner] s (State.reform s) := by
  unfold State.reform
  try dsimp only
  repeat' first
    | with_reducible exact .refl _ _
    | decide
    | split
    | with_reducible apply Frame.after (State.formArray_frame ..)
    | with_reducible apply Frame.after (State.joinFormed_frame ..)
    | with_reducible apply Frame.after (State.modRunner_frame ..)

theorem State.memberLost_frame (s : State) (p cause : Nat) :
    Frame [.ctl, .regs, .rings, .eventSeq, .sent, .runner] s (State.memberLost s p cause) := by
  unfold State.memberLost
  try dsimp only
  repeat' first
    | with_reducible exact .refl _ _
    | decide
    | split
    | with_reducible apply Frame.after (State.event_frame ..)
    | with_reducible apply Frame.after (State.flag_frame ..)
    | with_reducible apply Frame.after (State.modRunner_frame ..)
    | with_reducible apply Frame.after (State.put_frame ..)
    | with_reducible apply Frame.after (State.refreshArrayCause_frame ..)

theorem State.healed_frame (s : State) :
    Frame [.regs, .rings, .eventSeq, .sent, .draws, .runner] s (State.healed s) := by
  unfold State.healed
  try dsimp only
  repeat' first
    | with_reducible exact .refl _ _
    | decide
    | split
    | with_reducible apply Frame.after (State.count_frame ..)
    | with_reducible apply Frame.after (State.draw_frame ..)
    | with_reducible apply Frame.after (State.event_frame ..)
    | with_reducible apply Frame.after (State.flag_frame ..)

theorem State.heal_frame (s : State) (left : Option Nat) :
    Frame [.ctl, .regs, .rings, .eventSeq, .sent, .draws, .lanes, .rst, .slanes, .runner] s (State.heal s left) := by
  unfold State.heal
  try dsimp only
  repeat' first
    | with_reducible exact .refl _ _
    | decide
    | split
    | with_reducible apply Frame.after (State.arrayTo_frame ..)
    | with_reducible apply Frame.after (State.healed_frame ..)
    | with_reducible apply Frame.after (State.memberLost_frame ..)
    | with_reducible apply Frame.after (State.put_frame ..)
    | with_reducible apply Frame.after (State.refreshHops_frame ..)
    | with_reducible apply Frame.after (State.sendTopology_frame ..)
    | with_reducible refine Frame.foldl_after _ _ (fun s x => ?_) ?_
    | with_reducible refine Frame.foldl_fst _ _ (fun a x => ?_) ?_

/-! ## Modes -/

theorem State.startFast_frame (s : State) :
    Frame [.ctl, .regs, .rings, .eventSeq, .sent, .sieve, .furrows, .pairs, .pwm, .lanes, .nodes, .remotes, .harvest,
        .prior, .rst, .slanes, .runner] s (State.startFast s) := by
  unfold State.startFast
  try dsimp only
  repeat' first
    | with_reducible exact .refl _ _
    | decide
    | split
    | with_reducible apply Frame.after (State.endLoopbacks_frame ..)
    | with_reducible apply Frame.after (State.gateRates_frame ..)
    | with_reducible apply Frame.after (State.modCtl_kept ..)
    | with_reducible exact fun _ => ⟨rfl, rfl⟩
    | with_reducible apply Frame.after (State.refreshSieve_frame ..)
    | with_reducible apply Frame.after (State.startFurrows_frame ..)
    | with_reducible apply Frame.after (State.startRemotes_frame ..)

theorem State.stopFast_frame (s : State) :
    Frame [.ctl, .regs, .rings, .eventSeq, .sent, .sieve, .engines, .furrows, .pairs, .remotes, .cloche, .harvest,
        .prior, .runner] s (State.stopFast s) := by
  unfold State.stopFast
  try dsimp only
  repeat' first
    | with_reducible exact .refl _ _
    | decide
    | split
    | with_reducible apply Frame.after (State.clearRemotes_frame ..)
    | with_reducible apply Frame.after (State.modCtl_kept ..)
    | with_reducible exact fun _ => ⟨rfl, rfl⟩
    | with_reducible apply Frame.after (State.refreshSieve_frame ..)
    | with_reducible apply Frame.after (State.settleSlots_frame ..)
    | with_reducible apply Frame.after (State.sleepEngines_frame ..)
    | with_reducible apply Frame.after (State.stopFurrows_frame ..)
    | with_reducible refine Frame.foldl_after _ _ (fun s x => ?_) ?_
    | with_reducible refine Frame.foldl_fst _ _ (fun a x => ?_) ?_

theorem State.setMode_frame (s : State) (m : Mode) (sub : SubState) (causes : Nat) :
    Frame [.ctl, .mode, .regs, .rings, .eventSeq, .sent, .runner] s (State.setMode s m sub causes) := by
  unfold State.setMode
  try dsimp only
  repeat' first
    | with_reducible exact .refl _ _
    | decide
    | split
    | with_reducible apply Frame.after (State.event_frame ..)
    | with_reducible apply Frame.after (State.modCtl_frame ..)

theorem State.settleMode_frame (s : State) (was : Nat → Bool) :
    Frame [.ctl, .regs, .rings, .eventSeq, .sent, .sieve, .gf, .ride, .sounder, .pairs, .lanes, .nodes, .remotes,
        .shears, .cloche, .harvest, .prior, .rst, .slanes, .runner] s (State.settleMode s was) := by
  unfold State.settleMode
  try dsimp only
  repeat' first
    | with_reducible exact .refl _ _
    | decide
    | split
    | with_reducible apply Frame.after (State.abandonTest_frame ..)
    | with_reducible apply Frame.after (State.dropDrift_frame ..)
    | with_reducible apply Frame.after (State.dropRuns_frame ..)
    | with_reducible apply Frame.after (State.endLoopbacks_frame ..)
    | with_reducible apply Frame.after (State.notePause_frame ..)
    | with_reducible apply Frame.after (State.refreshDeadbus_frame ..)
    | with_reducible apply Frame.after (State.refreshInputs_frame ..)
    | with_reducible apply Frame.after (State.refreshSieve_frame ..)
    | with_reducible apply Frame.after (State.runnerRates_frame ..)

theorem State.goMode_frame (s : State) (m : Mode) (sub : SubState) :
    Frame [.ctl, .mode, .regs, .rings, .eventSeq, .sent, .sieve, .gf, .ride, .sounder, .pairs, .lanes, .nodes,
        .remotes, .shears, .cloche, .harvest, .prior, .rst, .slanes, .runner] s (State.goMode s m sub) := by
  unfold State.goMode
  try dsimp only
  repeat' first
    | with_reducible exact .refl _ _
    | decide
    | split
    | with_reducible apply Frame.after (State.setMode_frame ..)
    | with_reducible apply Frame.after (State.settleMode_frame ..)

theorem State.connectEnd_frame (s : State) :
    Frame [.ctl, .gf] s (State.connectEnd s) := by
  unfold State.connectEnd
  try dsimp only
  repeat' first
    | with_reducible exact .refl _ _
    | decide
    | split
    | with_reducible apply Frame.after (State.modCtl_kept ..)
    | with_reducible exact fun _ => ⟨rfl, rfl⟩
    | with_reducible apply Frame.after (State.syncStop_frame ..)

theorem State.enterWatch_frame (s : State) :
    Frame [.ctl, .mode, .regs, .rings, .eventSeq, .sent, .sieve, .engines, .gf, .ride, .sounder, .furrows, .pairs,
        .lanes, .nodes, .remotes, .shears, .cloche, .harvest, .prior, .rst, .slanes, .runner] s
        (State.enterWatch s) := by
  unfold State.enterWatch
  try dsimp only
  repeat' first
    | with_reducible exact .refl _ _
    | decide
    | split
    | with_reducible apply Frame.after (State.breakerWatch_frame ..)
    | with_reducible apply Frame.after (State.gateRates_frame ..)
    | with_reducible apply Frame.after (State.goMode_frame ..)
    | with_reducible apply Frame.after (State.joinFormed_frame ..)
    | with_reducible apply Frame.after (State.modCtl_kept ..)
    | with_reducible exact fun _ => ⟨rfl, rfl⟩
    | with_reducible apply Frame.after (State.stopFast_frame ..)
    | with_reducible apply Frame.after (State.withdraw_frame ..)

theorem State.enterHalt_frame (s : State) (first : HaltCause) :
    Frame [.ctl, .mode, .regs, .rings, .eventSeq, .sent, .sieve, .engines, .gf, .ride, .sounder, .furrows, .pairs,
        .lanes, .nodes, .remotes, .shears, .cloche, .harvest, .prior, .net, .rst, .slanes, .runner] s
        (State.enterHalt s first) := by
  unfold State.enterHalt
  try dsimp only
  repeat' first
    | with_reducible exact .refl _ _
    | decide
    | split
    | with_reducible apply Frame.after (State.breakerHalt_frame ..)
    | with_reducible apply Frame.after (State.connectEnd_frame ..)
    | with_reducible apply Frame.after (State.dropCause_frame ..)
    | with_reducible apply Frame.after (State.episodeEnd_frame ..)
    | with_reducible apply Frame.after (State.modCtl_kept ..)
    | with_reducible exact fun _ => ⟨rfl, rfl⟩
    | with_reducible apply Frame.after (State.netStart_frame ..)
    | with_reducible apply Frame.after (State.send_frame ..)
    | with_reducible apply Frame.after (State.setMode_frame ..)
    | with_reducible apply Frame.after (State.settleMode_frame ..)
    | with_reducible apply Frame.after (State.stopFast_frame ..)
    | with_reducible apply Frame.after (State.withdraw_frame ..)

theorem State.takeCause_frame (s : State) (c : HaltCause) :
    Frame [.ctl, .mode, .regs, .rings, .eventSeq, .sent, .sieve, .engines, .gf, .ride, .sounder, .furrows, .pairs,
        .lanes, .nodes, .remotes, .shears, .cloche, .harvest, .prior, .net, .rst, .slanes, .runner] s
        (State.takeCause s c) := by
  unfold State.takeCause
  try dsimp only
  repeat' first
    | with_reducible exact .refl _ _
    | decide
    | split
    | with_reducible apply Frame.after (State.enterHalt_frame ..)
    | with_reducible apply Frame.after (State.guardReset_frame ..)
    | with_reducible apply Frame.after (State.modCtl_kept ..)
    | with_reducible exact fun _ => ⟨rfl, rfl⟩

theorem State.takeCauses_frame (s : State) :
    Frame [.ctl, .mode, .regs, .rings, .eventSeq, .sent, .sieve, .engines, .gf, .ride, .sounder, .furrows, .pairs,
        .lanes, .nodes, .remotes, .shears, .cloche, .harvest, .prior, .net, .rst, .slanes, .runner] s
        (State.takeCauses s) := by
  unfold State.takeCauses
  try dsimp only
  repeat' first
    | with_reducible exact .refl _ _
    | decide
    | split
    | with_reducible apply Frame.after (State.takeCause_frame ..)
    | with_reducible refine Frame.foldl_after _ _ (fun s x => ?_) ?_
    | with_reducible refine Frame.foldl_fst _ _ (fun a x => ?_) ?_

theorem State.leaveDormant_frame (s : State) :
    Frame [.ctl, .mode, .regs, .rings, .eventSeq, .sent, .sieve, .engines, .gf, .ride, .sounder, .furrows, .pairs,
        .lanes, .nodes, .remotes, .shears, .cloche, .harvest, .prior, .net, .rst, .slanes, .runner] s
        (State.leaveDormant s) := by
  unfold State.leaveDormant
  try dsimp only
  repeat' first
    | with_reducible exact .refl _ _
    | decide
    | split
    | with_reducible apply Frame.after (State.enterHalt_frame ..)
    | with_reducible apply Frame.after (State.goMode_frame ..)
    | with_reducible apply Frame.after (State.modCtl_kept ..)
    | with_reducible exact fun _ => ⟨rfl, rfl⟩
    | with_reducible apply Frame.after (State.netStart_frame ..)
    | with_reducible apply Frame.after (State.reform_frame ..)
    | with_reducible apply Frame.after (State.takeCauses_frame ..)
    | with_reducible apply Frame.after (State.toutPins_frame ..)

theorem State.takeRide_frame (s : State) :
    Frame [.ctl, .mode, .regs, .rings, .eventSeq, .sent, .sieve, .gf, .ride, .sounder, .pairs, .lanes, .nodes,
        .remotes, .shears, .cloche, .harvest, .prior, .rst, .slanes, .runner] s (State.takeRide s) := by
  unfold State.takeRide
  try dsimp only
  repeat' first
    | with_reducible exact .refl _ _
    | decide
    | split
    | with_reducible apply Frame.after (State.event_frame ..)
    | with_reducible apply Frame.after (State.goMode_frame ..)
    | with_reducible apply Frame.after (State.modCtl_kept ..)
    | with_reducible exact fun _ => ⟨rfl, rfl⟩
    | with_reducible apply Frame.after (State.modRide_frame ..)
    | with_reducible apply Frame.after (State.rideEntered_frame ..)

theorem State.takeExit_frame (s : State) :
    Frame [.ctl, .mode, .regs, .rings, .eventSeq, .sent, .sieve, .engines, .gf, .ride, .sounder, .furrows, .pairs,
        .lanes, .nodes, .remotes, .shears, .cloche, .harvest, .prior, .net, .rst, .slanes, .runner] s
        (State.takeExit s) := by
  unfold State.takeExit
  try dsimp only
  repeat' first
    | with_reducible exact .refl _ _
    | decide
    | split
    | with_reducible apply Frame.after (State.enterHalt_frame ..)
    | with_reducible apply Frame.after (State.raiseCause_frame ..)

theorem State.takeRecovery_frame (s : State) :
    Frame [.ctl, .mode, .regs, .rings, .eventSeq, .sent, .sieve, .gf, .ride, .sounder, .pairs, .lanes, .nodes,
        .remotes, .shears, .cloche, .harvest, .prior, .rst, .slanes, .runner] s (State.takeRecovery s) := by
  unfold State.takeRecovery
  try dsimp only
  repeat' first
    | with_reducible exact .refl _ _
    | decide
    | split
    | with_reducible apply Frame.after (State.goMode_frame ..)
    | with_reducible apply Frame.after (State.rideRecovered_frame ..)

theorem State.takeSync_frame (s : State) :
    Frame [.ctl, .mode, .regs, .rings, .eventSeq, .sent, .sieve, .gf, .ride, .sounder, .pairs, .lanes, .nodes,
        .remotes, .shears, .cloche, .harvest, .prior, .rst, .slanes, .runner] s (State.takeSync s) := by
  unfold State.takeSync
  try dsimp only
  repeat' first
    | with_reducible exact .refl _ _
    | decide
    | split
    | with_reducible apply Frame.after (State.breakerClose_frame ..)
    | with_reducible apply Frame.after (State.connectEnd_frame ..)
    | with_reducible apply Frame.after (State.goMode_frame ..)
    | with_reducible apply Frame.after (State.requestPermission_frame ..)

theorem State.takeRamp_frame (s : State) :
    Frame [.ctl, .mode, .regs, .rings, .eventSeq, .sent, .sieve, .gf, .ride, .sounder, .pairs, .lanes, .nodes,
        .remotes, .shears, .cloche, .harvest, .prior, .rst, .slanes, .runner] s (State.takeRamp s) := by
  unfold State.takeRamp
  try dsimp only
  repeat' first
    | with_reducible exact .refl _ _
    | decide
    | split
    | with_reducible apply Frame.after (State.event_frame ..)
    | with_reducible apply Frame.after (State.goMode_frame ..)
    | with_reducible apply Frame.after (State.modGf_frame ..)

theorem State.takeAutomatic_frame (s : State) :
    Frame [.ctl, .mode, .regs, .rings, .eventSeq, .sent, .sieve, .engines, .gf, .ride, .sounder, .furrows, .pairs,
        .lanes, .nodes, .remotes, .shears, .cloche, .harvest, .prior, .net, .rst, .slanes, .runner] s
        (State.takeAutomatic s) := by
  unfold State.takeAutomatic
  try dsimp only
  repeat' first
    | with_reducible exact .refl _ _
    | decide
    | split
    | with_reducible apply Frame.after (State.takeExit_frame ..)
    | with_reducible apply Frame.after (State.takeRamp_frame ..)
    | with_reducible apply Frame.after (State.takeRecovery_frame ..)
    | with_reducible apply Frame.after (State.takeRide_frame ..)
    | with_reducible apply Frame.after (State.takeSync_frame ..)

theorem State.lastCommand_frame (s : State) (code result : Nat) :
    Frame [.regs] s (State.lastCommand s code result) := by
  unfold State.lastCommand
  try dsimp only
  repeat' first
    | with_reducible exact .refl _ _
    | decide
    | split
    | with_reducible apply Frame.after (State.put_frame ..)

theorem State.commandRefused_frame (s : State) (req : Requester) (code result : Nat) :
    Frame [.regs, .sent, .win, .runner] s (State.commandRefused s req code result) := by
  unfold State.commandRefused
  try dsimp only
  repeat' first
    | with_reducible exact .refl _ _
    | decide
    | split
    | with_reducible apply Frame.after (State.answer_frame ..)
    | with_reducible apply Frame.after (State.lastCommand_frame ..)

theorem modeCommandAt_frame {l : List Part} (hl : [.regs, .rings, .eventSeq, .sent, .win, .runner] ⊆ l)
    {req : Requester} {code : Nat} {legal : State → Bool} {own : State → Nat} {act : State → State} {s u : State}
    (h : ∀ s, Frame l s (act s)) (g : Frame l u s) : Frame l u (modeCommandAt req code legal own act s) := by
  have a (c r : Nat) (s : State) (hs : Frame l u s) : Frame l u (s.commandRefused req c r) :=
    .after (State.commandRefused_frame ..) (fun p hp => hl (by revert p; decide)) hs
  unfold modeCommandAt
  split
  · exact a _ _ _ g
  · split
    · exact a _ _ _ (.after (State.refuseMode_frame ..) (fun p hp => hl (by revert p; decide)) g)
    · split
      · exact a _ _ _ g
      · exact .after (State.answer_frame ..) (fun p hp => hl (by revert p; decide))
          (.after (State.lastCommand_frame ..) (fun p hp => hl (by revert p; decide)) (.trans g (h _)))

theorem modeCommand_frame {l : List Part} (hl : [.ctl, .mode, .regs, .rings, .eventSeq, .sent, .sieve, .engines, .gf,
    .ride, .sounder, .furrows, .pairs, .lanes, .nodes, .remotes, .shears, .cloche, .win, .harvest, .prior, .net, .rst,
    .slanes, .runner] ⊆ l)
    {req : Requester} {code : Nat} {legal : State → Bool} {own : State → Nat} {act : State → State} {s u : State}
    (h : ∀ s, Frame l s (act s)) (g : Frame l u s) : Frame l u (modeCommand req code legal own act s) := by
  unfold modeCommand
  split
  · exact g
  · refine modeCommandAt_frame (fun p hp => hl (by revert p; decide)) h ?_
    exact .after (State.takeAutomatic_frame _) (fun p hp => hl (by revert p; decide))
      (.after (State.takeCauses_frame _) (fun p hp => hl (by revert p; decide)) g)

/-! ## Runner -/

theorem State.joinFailed_frame (s : State) (p : Nat) :
    Frame [.regs, .rings, .eventSeq, .sent, .runner] s (State.joinFailed s p) := by
  unfold State.joinFailed
  try dsimp only
  repeat' first
    | with_reducible exact .refl _ _
    | decide
    | split
    | with_reducible apply Frame.after (State.event_frame ..)
    | with_reducible apply Frame.after (State.flag_frame ..)
    | with_reducible apply Frame.after (State.modRunner_frame ..)

theorem State.admitMember_frame (s : State) (p identity revision : Nat) :
    Frame [.regs, .sent, .runner] s (State.admitMember s p identity revision) := by
  unfold State.admitMember
  try dsimp only
  repeat' first
    | with_reducible exact .refl _ _
    | decide
    | split
    | with_reducible apply Frame.after (State.modRunner_frame ..)
    | with_reducible apply Frame.after (State.put_frame ..)
    | with_reducible apply Frame.after (State.send_frame ..)

theorem State.memberAdmitted_frame (s : State) (p : Nat) (beat : ST64) :
    Frame [.regs, .rings, .eventSeq, .sent, .lanes, .rst, .slanes, .runner] s (State.memberAdmitted s p beat) := by
  unfold State.memberAdmitted
  try dsimp only
  repeat' first
    | with_reducible exact .refl _ _
    | decide
    | split
    | with_reducible apply Frame.after (State.arrayNormal_frame ..)
    | with_reducible apply Frame.after (State.event_frame ..)
    | with_reducible apply Frame.after (State.put_frame ..)
    | with_reducible apply Frame.after (State.putT_frame ..)
    | with_reducible apply Frame.after (State.refreshHops_frame ..)

theorem State.takeJoin_frame (s : State) (p identity revision : Nat) (command : Bool) :
    Frame [.regs, .rings, .eventSeq, .sent, .runner] s (State.takeJoin s p identity revision command) := by
  unfold State.takeJoin
  try dsimp only
  repeat' first
    | with_reducible exact .refl _ _
    | decide
    | split
    | with_reducible apply Frame.after (State.admitMember_frame ..)
    | with_reducible apply Frame.after (State.joinFailed_frame ..)
    | with_reducible apply Frame.after (State.modRunner_frame ..)
    | with_reducible apply Frame.after (State.put_frame ..)

theorem State.releaseJoins_frame (s : State) :
    Frame [.regs, .rings, .eventSeq, .sent, .runner] s (State.releaseJoins s) := by
  unfold State.releaseJoins
  try dsimp only
  repeat' first
    | with_reducible exact .refl _ _
    | decide
    | split
    | with_reducible apply Frame.after (State.takeJoin_frame ..)
    | with_reducible refine Frame.foldl_after _ _ (fun s x => ?_) ?_
    | with_reducible refine Frame.foldl_fst _ _ (fun a x => ?_) ?_

theorem State.putLink_frame (s : State) (port neighbour : Nat) (up : Bool) :
    Frame [.regs] s (State.putLink s port neighbour up) := by
  unfold State.putLink
  try dsimp only
  repeat' first
    | with_reducible exact .refl _ _
    | decide
    | split
    | with_reducible apply Frame.after (State.put_frame ..)

theorem State.haltFrom_frame (s : State) (origin : Nat) :
    Frame [.ctl, .runner] s (State.haltFrom s origin) := by
  unfold State.haltFrom
  try dsimp only
  repeat' first
    | with_reducible exact .refl _ _
    | decide
    | split
    | with_reducible apply Frame.after (State.modRunner_frame ..)
    | with_reducible apply Frame.after (State.raiseCause_frame ..)

theorem State.shareWords_frame (s : State) (src first : Nat) (t : ST64) (words : List (BitVec 32)) :
    Frame [.shared, .prior] s (State.shareWords s src first t words) := by
  unfold State.shareWords
  try dsimp only
  repeat' first
    | with_reducible exact .refl _ _
    | decide
    | split
    | with_reducible apply Frame.after (State.noteShared_frame ..)
    | with_reducible apply Frame.after (State.setShared_frame ..)
    | with_reducible refine Frame.foldl_after _ _ (fun s x => ?_) ?_
    | with_reducible refine Frame.foldl_fst _ _ (fun a x => ?_) ?_

theorem State.firstSight_frame (s : State) (src seq : Nat) :
    Frame [.runner] s (State.firstSight s src seq).2 := by
  unfold State.firstSight
  try dsimp only
  repeat' first
    | with_reducible exact .refl _ _
    | decide
    | split
    | with_reducible apply Frame.after (State.modRunner_frame ..)

theorem State.forward_frame (s : State) (m : RunnerHead) :
    Frame [.sent, .runner] s (State.forward s m) := by
  unfold State.forward
  try dsimp only
  repeat' first
    | with_reducible exact .refl _ _
    | decide
    | split
    | with_reducible apply Frame.after (State.firstSight_frame ..)
    | with_reducible apply Frame.after (State.send_frame ..)

theorem arrayCommand_frame {l : List Part} (hl : [.regs, .rings, .eventSeq, .sent, .win,
    .runner] ⊆ l) {req : Requester} {ok : Bool} {act : State → State} {s u : State} (h : ∀ s, Frame l s (act s))
        (g : Frame l u s) :
    Frame l u (arrayCommand req ok act s) := guarded_frame hl h g

/-! ## Cores -/

theorem State.modCores_frame (s : State) (f : CoresUnit → CoresUnit) :
    Frame [.cores] s (State.modCores s f) := by
  unfold State.modCores
  try dsimp only
  repeat' first
    | with_reducible exact .refl _ _
    | decide
    | split
    | with_reducible apply Frame.set_cores

theorem State.setPairState_frame (s : State) (p v : Nat) :
    Frame [.regs] s (State.setPairState s p v) := by
  unfold State.setPairState
  try dsimp only
  repeat' first
    | with_reducible exact .refl _ _
    | decide
    | split
    | with_reducible apply Frame.after (State.put_frame ..)

theorem State.startFreeze_frame (s : State) (back byItself : Bool) :
    Frame [.regs, .graft] s (State.startFreeze s back byItself) := by
  unfold State.startFreeze
  try dsimp only
  repeat' first
    | with_reducible exact .refl _ _
    | decide
    | split
    | with_reducible apply Frame.after (State.modGraft_frame ..)
    | with_reducible apply Frame.after (State.put_frame ..)
    | with_reducible apply Frame.after (State.setPairState_frame ..)

theorem State.clearWindows_frame (s : State) (p : Nat) :
    Frame [.win] s (State.clearWindows s p) := by
  unfold State.clearWindows
  try dsimp only
  repeat' first
    | with_reducible exact .refl _ _
    | decide
    | split
    | with_reducible apply Frame.after (State.modWin_frame ..)

theorem State.coreReset_frame (s : State) (p cause bit : Nat) :
    Frame [.regs, .rings, .eventSeq, .sent, .win, .rst, .graft, .runner, .cores] s
        (State.coreReset s p cause bit) := by
  unfold State.coreReset
  try dsimp only
  repeat' first
    | with_reducible exact .refl _ _
    | decide
    | split
    | with_reducible apply Frame.after (State.clearWindows_frame ..)
    | with_reducible apply Frame.after (State.count_frame ..)
    | with_reducible apply Frame.after (State.modCores_frame ..)
    | with_reducible apply Frame.after (State.modRst_frame ..)
    | with_reducible apply Frame.after (State.putT_frame ..)
    | with_reducible apply Frame.after (State.setPairState_frame ..)
    | with_reducible apply Frame.after (State.stallEvent_frame ..)
    | with_reducible apply Frame.after (State.startFreeze_frame ..)

theorem State.noteAccess_frame (s : State) (req : Requester) (q : Nat) :
    Frame [.cores] s (State.noteAccess s req q) := by
  unfold State.noteAccess
  try dsimp only
  repeat' first
    | with_reducible exact .refl _ _
    | decide
    | split
    | with_reducible apply Frame.after (State.modCores_frame ..)

theorem State.postRequest_frame (s : State) (b : Bytes) :
    Frame [.regs, .rings, .coreReq, .sent, .runner] s (State.postRequest s b) := by
  unfold State.postRequest
  try dsimp only
  repeat' first
    | with_reducible exact .refl _ _
    | decide
    | split
    | with_reducible apply Frame.after (State.modCoreReq_frame ..)
    | with_reducible apply Frame.after (State.ringAppend_frame ..)

theorem State.layRings_frame (s : State) :
    Frame [.regs] s (State.layRings s) := by
  unfold State.layRings
  try dsimp only
  repeat' first
    | with_reducible exact .refl _ _
    | decide
    | split
    | with_reducible apply Frame.after (State.put_frame ..)
    | with_reducible refine Frame.foldl_after _ _ (fun s x => ?_) ?_
    | with_reducible refine Frame.foldl_fst _ _ (fun a x => ?_) ?_

/-! ## Power -/

theorem State.refreshReserved_frame (s : State) :
    Frame [.regs] s (State.refreshReserved s) := by
  unfold State.refreshReserved
  try dsimp only
  repeat' first
    | with_reducible exact .refl _ _
    | decide
    | split
    | with_reducible apply Frame.after (State.put_frame ..)

theorem State.setDuty_frame (s : State) (t duty reason : Nat) :
    Frame [.regs, .rings, .eventSeq, .sent, .sounder, .runner, .power] s (State.setDuty s t duty reason) := by
  unfold State.setDuty
  try dsimp only
  repeat' first
    | with_reducible exact .refl _ _
    | decide
    | split
    | with_reducible apply Frame.after (State.event_frame ..)
    | with_reducible apply Frame.after (State.modPower_frame ..)
    | with_reducible apply Frame.after (State.notePause_frame ..)
    | with_reducible apply Frame.after (State.put_frame ..)
    | with_reducible apply Frame.after (State.putT_frame ..)

theorem State.denyFloor_frame (s : State) (t duty : Nat) (budget : Int) :
    Frame [.regs, .rings, .eventSeq, .sent, .runner] s (State.denyFloor s t duty budget) := by
  unfold State.denyFloor
  try dsimp only
  repeat' first
    | with_reducible exact .refl _ _
    | decide
    | split
    | with_reducible apply Frame.after (State.countBy_frame ..)
    | with_reducible apply Frame.after (State.event_frame ..)
    | with_reducible apply Frame.after (State.flag_frame ..)
    | with_reducible apply Frame.after (State.put_frame ..)

theorem State.withdrawGrants_frame (s : State) (kind : Nat) :
    Frame [.regs, .rings, .eventSeq, .sent, .sounder, .runner, .power] s (State.withdrawGrants s kind) := by
  unfold State.withdrawGrants
  try dsimp only
  repeat' first
    | with_reducible exact .refl _ _
    | decide
    | split
    | with_reducible apply Frame.after (State.denyFloor_frame ..)
    | with_reducible apply Frame.after (State.event_frame ..)
    | with_reducible apply Frame.after (State.flag_frame ..)
    | with_reducible apply Frame.after (State.put_frame ..)
    | with_reducible apply Frame.after (State.setDuty_frame ..)
    | with_reducible refine Frame.foldl_after _ _ (fun s x => ?_) ?_
    | with_reducible refine Frame.foldl_fst _ _ (fun a x => ?_) ?_

theorem State.putSensor_frame (s : State) (k : Nat) (v : Int) :
    Frame [.regs] s (State.putSensor s k v) := by
  unfold State.putSensor
  try dsimp only
  repeat' first
    | with_reducible exact .refl _ _
    | decide
    | split
    | with_reducible apply Frame.after (State.putB_frame ..)

theorem State.refuseTask_frame (s : State) (t : Nat) :
    Frame [.regs, .rings, .eventSeq, .sent, .runner] s (State.refuseTask s t) := by
  unfold State.refuseTask
  try dsimp only
  repeat' first
    | with_reducible exact .refl _ _
    | decide
    | split
    | with_reducible apply Frame.after (State.event_frame ..)

end Sys2Proof.Machine
end

