-- ==== Sys2Proof/Laws/FrameLive.lean ====
section
/-! SUPPORT. What the Graft, firmware, the Rootstock,
    reset and dictionary access may change: one lemma per operation. -/

namespace Sys2Proof.Machine
open State

/-! ## Graft -/

theorem State.graftResult_frame (s : State) (code check : Nat) (beat : ST64) (kind : Nat) :
    Frame [.regs, .rings, .eventSeq, .sent, .runner] s (State.graftResult s code check beat kind) := by
  unfold State.graftResult
  try dsimp only
  repeat' first
    | with_reducible exact .refl _ _
    | decide
    | split
    | with_reducible apply Frame.after (State.event_frame ..)
    | with_reducible apply Frame.after (State.put_frame ..)

theorem State.endSwap_frame (s : State) (state code check : Nat) :
    Frame [.regs, .rings, .eventSeq, .sent, .graft, .runner] s (State.endSwap s state code check) := by
  unfold State.endSwap
  try dsimp only
  repeat' first
    | with_reducible exact .refl _ _
    | decide
    | split
    | with_reducible apply Frame.after (State.graftResult_frame ..)
    | with_reducible apply Frame.after (State.modGraft_frame ..)
    | with_reducible apply Frame.after (State.put_frame ..)
    | with_reducible apply Frame.after (State.releaseJoins_frame ..)

theorem State.refuseSwap_frame (s : State) (code check : Nat) :
    Frame [.regs, .rings, .eventSeq, .sent, .graft, .runner] s (State.refuseSwap s code check) := by
  unfold State.refuseSwap
  try dsimp only
  repeat' first
    | with_reducible exact .refl _ _
    | decide
    | split
    | with_reducible apply Frame.after (State.count_frame ..)
    | with_reducible apply Frame.after (State.endSwap_frame ..)

theorem State.pendSwap_frame (s : State) :
    Frame [.regs, .graft] s (State.pendSwap s) := by
  unfold State.pendSwap
  try dsimp only
  repeat' first
    | with_reducible exact .refl _ _
    | decide
    | split
    | with_reducible apply Frame.after (State.modGraft_frame ..)
    | with_reducible apply Frame.after (State.put_frame ..)

theorem swapRequest_frame (req : Requester) (back : Bool) (s : State) :
    Frame [.regs, .rings, .eventSeq, .sent, .win, .graft, .runner] s (swapRequest req back s) := by
  unfold swapRequest
  try dsimp only
  repeat' first
    | with_reducible exact .refl _ _
    | decide
    | split
    | with_reducible apply Frame.after (State.count_frame ..)
    | with_reducible apply Frame.after (State.modGraft_frame ..)
    | with_reducible apply Frame.after (State.put_frame ..)
    | with_reducible apply Frame.after (State.putT_frame ..)
    | with_reducible refine guarded_frame (by decide) (fun s => ?_) ?_

theorem State.freshInstance_frame (s : State) (e b : Nat) :
    Frame [.engines] s (State.freshInstance s e b) := by
  unfold State.freshInstance
  try dsimp only
  repeat' first
    | with_reducible exact .refl _ _
    | decide
    | split
    | with_reducible apply Frame.after (State.modEngine_frame ..)
    | with_reducible refine Frame.foldl_after _ _ (fun s x => ?_) ?_
    | with_reducible refine Frame.foldl_fst _ _ (fun a x => ?_) ?_

theorem State.swapEngines_frame (s : State) (old : Store) :
    Frame [.regs, .engines] s (State.swapEngines s old) := by
  unfold State.swapEngines
  try dsimp only
  repeat' first
    | with_reducible exact .refl _ _
    | decide
    | split
    | with_reducible apply Frame.after (State.freshInstance_frame ..)
    | with_reducible apply Frame.after (State.modEngine_frame ..)
    | with_reducible apply Frame.after (State.put_frame ..)
    | with_reducible refine Frame.foldl_after _ _ (fun s x => ?_) ?_
    | with_reducible refine Frame.foldl_fst _ _ (fun a x => ?_) ?_

theorem State.swapSlots_frame (s : State) (old : Store) :
    Frame [.ctl, .regs, .rings, .eventSeq, .sent, .engines, .cloche, .runner] s (State.swapSlots s old) := by
  unfold State.swapSlots
  try dsimp only
  repeat' first
    | with_reducible exact .refl _ _
    | decide
    | split
    | with_reducible apply Frame.after (State.modSlot_frame ..)
    | with_reducible apply Frame.after (State.settleSlots_frame ..)
    | with_reducible refine Frame.foldl_after _ _ (fun s x => ?_) ?_
    | with_reducible refine Frame.foldl_fst _ _ (fun a x => ?_) ?_

theorem State.swapFurrows_frame (s : State) :
    Frame [.regs, .rings, .eventSeq, .sent, .furrows, .pairs, .pwm, .runner] s (State.swapFurrows s) := by
  unfold State.swapFurrows
  try dsimp only
  repeat' first
    | with_reducible exact .refl _ _
    | decide
    | split
    | with_reducible apply Frame.after (State.modFurrow_frame ..)
    | with_reducible apply Frame.after (State.startFurrow_frame ..)
    | with_reducible apply Frame.after (State.takeFurrow_frame ..)
    | with_reducible refine Frame.foldl_after _ _ (fun s x => ?_) ?_
    | with_reducible refine Frame.foldl_fst _ _ (fun a x => ?_) ?_

theorem State.swapSounder_frame (s : State) (old : Store) :
    Frame [.regs, .rings, .eventSeq, .sent, .sounder, .runner] s (State.swapSounder s old) := by
  unfold State.swapSounder
  try dsimp only
  repeat' first
    | with_reducible exact .refl _ _
    | decide
    | split
    | with_reducible apply Frame.after (State.abandonEstimate_frame ..)
    | with_reducible apply Frame.after (State.modSounder_frame ..)
    | with_reducible apply Frame.after (State.putApplied_frame ..)

theorem State.swapRide_frame (s : State) (old : Store) :
    Frame [.ride] s (State.swapRide s old) := by
  unfold State.swapRide
  try dsimp only
  repeat' first
    | with_reducible exact .refl _ _
    | decide
    | split
    | with_reducible apply Frame.after (State.modRide_frame ..)

theorem State.newBed_frame (s : State) (old : Store) (beat : ST64) :
    Frame [.ctl, .regs, .rings, .eventSeq, .sent, .draws, .sieve, .engines, .gf, .ride, .sounder, .furrows, .pairs,
        .pwm, .lanes, .remotes, .shears, .cloche, .time, .harvest, .prior, .net, .graft, .runner] s
        (State.newBed s old beat) := by
  unfold State.newBed
  try dsimp only
  repeat' first
    | with_reducible exact .refl _ _
    | decide
    | split
    | with_reducible apply Frame.after (State.harvestSpacingChanged_frame ..)
    | with_reducible apply Frame.after (State.modGraft_frame ..)
    | with_reducible apply Frame.after (State.refreshDeadbus_frame ..)
    | with_reducible apply Frame.after (State.refreshReserved_frame ..)
    | with_reducible apply Frame.after (State.setBeatOrigin_frame ..)
    | with_reducible apply Frame.after (State.swapEngines_frame ..)
    | with_reducible apply Frame.after (State.swapFurrows_frame ..)
    | with_reducible apply Frame.after (State.swapNet_frame ..)
    | with_reducible apply Frame.after (State.swapRide_frame ..)
    | with_reducible apply Frame.after (State.swapShears_frame ..)
    | with_reducible apply Frame.after (State.swapSieve_frame ..)
    | with_reducible apply Frame.after (State.swapSlots_frame ..)
    | with_reducible apply Frame.after (State.swapSounder_frame ..)
    | with_reducible apply Frame.after (State.swapWindows_frame ..)

theorem State.exchange_frame (s : State) (w : SwapRequest) :
    Frame [.ctl, .regs, .active, .shadow, .rings, .eventSeq, .sent, .draws, .sieve, .engines, .gf, .ride, .sounder,
        .furrows, .pairs, .pwm, .lanes, .remotes, .shears, .cloche, .time, .harvest, .prior, .net, .graft, .runner] s
        (State.exchange s w) := by
  unfold State.exchange
  try dsimp only
  repeat' first
    | with_reducible exact .refl _ _
    | decide
    | split
    | with_reducible apply Frame.after (State.count_frame ..)
    | with_reducible apply Frame.after (State.graftResult_frame ..)
    | with_reducible apply Frame.after (State.modGraft_frame ..)
    | with_reducible apply Frame.after (State.newBed_frame ..)
    | with_reducible apply Frame.after (State.put_frame ..)
    | with_reducible apply Frame.after (State.putT_frame ..)
    | with_reducible apply Frame.after (State.releaseJoins_frame ..)
    | with_reducible apply Frame.after (State.setBeds_frame ..)

theorem State.sendDecide_frame (s : State) (commit : Bool) :
    Frame [.sent, .runner] s (State.sendDecide s commit) := by
  unfold State.sendDecide
  try dsimp only
  repeat' first
    | with_reducible exact .refl _ _
    | decide
    | split
    | with_reducible apply Frame.after (State.send_frame ..)

theorem State.swapNow_frame (s : State) :
    Frame [.ctl, .regs, .active, .shadow, .rings, .eventSeq, .sent, .draws, .sieve, .engines, .gf, .ride, .sounder,
        .furrows, .pairs, .pwm, .lanes, .remotes, .shears, .cloche, .time, .harvest, .prior, .net, .graft, .runner] s
        (State.swapNow s) := by
  unfold State.swapNow
  try dsimp only
  repeat' first
    | with_reducible exact .refl _ _
    | decide
    | split
    | with_reducible apply Frame.after (State.endSwap_frame ..)
    | with_reducible apply Frame.after (State.exchange_frame ..)
    | with_reducible apply Frame.after (State.refuseSwap_frame ..)

theorem State.beatFirst_frame (s : State) :
    Frame [.ctl, .regs, .active, .shadow, .rings, .eventSeq, .sent, .draws, .sieve, .engines, .gf, .ride, .sounder,
        .furrows, .pairs, .pwm, .lanes, .remotes, .shears, .cloche, .time, .harvest, .prior, .net, .graft, .runner] s
        (State.beatFirst s) := by
  unfold State.beatFirst
  try dsimp only
  repeat' first
    | with_reducible exact .refl _ _
    | decide
    | split
    | with_reducible apply Frame.after (State.swapNow_frame ..)

theorem State.castVote_frame (s : State) (beat : ST64) (code : Nat) :
    Frame [.sent, .graft, .runner] s (State.castVote s beat code) := by
  unfold State.castVote
  try dsimp only
  repeat' first
    | with_reducible exact .refl _ _
    | decide
    | split
    | with_reducible apply Frame.after (State.modGraft_frame ..)
    | with_reducible apply Frame.after (State.send_frame ..)

theorem State.judgeProposal_frame (s : State) (w : SwapRequest) :
    Frame [.regs, .rings, .eventSeq, .sent, .graft, .runner] s (State.judgeProposal s w) := by
  unfold State.judgeProposal
  try dsimp only
  repeat' first
    | with_reducible exact .refl _ _
    | decide
    | split
    | with_reducible apply Frame.after (State.castVote_frame ..)
    | with_reducible apply Frame.after (State.modGraft_frame ..)
    | with_reducible apply Frame.after (State.pendSwap_frame ..)
    | with_reducible apply Frame.after (State.put_frame ..)
    | with_reducible apply Frame.after (State.refuseSwap_frame ..)

/-! ## Live -/

theorem State.raiseCounter_frame (s : State) (c v : Nat) :
    Frame [.regs, .rings, .eventSeq, .sent, .runner, .root] s (State.raiseCounter s c v) := by
  unfold State.raiseCounter
  try dsimp only
  repeat' first
    | with_reducible exact .refl _ _
    | decide
    | split
    | with_reducible apply Frame.after (State.event_frame ..)
    | with_reducible apply Frame.after (State.modRoot_frame ..)
    | with_reducible apply Frame.after (State.put_frame ..)

theorem State.stagePut_frame (s : State) (o : Nat) (b : Bytes) :
    Frame [.regs, .graft] s (State.stagePut s o b) := by
  unfold State.stagePut
  try dsimp only
  repeat' first
    | with_reducible exact .refl _ _
    | decide
    | split
    | with_reducible apply Frame.after (State.modGraft_frame ..)
    | with_reducible apply Frame.after (State.put_frame ..)

theorem State.stageEmpty_frame (s : State) :
    Frame [.regs, .graft] s (State.stageEmpty s) := by
  unfold State.stageEmpty
  try dsimp only
  repeat' first
    | with_reducible exact .refl _ _
    | decide
    | split
    | with_reducible apply Frame.after (State.modGraft_frame ..)
    | with_reducible apply Frame.after (State.put_frame ..)

theorem State.stageBegin_frame (s : State) :
    Frame [.regs, .graft] s (State.stageBegin s) := by
  unfold State.stageBegin
  try dsimp only
  repeat' first
    | with_reducible exact .refl _ _
    | decide
    | split
    | with_reducible apply Frame.after (State.modGraft_frame ..)
    | with_reducible apply Frame.after (State.put_frame ..)

theorem State.setImage_frame (s : State) (p : Nat) (i : Option PairImage) :
    Frame [.regs, .graft] s (State.setImage s p i) := by
  unfold State.setImage
  try dsimp only
  repeat' first
    | with_reducible exact .refl _ _
    | decide
    | split
    | with_reducible apply Frame.after (State.modGraft_frame ..)
    | with_reducible apply Frame.after (State.put_frame ..)

theorem State.handoverEvent_frame (s : State) (phase : Nat) (a b : Nat) :
    Frame [.regs, .rings, .eventSeq, .sent, .runner] s (State.handoverEvent s phase a b) := by
  unfold State.handoverEvent
  try dsimp only
  repeat' first
    | with_reducible exact .refl _ _
    | decide
    | split
    | with_reducible apply Frame.after (State.event_frame ..)

theorem State.switchPairs_frame (s : State) :
    Frame [.regs, .rings, .eventSeq, .sent, .win, .graft, .runner, .cores] s (State.switchPairs s) := by
  unfold State.switchPairs
  try dsimp only
  repeat' first
    | with_reducible exact .refl _ _
    | decide
    | split
    | with_reducible apply Frame.after (State.clearWindows_frame ..)
    | with_reducible apply Frame.after (State.count_frame ..)
    | with_reducible apply Frame.after (State.handoverEvent_frame ..)
    | with_reducible apply Frame.after (State.modCores_frame ..)
    | with_reducible apply Frame.after (State.modGraft_frame ..)
    | with_reducible apply Frame.after (State.put_frame ..)
    | with_reducible apply Frame.after (State.setImage_frame ..)
    | with_reducible apply Frame.after (State.setPairState_frame ..)

theorem State.abandonHandover_frame (s : State) :
    Frame [.regs, .rings, .eventSeq, .sent, .graft, .runner] s (State.abandonHandover s) := by
  unfold State.abandonHandover
  try dsimp only
  repeat' first
    | with_reducible exact .refl _ _
    | decide
    | split
    | with_reducible apply Frame.after (State.handoverEvent_frame ..)
    | with_reducible apply Frame.after (State.modGraft_frame ..)
    | with_reducible apply Frame.after (State.put_frame ..)
    | with_reducible apply Frame.after (State.setPairState_frame ..)

theorem fwCommand_frame {l : List Part} (hl : [.regs, .rings, .eventSeq, .sent, .win,
    .runner] ⊆ l) {req : Requester} {legal : Bool} {act : State → State} {s u : State} (h : ∀ s, Frame l s (act s))
        (g : Frame l u s) :
    Frame l u (fwCommand req legal act s) := by
  unfold fwCommand
  refine guarded_frame hl h ?_
  split
  · exact .after (State.put_frame ..) (fun p hp => hl (by revert p; decide)) g
  · exact g

theorem State.takeBeds_frame (s : State) (beat : ST64) :
    Frame [.ctl, .regs, .active, .shadow, .rings, .eventSeq, .sent, .draws, .sieve, .engines, .gf, .ride, .sounder,
        .furrows, .pairs, .pwm, .lanes, .remotes, .shears, .cloche, .time, .harvest, .prior, .net, .graft, .runner] s
        (State.takeBeds s beat) := by
  unfold State.takeBeds
  try dsimp only
  repeat' first
    | with_reducible exact .refl _ _
    | decide
    | split
    | with_reducible apply Frame.after (State.modGraft_frame ..)
    | with_reducible apply Frame.after (State.modRunner_frame ..)
    | with_reducible apply Frame.after (State.newBed_frame ..)
    | with_reducible apply Frame.after (State.put_frame ..)
    | with_reducible apply Frame.after (State.setBeds_frame ..)

theorem State.joinArray_frame (s : State) (p : Nat) (beat : ST64) (mem : Nat) :
    Frame [.ctl, .regs, .active, .shadow, .rings, .eventSeq, .sent, .draws, .sieve, .engines, .gf, .ride, .sounder,
        .furrows, .pairs, .pwm, .lanes, .remotes, .shears, .cloche, .time, .harvest, .prior, .net, .rst, .slanes,
        .graft, .runner] s (State.joinArray s p beat mem) := by
  unfold State.joinArray
  try dsimp only
  repeat' first
    | with_reducible exact .refl _ _
    | decide
    | split
    | with_reducible apply Frame.after (State.arrayTo_frame ..)
    | with_reducible apply Frame.after (State.event_frame ..)
    | with_reducible apply Frame.after (State.joinFailed_frame ..)
    | with_reducible apply Frame.after (State.modRunner_frame ..)
    | with_reducible apply Frame.after (State.moveGrid_frame ..)
    | with_reducible apply Frame.after (State.put_frame ..)
    | with_reducible apply Frame.after (State.refreshHops_frame ..)
    | with_reducible apply Frame.after (State.takeBeds_frame ..)
    | with_reducible apply Frame.after (State.toTimeState_frame ..)

theorem State.takeAdmission_frame (s : State) (a : Nat × ST64 × Nat) :
    Frame [.ctl, .regs, .active, .shadow, .rings, .eventSeq, .sent, .draws, .sieve, .engines, .gf, .ride, .sounder,
        .furrows, .pairs, .pwm, .lanes, .remotes, .shears, .cloche, .time, .harvest, .prior, .net, .rst, .slanes,
        .graft, .runner] s (State.takeAdmission s a) := by
  unfold State.takeAdmission
  try dsimp only
  repeat' first
    | with_reducible exact .refl _ _
    | decide
    | split
    | with_reducible apply Frame.after (State.joinArray_frame ..)
    | with_reducible apply Frame.after (State.memberAdmitted_frame ..)
    | with_reducible apply Frame.after (State.modRunner_frame ..)
    | with_reducible apply Frame.after (State.put_frame ..)
    | with_reducible apply Frame.after (State.refreshHops_frame ..)

theorem State.takeAdmissions_frame (s : State) :
    Frame [.ctl, .regs, .active, .shadow, .rings, .eventSeq, .sent, .draws, .sieve, .engines, .gf, .ride, .sounder,
        .furrows, .pairs, .pwm, .lanes, .remotes, .shears, .cloche, .time, .harvest, .prior, .net, .rst, .slanes,
        .graft, .runner] s (State.takeAdmissions s) := by
  unfold State.takeAdmissions
  try dsimp only
  repeat' first
    | with_reducible exact .refl _ _
    | decide
    | split
    | with_reducible apply Frame.after (State.takeAdmission_frame ..)
    | with_reducible refine Frame.foldl_after _ _ (fun s x => ?_) ?_
    | with_reducible refine Frame.foldl_fst _ _ (fun a x => ?_) ?_

theorem State.clocheUpdate_frame (s : State) (n : Nat) :
    Frame [.regs, .rings, .eventSeq, .sent, .runner] s (State.clocheUpdate s n) := by
  unfold State.clocheUpdate
  try dsimp only
  repeat' first
    | with_reducible exact .refl _ _
    | decide
    | split
    | with_reducible apply Frame.after (State.event_frame ..)
    | with_reducible apply Frame.after (State.put_frame ..)

theorem State.endPause_frame (s : State) (t : ST64) :
    Frame [.regs, .cloche] s (State.endPause s t) := by
  unfold State.endPause
  try dsimp only
  repeat' first
    | with_reducible exact .refl _ _
    | decide
    | split
    | with_reducible apply Frame.after (State.modCloche_frame ..)
    | with_reducible apply Frame.after (State.modRx_frame ..)
    | with_reducible apply Frame.after (State.put_frame ..)
    | with_reducible refine Frame.foldl_after _ _ (fun s x => ?_) ?_
    | with_reducible refine Frame.foldl_fst _ _ (fun a x => ?_) ?_

theorem State.applyClocks_frame (s : State) (c : ClockCopy) :
    Frame [.regs, .active, .rings, .eventSeq, .sent, .harvest, .graft, .runner] s (State.applyClocks s c) := by
  unfold State.applyClocks
  try dsimp only
  repeat' first
    | with_reducible exact .refl _ _
    | decide
    | split
    | with_reducible apply Frame.after (State.harvestSpacingChanged_frame ..)
    | with_reducible apply Frame.after (State.modGraft_frame ..)
    | with_reducible apply Frame.after (State.put_frame ..)
    | with_reducible apply Frame.after (State.putCfg_frame ..)
    | with_reducible refine Frame.foldl_after _ _ (fun s x => ?_) ?_
    | with_reducible refine Frame.foldl_fst _ _ (fun a x => ?_) ?_

/-! ## Rootstock -/

theorem State.endSession_frame (s : State) (n : Nat) :
    Frame [.sessions] s (State.endSession s n) := by
  unfold State.endSession
  try dsimp only
  repeat' first
    | with_reducible exact .refl _ _
    | decide
    | split
    | with_reducible apply Frame.set_sessions

theorem State.setKeySlot_frame (s : State) (k state session : Nat) :
    Frame [.regs, .rings, .eventSeq, .sent, .runner] s (State.setKeySlot s k state session) := by
  unfold State.setKeySlot
  try dsimp only
  repeat' first
    | with_reducible exact .refl _ _
    | decide
    | split
    | with_reducible apply Frame.after (State.event_frame ..)
    | with_reducible apply Frame.after (State.put_frame ..)
    | with_reducible refine Frame.foldl_after _ _ (fun s x => ?_) ?_
    | with_reducible refine Frame.foldl_fst _ _ (fun a x => ?_) ?_

theorem State.drawNonce_frame (s : State) :
    Frame [.regs, .draws] s (State.drawNonce s) := by
  unfold State.drawNonce
  try dsimp only
  repeat' first
    | with_reducible exact .refl _ _
    | decide
    | split
    | with_reducible apply Frame.after (State.draw_frame ..)
    | with_reducible apply Frame.after (State.putB_frame ..)

theorem State.debugTo_frame (s : State) (token : Option Nat) (cause : Nat) :
    Frame [.regs, .rings, .eventSeq, .sent, .runner, .root] s (State.debugTo s token cause) := by
  unfold State.debugTo
  try dsimp only
  repeat' first
    | with_reducible exact .refl _ _
    | decide
    | split
    | with_reducible apply Frame.after (State.event_frame ..)
    | with_reducible apply Frame.after (State.modRoot_frame ..)
    | with_reducible apply Frame.after (State.put_frame ..)

theorem State.leaveArray_frame (s : State) :
    Frame [.ctl, .regs, .rings, .eventSeq, .sent, .draws, .lanes, .time, .rst, .slanes, .runner] s
        (State.leaveArray s) := by
  unfold State.leaveArray
  try dsimp only
  repeat' first
    | with_reducible exact .refl _ _
    | decide
    | split
    | with_reducible apply Frame.after (State.send_frame ..)
    | with_reducible apply Frame.after (State.toAlone_frame ..)

theorem State.submitToken_frame (s : State) (b : Bytes) :
    Frame [.ctl, .regs, .rings, .eventSeq, .sent, .draws, .lanes, .time, .rst, .slanes, .runner, .root] s
        (State.submitToken s b) := by
  unfold State.submitToken
  try dsimp only
  repeat' first
    | with_reducible exact .refl _ _
    | decide
    | split
    | with_reducible apply Frame.after (State.debugTo_frame ..)
    | with_reducible apply Frame.after (State.drawNonce_frame ..)
    | with_reducible apply Frame.after (State.leaveArray_frame ..)

theorem rootCommand_frame {l : List Part} (hl : [.regs, .rings, .eventSeq, .sent, .win,
    .runner] ⊆ l) {req : Requester} {modeOk : Bool} {own : Nat} {act : State → State} {s u : State} (h : ∀ s,
        Frame l s (act s)) (g : Frame l u s) :
    Frame l u (rootCommand req modeOk own act s) := by
  unfold rootCommand
  refine guarded_frame hl h ?_
  split
  · exact .after (State.put_frame ..) (fun p hp => hl (by revert p; decide)) g
  · exact g

theorem State.showLife_frame (s : State) :
    Frame [.regs] s (State.showLife s) := by
  unfold State.showLife
  try dsimp only
  repeat' first
    | with_reducible exact .refl _ _
    | decide
    | split
    | with_reducible apply Frame.after (State.put_frame ..)

/-! ## Reset -/

theorem State.programLost_frame (s : State) :
    Frame [.regs] s (State.programLost s) := by
  unfold State.programLost
  try dsimp only
  repeat' first
    | with_reducible exact .refl _ _
    | decide
    | split
    | with_reducible apply Frame.after (State.put_frame ..)
    | with_reducible refine Frame.foldl_after _ _ (fun s x => ?_) ?_
    | with_reducible refine Frame.foldl_fst _ _ (fun a x => ?_) ?_

theorem State.raiseLost_frame (s : State) :
    Frame [.regs, .draws] s (State.raiseLost s) := by
  unfold State.raiseLost
  try dsimp only
  repeat' first
    | with_reducible exact .refl _ _
    | decide
    | split
    | with_reducible apply Frame.after (State.draw_frame ..)
    | with_reducible apply Frame.after (State.put_frame ..)
    | with_reducible refine Frame.foldl_after _ _ (fun s x => ?_) ?_
    | with_reducible refine Frame.foldl_fst _ _ (fun a x => ?_) ?_

theorem State.alarmOff_frame (s : State) :
    Frame [.sent, .runner] s (State.alarmOff s) := by
  unfold State.alarmOff
  try dsimp only
  repeat' first
    | with_reducible exact .refl _ _
    | decide
    | split
    | with_reducible apply Frame.after (State.send_frame ..)

theorem State.clearCold_frame (s : State) :
    Frame [.ctl, .mode, .now, .regs, .active, .shadow, .rings, .eventSeq, .sessions, .coreReq, .sent, .draws, .sieve,
        .engines, .gf, .ride, .sounder, .furrows, .pairs, .pwm, .fltActive, .lanes, .nodes, .remotes, .arms, .shears,
        .cloche, .time, .win, .harvest, .shared, .prior, .net, .rst, .slanes, .graft, .runner, .cores, .power, .root] s
        (State.clearCold s) := by
  refine ⟨fun p hp => ?_⟩
  obtain rfl : p = .pending := by revert hp; cases p <;> decide
  have h := (State.programLost_frame s).same .pending (by decide)
  unfold State.clearCold
  dsimp only
  refine Part.same_trans ?_ ((State.showLife_frame _).same .pending (by decide))
  refine Part.same_trans ?_ ((State.drawNonce_frame _).same .pending (by decide))
  split
  · exact Part.same_trans h ((State.put_frame _ _ _ _).same .pending (by decide))
  · exact h

theorem State.warmState_frame (s : State) (mode : Mode) (cloche : Bool) :
    Frame [.ctl, .mode, .now, .regs, .active, .shadow, .rings, .eventSeq, .sessions, .coreReq, .sent, .draws, .sieve,
        .engines, .gf, .ride, .sounder, .furrows, .pairs, .pwm, .fltActive, .lanes, .nodes, .remotes, .arms, .shears,
        .cloche, .time, .win, .harvest, .shared, .prior, .net, .rst, .slanes, .graft, .runner, .cores, .power, .root] s
        (State.warmState s mode cloche) := by
  refine ⟨fun p hp => ?_⟩
  obtain rfl : p = .pending := by revert hp; cases p <;> decide
  rfl

theorem State.warmTime_frame (s : State) :
    Frame [.regs] s (State.warmTime s) := by
  unfold State.warmTime
  try dsimp only
  repeat' first
    | with_reducible exact .refl _ _
    | decide
    | split
    | with_reducible apply Frame.after (State.put_frame ..)
    | with_reducible apply Frame.after (State.putT_frame ..)

theorem State.clearWarm_frame (s : State) (cloche : Bool) :
    Frame [.ctl, .mode, .now, .regs, .active, .shadow, .rings, .eventSeq, .sessions, .coreReq, .sent, .draws, .sieve,
        .engines, .gf, .ride, .sounder, .furrows, .pairs, .pwm, .fltActive, .lanes, .nodes, .remotes, .arms, .shears,
        .cloche, .time, .win, .harvest, .shared, .prior, .net, .rst, .slanes, .graft, .runner, .cores, .power, .root] s
        (State.clearWarm s cloche) := by
  unfold State.clearWarm
  try dsimp only
  repeat' first
    | with_reducible exact .refl _ _
    | decide
    | split
    | with_reducible apply Frame.after (State.drawNonce_frame ..)
    | with_reducible apply Frame.after (State.harvestEndWhere_frame ..)
    | with_reducible apply Frame.after (State.put_frame ..)
    | with_reducible apply Frame.after (State.warmState_frame ..)
    | with_reducible apply Frame.after (State.warmTime_frame ..)

theorem State.assertCold_frame (s : State) (bit : Nat) (resetnLow : Bool) :
    Frame [.ctl, .mode, .now, .regs, .active, .shadow, .rings, .eventSeq, .sessions, .coreReq, .sent, .draws, .sieve,
        .engines, .gf, .ride, .sounder, .furrows, .pairs, .pwm, .fltActive, .lanes, .nodes, .remotes, .arms, .shears,
        .cloche, .time, .win, .harvest, .shared, .prior, .net, .rst, .slanes, .graft, .runner, .cores, .power, .root] s
        (State.assertCold s bit resetnLow) := by
  unfold State.assertCold
  try dsimp only
  repeat' first
    | with_reducible exact .refl _ _
    | decide
    | split
    | with_reducible apply Frame.after (State.alarmOff_frame ..)
    | with_reducible apply Frame.after (State.clearCold_frame ..)
    | with_reducible apply Frame.after (State.modRst_frame ..)
    | with_reducible refine Frame.foldl_after _ _ (fun s x => ?_) ?_
    | with_reducible refine Frame.foldl_fst _ _ (fun a x => ?_) ?_

theorem State.assertWarm_frame (s : State) (bits : List Nat) :
    Frame [.ctl, .mode, .now, .regs, .active, .shadow, .rings, .eventSeq, .sessions, .coreReq, .sent, .draws, .sieve,
        .engines, .gf, .ride, .sounder, .furrows, .pairs, .pwm, .fltActive, .lanes, .nodes, .remotes, .arms, .shears,
        .cloche, .time, .win, .harvest, .shared, .prior, .net, .rst, .slanes, .graft, .runner, .cores, .power, .root] s
        (State.assertWarm s bits) := by
  unfold State.assertWarm
  try dsimp only
  repeat' first
    | with_reducible exact .refl _ _
    | decide
    | split
    | with_reducible apply Frame.after (State.alarmOff_frame ..)
    | with_reducible apply Frame.after (State.clearWarm_frame ..)
    | with_reducible apply Frame.after (State.modRst_frame ..)
    | with_reducible refine Frame.foldl_after _ _ (fun s x => ?_) ?_
    | with_reducible refine Frame.foldl_fst _ _ (fun a x => ?_) ?_

theorem State.leaveReset_frame (s : State) :
    Frame [.regs, .rst] s (State.leaveReset s) := by
  unfold State.leaveReset
  try dsimp only
  repeat' first
    | with_reducible exact .refl _ _
    | decide
    | split
    | with_reducible apply Frame.after (State.count_frame ..)
    | with_reducible apply Frame.after (State.modRst_frame ..)
    | with_reducible apply Frame.after (State.put_frame ..)
    | with_reducible apply Frame.after (State.putB_frame ..)
    | with_reducible apply Frame.after (State.putT_frame ..)

theorem State.releaseSource_frame (s : State) (src : Nat) :
    Frame [.regs, .rst] s (State.releaseSource s src) := by
  unfold State.releaseSource
  try dsimp only
  repeat' first
    | with_reducible exact .refl _ _
    | decide
    | split
    | with_reducible apply Frame.after (State.leaveReset_frame ..)
    | with_reducible apply Frame.after (State.modRst_frame ..)

theorem State.bootCheck_frame (s : State) (c : Nat) (p : BootPick) :
    Frame [.regs, .rings, .eventSeq, .sent, .runner] s (State.bootCheck s c p) := by
  unfold State.bootCheck
  try dsimp only
  repeat' first
    | with_reducible exact .refl _ _
    | decide
    | split
    | with_reducible apply Frame.after (State.event_frame ..)
    | with_reducible apply Frame.after (State.putB_frame ..)

theorem State.fromBank_frame (s : State) (bit : Nat) (p : BootPick) :
    Frame [.root] s (State.fromBank s bit p) := by
  unfold State.fromBank
  try dsimp only
  repeat' first
    | with_reducible exact .refl _ _
    | decide
    | split
    | with_reducible apply Frame.after (State.modRoot_frame ..)

theorem State.bootStop_frame (s : State) :
    Frame [.ctl, .sent, .rst, .runner] s (State.bootStop s) := by
  unfold State.bootStop
  try dsimp only
  repeat' first
    | with_reducible exact .refl _ _
    | decide
    | split
    | with_reducible apply Frame.after (State.modCtl_kept ..)
    | with_reducible exact fun _ => ⟨rfl, rfl⟩
    | with_reducible apply Frame.after (State.modRst_frame ..)
    | with_reducible apply Frame.after (State.send_frame ..)

theorem State.readKeys_frame (s : State) (f : BootFlash) :
    Frame [.regs] s (State.readKeys s f) := by
  unfold State.readKeys
  try dsimp only
  repeat' first
    | with_reducible exact .refl _ _
    | decide
    | split
    | with_reducible apply Frame.after (State.putB_frame ..)

theorem State.bootExt_frame (s : State) (f : BootFlash) :
    Frame [.regs, .rings, .eventSeq, .sent, .runner, .root] s (State.bootExt s f) := by
  unfold State.bootExt
  try dsimp only
  repeat' first
    | with_reducible exact .refl _ _
    | decide
    | split
    | with_reducible apply Frame.after (State.bootCheck_frame ..)
    | with_reducible apply Frame.after (State.modRoot_frame ..)

theorem State.startCloche_frame (s : State) (i : PairImage) :
    Frame [.regs, .cloche, .root] s (State.startCloche s i) := by
  unfold State.startCloche
  try dsimp only
  repeat' first
    | with_reducible exact .refl _ _
    | decide
    | split
    | with_reducible apply Frame.after (State.modCloche_frame ..)
    | with_reducible apply Frame.after (State.modRoot_frame ..)
    | with_reducible apply Frame.after (State.put_frame ..)

theorem State.startFirmware_frame (s : State) (i : PairImage) :
    Frame [.regs, .graft, .cores] s (State.startFirmware s i) := by
  unfold State.startFirmware
  try dsimp only
  repeat' first
    | with_reducible exact .refl _ _
    | decide
    | split
    | with_reducible apply Frame.after (State.modCores_frame ..)
    | with_reducible apply Frame.after (State.modGraft_frame ..)
    | with_reducible apply Frame.after (State.put_frame ..)
    | with_reducible apply Frame.after (State.setImage_frame ..)

theorem State.bootBed_frame (s : State) (f : BootFlash) :
    Frame [.regs, .active, .shadow, .rings, .eventSeq, .sent, .graft, .runner, .root] s (State.bootBed s f) := by
  unfold State.bootBed
  try dsimp only
  repeat' first
    | with_reducible exact .refl _ _
    | decide
    | split
    | with_reducible apply Frame.after (State.bootCheck_frame ..)
    | with_reducible apply Frame.after (State.flag_frame ..)
    | with_reducible apply Frame.after (State.fromBank_frame ..)
    | with_reducible apply Frame.after (State.modGraft_frame ..)
    | with_reducible apply Frame.after (State.put_frame ..)
    | with_reducible apply Frame.after (State.setBeds_frame ..)

theorem State.bootSlots_frame (s : State) :
    Frame [.regs, .engines] s (State.bootSlots s) := by
  unfold State.bootSlots
  try dsimp only
  repeat' first
    | with_reducible exact .refl _ _
    | decide
    | split
    | with_reducible apply Frame.after (State.modSlot_frame ..)
    | with_reducible apply Frame.after (State.put_frame ..)
    | with_reducible refine Frame.foldl_after _ _ (fun s x => ?_) ?_
    | with_reducible refine Frame.foldl_fst _ _ (fun a x => ?_) ?_

theorem State.loadConfig_frame (s : State) :
    Frame [.regs, .rings, .eventSeq, .sent, .engines, .furrows, .pairs, .pwm, .runner] s (State.loadConfig s) := by
  unfold State.loadConfig
  try dsimp only
  repeat' first
    | with_reducible exact .refl _ _
    | decide
    | split
    | with_reducible apply Frame.after (State.bootSlots_frame ..)
    | with_reducible apply Frame.after (State.clearPwm_frame ..)
    | with_reducible apply Frame.after (State.put_frame ..)
    | with_reducible apply Frame.after (State.refreshReserved_frame ..)
    | with_reducible apply Frame.after (State.swapFurrows_frame ..)
    | with_reducible refine Frame.foldl_after _ _ (fun s x => ?_) ?_
    | with_reducible refine Frame.foldl_fst _ _ (fun a x => ?_) ?_

theorem State.bootDone_frame (s : State) (hold : Bool) :
    Frame [.ctl, .mode, .regs, .rings, .eventSeq, .sent, .draws, .sieve, .engines, .gf, .ride, .sounder, .furrows,
        .pairs, .lanes, .nodes, .remotes, .shears, .cloche, .harvest, .prior, .net, .rst, .slanes, .runner] s
        (State.bootDone s hold) := by
  unfold State.bootDone
  try dsimp only
  repeat' first
    | with_reducible exact .refl _ _
    | decide
    | split
    | with_reducible apply Frame.after (State.event_frame ..)
    | with_reducible apply Frame.after (State.leaveDormant_frame ..)
    | with_reducible apply Frame.after (State.measureTap_frame ..)
    | with_reducible apply Frame.after (State.modCtl_kept ..)
    | with_reducible exact fun _ => ⟨rfl, rfl⟩
    | with_reducible apply Frame.after (State.modRst_frame ..)
    | with_reducible apply Frame.after (State.modSounder_frame ..)

theorem State.bootRecovery_frame (s : State) (f : BootFlash) :
    Frame [.ctl, .mode, .regs, .rings, .eventSeq, .sent, .draws, .sieve, .engines, .gf, .ride, .sounder, .furrows,
        .pairs, .pwm, .lanes, .nodes, .remotes, .shears, .cloche, .harvest, .prior, .net, .rst, .slanes, .runner] s
        (State.bootRecovery s f) := by
  unfold State.bootRecovery
  try dsimp only
  repeat' first
    | with_reducible exact .refl _ _
    | decide
    | split
    | with_reducible apply Frame.after (State.bootDone_frame ..)
    | with_reducible apply Frame.after (State.loadConfig_frame ..)
    | with_reducible apply Frame.after (State.put_frame ..)

theorem State.bootNormal_frame (s : State) (f : BootFlash) (i : PairImage) :
    Frame [.ctl, .mode, .regs, .active, .shadow, .rings, .eventSeq, .sent, .draws, .sieve, .engines, .gf, .ride,
        .sounder, .furrows, .pairs, .pwm, .lanes, .nodes, .remotes, .shears, .cloche, .harvest, .prior, .net, .rst,
        .slanes, .graft, .runner, .cores, .root] s (State.bootNormal s f i) := by
  unfold State.bootNormal
  try dsimp only
  repeat' first
    | with_reducible exact .refl _ _
    | decide
    | split
    | with_reducible apply Frame.after (State.bootBed_frame ..)
    | with_reducible apply Frame.after (State.bootCheck_frame ..)
    | with_reducible apply Frame.after (State.bootDone_frame ..)
    | with_reducible apply Frame.after (State.loadConfig_frame ..)
    | with_reducible apply Frame.after (State.startFirmware_frame ..)

theorem State.bootFlash_frame (s : State) (f : BootFlash) :
    Frame [.ctl, .mode, .regs, .active, .shadow, .rings, .eventSeq, .sent, .draws, .sieve, .engines, .gf, .ride,
        .sounder, .furrows, .pairs, .pwm, .lanes, .nodes, .remotes, .shears, .cloche, .harvest, .prior, .net, .rst,
        .slanes, .graft, .runner, .cores, .root] s (State.bootFlash s f) := by
  unfold State.bootFlash
  try dsimp only
  repeat' first
    | with_reducible exact .refl _ _
    | decide
    | split
    | with_reducible apply Frame.after (State.bootCheck_frame ..)
    | with_reducible apply Frame.after (State.bootExt_frame ..)
    | with_reducible apply Frame.after (State.bootNormal_frame ..)
    | with_reducible apply Frame.after (State.bootRecovery_frame ..)
    | with_reducible apply Frame.after (State.bootStop_frame ..)
    | with_reducible apply Frame.after (State.fromBank_frame ..)
    | with_reducible apply Frame.after (State.startCloche_frame ..)

theorem State.bootHeld_frame (s : State) (f : BootFlash) (c : PairImage) (i : Option PairImage) :
    Frame [.ctl, .mode, .regs, .active, .shadow, .rings, .eventSeq, .sent, .draws, .sieve, .engines, .gf, .ride,
        .sounder, .furrows, .pairs, .pwm, .lanes, .nodes, .remotes, .shears, .cloche, .harvest, .prior, .net, .rst,
        .slanes, .graft, .runner, .cores, .root] s (State.bootHeld s f c i) := by
  unfold State.bootHeld
  try dsimp only
  repeat' first
    | with_reducible exact .refl _ _
    | decide
    | split
    | with_reducible apply Frame.after (State.bootCheck_frame ..)
    | with_reducible apply Frame.after (State.bootNormal_frame ..)
    | with_reducible apply Frame.after (State.bootRecovery_frame ..)
    | with_reducible apply Frame.after (State.startCloche_frame ..)

theorem domainReset_frame {l : List Part} (hl : [.regs, .rings, .eventSeq, .sent, .win, .rst,
    .runner] ⊆ l) {req : Requester}
    {there modeOk : Bool} {own : Nat} {act : State → State} {s u : State} (h : ∀ s, Frame l s (act s))
        (g : Frame l u s) : Frame l u (domainReset req there modeOk own act s) := by
  unfold domainReset
  split
  · exact .after (State.modRst_frame ..) (fun p hp => hl (by revert p; decide)) g
  · refine guarded_frame (fun p hp => hl (by revert p; decide)) h ?_
    split
    · exact .after (State.put_frame ..) (fun p hp => hl (by revert p; decide)) g
    · exact g

/-! ## Writes -/

theorem plainApply_frame (s : State) (i k : Nat) (v : DVal) :
    Frame [.ctl, .regs, .rings, .eventSeq, .sent, .draws, .lanes, .time, .rst, .slanes, .runner] s
        (plainApply s i k v) := by
  unfold plainApply
  try dsimp only
  repeat' first
    | with_reducible exact .refl _ _
    | decide
    | split
    | with_reducible apply Frame.after (State.joinFormed_frame ..)
    | with_reducible apply Frame.after (State.leaveArray_frame ..)
    | with_reducible apply Frame.after (State.putV_frame ..)

theorem refuseWrite_frame (s : State) (req : Requester) (i k : Nat) (v : DVal) (code : Nat) :
    Frame [.regs, .sent, .win, .runner] s (refuseWrite s req i k v code) := by
  unfold refuseWrite
  try dsimp only
  repeat' first
    | with_reducible exact .refl _ _
    | decide
    | split
    | with_reducible apply Frame.after (State.answer_frame ..)
    | with_reducible apply Frame.after (State.lastCommand_frame ..)

theorem shadowApply_frame (s : State) (i k : Nat) (v : DVal) :
    Frame [.regs, .shadow, .graft] s (shadowApply s i k v) := by
  unfold shadowApply
  try dsimp only
  repeat' first
    | with_reducible exact .refl _ _
    | decide
    | split
    | with_reducible apply Frame.after (State.modGraft_frame ..)
    | with_reducible apply Frame.after (State.put_frame ..)
    | with_reducible apply Frame.after (State.setShadow_frame ..)

theorem shadowWrite_frame (req : Requester) (i k byte : Nat) (v : DVal) (s : State) :
    Frame [.regs, .shadow, .sent, .win, .graft, .runner] s (shadowWrite req i k byte v s) := by
  unfold shadowWrite
  try dsimp only
  repeat' first
    | with_reducible exact .refl _ _
    | decide
    | split
    | with_reducible apply Frame.after (State.answer_frame ..)
    | with_reducible apply Frame.after (shadowApply_frame ..)

theorem clearBits_frame (s : State) (i k : Nat) (n : Int) :
    Frame [.regs] s (clearBits s i k n) := by
  unfold clearBits
  try dsimp only
  repeat' first
    | with_reducible exact .refl _ _
    | decide
    | split
    | with_reducible apply Frame.after (State.put_frame ..)

/-! ## Xdp -/

theorem State.refuseSession_frame (s : State) (n reqId code : Nat) :
    Frame [.sessions, .sent, .runner] s (State.refuseSession s n reqId code) := by
  unfold State.refuseSession
  try dsimp only
  repeat' first
    | with_reducible exact .refl _ _
    | decide
    | split
    | with_reducible apply Frame.after (State.endSession_frame ..)
    | with_reducible apply Frame.after (State.sendXdp_frame ..)

theorem State.timeUnchecked_frame (s : State) :
    Frame [.regs] s (State.timeUnchecked s) := by
  unfold State.timeUnchecked
  try dsimp only
  repeat' first
    | with_reducible exact .refl _ _
    | decide
    | split
    | with_reducible apply Frame.after (State.flag_frame ..)

theorem State.chainFails_frame (s : State) (n reqId : Nat) :
    Frame [.regs, .sessions, .sent, .runner] s (State.chainFails s n reqId) := by
  unfold State.chainFails
  try dsimp only
  repeat' first
    | with_reducible exact .refl _ _
    | decide
    | split
    | with_reducible apply Frame.after (State.count_frame ..)
    | with_reducible apply Frame.after (State.refuseSession_frame ..)

theorem State.challenge_frame (s : State) (n reqId : Nat) (r : Role × Nat) (leafKey : Bytes) :
    Frame [.sessions, .sent, .draws, .runner] s (State.challenge s n reqId r leafKey) := by
  unfold State.challenge
  try dsimp only
  repeat' first
    | with_reducible exact .refl _ _
    | decide
    | split
    | with_reducible apply Frame.after (State.draw_frame ..)
    | with_reducible apply Frame.after (State.modSession_frame ..)
    | with_reducible apply Frame.after (State.sendXdp_frame ..)

theorem State.takePart_frame (s : State) (n : Nat) (h : HelloMsg) :
    Frame [.regs, .sessions, .sent, .draws, .runner] s (State.takePart s n h) := by
  unfold State.takePart
  try dsimp only
  repeat' first
    | with_reducible exact .refl _ _
    | decide
    | split
    | with_reducible apply Frame.after (State.chainFails_frame ..)
    | with_reducible apply Frame.after (State.challenge_frame ..)
    | with_reducible apply Frame.after (State.modSession_frame ..)
    | with_reducible apply Frame.after (State.timeUnchecked_frame ..)

theorem State.takeSnapshot_frame (s : State) (req : Requester) (i k : Nat) (b : Bytes) :
    Frame [.sessions, .coreReq] s (State.takeSnapshot s req i k b).2 := by
  unfold State.takeSnapshot
  try dsimp only
  repeat' first
    | with_reducible exact .refl _ _
    | decide
    | split
    | with_reducible apply Frame.after (State.modRecord_frame ..)

theorem State.readRequest_frame (s : State) (req : Requester) (little : Bool) (cap : Nat) (r : ReadReq) :
    Frame [.sessions, .coreReq] s (State.readRequest s req little cap r).2 := by
  unfold State.readRequest
  try dsimp only
  repeat' first
    | with_reducible exact .refl _ _
    | decide
    | split
    | with_reducible apply Frame.after (State.modRecord_frame ..)
    | with_reducible apply Frame.after (State.takeSnapshot_frame ..)

theorem State.xdpPacket_frame {l : List Part} (hl : [.regs, .sessions, .sent,
    .runner] ⊆ l) {h : XdpHead} {act : State → State}
    {s u : State} (k : ∀ s, Frame l s (act s)) (g : Frame l u s) : Frame l u (s.xdpPacket h act) := by
  unfold State.xdpPacket
  dsimp only
  repeat' first
    | with_reducible exact g
    | exact fun p hp => hl (by revert p; decide)
    | split
    | with_reducible refine .trans ?_ (k _)
    | with_reducible apply Frame.after (State.sendXdp_frame ..)
    | with_reducible apply Frame.after (State.respond_frame ..)
    | with_reducible apply Frame.after (State.count_frame ..)
    | with_reducible apply Frame.after (State.modSession_frame ..)

theorem State.notify_frame (s : State) (n : Nat) (number : Nat) (t : ST64) (i k type : Nat) (data : Bytes) :
    Frame [.regs, .rings, .eventSeq, .sessions, .sent, .runner] s (State.notify s n number t i k type data) := by
  unfold State.notify
  try dsimp only
  repeat' first
    | with_reducible exact .refl _ _
    | decide
    | split
    | with_reducible apply Frame.after (State.count_frame ..)
    | with_reducible apply Frame.after (State.modSession_frame ..)
    | with_reducible apply Frame.after (State.ringAppend_frame ..)
    | with_reducible apply Frame.after (State.ringLost_frame ..)

theorem State.transmitNotify_frame (s : State) :
    Frame [.regs, .rings, .sessions, .sent, .runner] s (State.transmitNotify s) := by
  unfold State.transmitNotify
  try dsimp only
  repeat' first
    | with_reducible exact .refl _ _
    | decide
    | split
    | with_reducible apply Frame.after (State.ringRelease_frame ..)
    | with_reducible apply Frame.after (State.sendXdp_frame ..)

theorem State.setSubscription_frame (s : State) (n number : Nat) (x : Subscription) :
    Frame [.sessions] s (State.setSubscription s n number x) := by
  unfold State.setSubscription
  try dsimp only
  repeat' first
    | with_reducible exact .refl _ _
    | decide
    | split
    | with_reducible apply Frame.after (State.modSession_frame ..)

theorem State.subscribeEvents_frame (s : State) (r : SubscribeReq) (n reqId : Nat) :
    Frame [.sessions, .sent, .runner] s (State.subscribeEvents s r n reqId) := by
  unfold State.subscribeEvents
  try dsimp only
  repeat' first
    | with_reducible exact .refl _ _
    | decide
    | split
    | with_reducible apply Frame.after (State.respond_frame ..)
    | with_reducible apply Frame.after (State.setSubscription_frame ..)

theorem timedRecord_frame (s : State) (n : Option (Fin 16)) (f : Session → Session) :
    Frame [.sessions, .coreReq] s (timedRecord s n f) := by
  unfold timedRecord
  try dsimp only
  repeat' first
    | with_reducible exact .refl _ _
    | decide
    | split
    | with_reducible apply Frame.after (State.modCoreReq_frame ..)
    | with_reducible apply Frame.after (State.modSession_frame ..)

/-! ## Tick -/

theorem State.countOn_frame (s : State) :
    Frame [.now, .time, .prior] s (State.countOn s) := by
  unfold State.countOn
  try dsimp only
  repeat' first
    | with_reducible exact .refl _ _
    | decide
    | split
    | with_reducible apply Frame.set_now_time_prior

theorem State.transmitUser_frame (s : State) :
    Frame [.regs, .rings, .sent, .runner] s (State.transmitUser s) := by
  unfold State.transmitUser
  try dsimp only
  repeat' first
    | with_reducible exact .refl _ _
    | decide
    | split
    | with_reducible apply Frame.after (State.ringRelease_frame ..)
    | with_reducible apply Frame.after (State.send_frame ..)

theorem State.consume_frame (s : State) (q : Nat) :
    Frame [.regs, .rings, .sent, .runner] s (State.consume s q) := by
  unfold State.consume
  try dsimp only
  repeat' first
    | with_reducible exact .refl _ _
    | decide
    | split
    | with_reducible apply Frame.after (State.ringRelease_frame ..)

theorem State.tick_frame (s : State) :
    Frame [.ctl, .now, .regs, .active, .shadow, .rings, .eventSeq, .sessions, .sent, .draws, .sieve, .engines, .gf,
        .ride, .sounder, .furrows, .pairs, .pwm, .lanes, .remotes, .shears, .cloche, .time, .harvest, .prior, .net,
        .rst, .slanes, .graft, .runner] s (State.tick s) := by
  unfold State.tick
  try dsimp only
  repeat' first
    | with_reducible exact .refl _ _
    | decide
    | split
    | with_reducible apply Frame.after (State.consume_frame ..)
    | with_reducible apply Frame.after (State.countOn_frame ..)
    | with_reducible apply Frame.after (State.guardSample_frame ..)
    | with_reducible apply Frame.after (State.takeAdmissions_frame ..)
    | with_reducible apply Frame.after (State.transmitNotify_frame ..)
    | with_reducible apply Frame.after (State.transmitUser_frame ..)
    | with_reducible refine Frame.foldl_after _ _ (fun s x => ?_) ?_
    | with_reducible refine Frame.foldl_fst _ _ (fun a x => ?_) ?_

end Sys2Proof.Machine
end

