-- ==== Sys2Proof/Laws/Modes.lean ====
section
/-! SUPPORT. Where the transitions of the mode controller lead, and that each keeps the sub-state one of the mode's own. -/

namespace Sys2Proof.Machine
open State

/-- A frame without the mode keeps the mode and the sub-state. -/
theorem Frame.mode {l : List Part} {s t : State} (h : Frame l s t) (k : Part.mode ∉ l) :
    t.ctl.mode = s.ctl.mode ∧ t.ctl.sub = s.ctl.sub := h.same .mode k

/-- An operation keeps the sub-state one of the mode's own. -/
def KeepsSub (s t : State) : Prop := s.SubInMode → t.SubInMode

theorem KeepsSub.refl (s : State) : KeepsSub s s := id

theorem KeepsSub.trans {a b c : State} (h : KeepsSub a b) (k : KeepsSub b c) : KeepsSub a c := fun x => k (h x)

theorem KeepsSub.of_frame {l : List Part} {s t : State} (h : Frame l s t) (k : Part.mode ∉ l) : KeepsSub s t := by
  intro x
  obtain ⟨a, b⟩ := h.mode k
  unfold SubInMode at *
  rwa [a, b]

/-- The state is in a mode and a sub-state. -/
structure InMode (m : Mode) (b : SubState) (s : State) : Prop where
  mode : s.ctl.mode = m
  sub : s.ctl.sub = b

/-- What follows without touching the mode. -/
theorem InMode.after {l : List Part} {m : Mode} {b : SubState} {s t : State} (h : Frame l s t) (k : Part.mode ∉ l)
    (x : InMode m b s) : InMode m b t := ⟨(h.mode k).1.trans x.mode, (h.mode k).2.trans x.sub⟩

/-- A transition to a mode with a sub-state of that mode. -/
theorem KeepsSub.of_modes {s t : State} {m : Mode} {b : SubState} (h : InMode m b t) (hb : b.inMode m = true) :
    KeepsSub s t := by
  intro _
  unfold SubInMode
  rw [h.mode, h.sub]
  exact hb

theorem KeepsSub.foldl {α : Type} (g : State → α → State) (h : ∀ s x, KeepsSub s (g s x)) (l : List α) (s : State) :
    KeepsSub s (l.foldl g s) := by
  induction l generalizing s with
  | nil => exact .refl s
  | cons x r ih => exact (h s x).trans (ih _)

theorem State.setMode_mode (s : State) (m : Mode) (sub : SubState) (causes : Nat) :
    InMode m sub (s.setMode m sub causes) := by
  unfold State.setMode
  dsimp only
  refine .after (State.event_frame ..) (by decide) ?_
  exact ⟨rfl, rfl⟩

theorem State.goMode_mode (s : State) (m : Mode) (sub : SubState) : InMode m sub (s.goMode m sub) := by
  unfold State.goMode
  exact .after (State.settleMode_frame ..) (by decide) (State.setMode_mode ..)

theorem State.enterWatch_mode (s : State) : InMode .watch .none s.enterWatch := by
  unfold State.enterWatch
  dsimp only
  repeat' first
    | with_reducible exact State.goMode_mode ..
    | decide
    | split
    | with_reducible apply InMode.after (State.joinFormed_frame ..)
    | with_reducible apply InMode.after (State.breakerWatch_frame ..)
    | with_reducible apply InMode.after (State.gateRates_frame ..)
    | with_reducible apply InMode.after (State.stopFast_frame ..)

theorem State.enterHalt_mode (s : State) (c : HaltCause) : InMode .halt .none (s.enterHalt c) := by
  unfold State.enterHalt
  dsimp only
  repeat' first
    | with_reducible exact State.setMode_mode ..
    | decide
    | split
    | with_reducible apply InMode.after (State.dropCause_frame ..)
    | with_reducible apply InMode.after (State.settleMode_frame ..)
    | with_reducible apply InMode.after (State.send_frame ..)
    | with_reducible apply InMode.after (State.netStart_frame ..)
    | with_reducible apply InMode.after (State.stopFast_frame ..)
    | with_reducible apply InMode.after (State.breakerHalt_frame ..)
    | with_reducible apply InMode.after (State.episodeEnd_frame ..)

theorem State.takeCause_keepsSub (s : State) (c : HaltCause) : KeepsSub s (s.takeCause c) := by
  unfold State.takeCause
  split
  · exact .of_frame (State.modCtl_kept _ _ fun _ => ⟨rfl, rfl⟩) (by decide)
  · dsimp only
    split
    · exact .of_frame (State.modCtl_kept _ _ fun _ => ⟨rfl, rfl⟩) (by decide)
    · exact .of_frame (l := [.ctl]) (.after (State.guardReset_frame _) (by decide)
        (State.modCtl_kept _ _ fun _ => ⟨rfl, rfl⟩)) (by decide)
  · exact .of_modes (State.enterHalt_mode s c) rfl

theorem State.takeCauses_keepsSub (s : State) : KeepsSub s s.takeCauses := by
  refine .foldl _ (fun s c => ?_) _ _
  split
  · exact State.takeCause_keepsSub s c
  · exact .refl s

theorem State.leaveDormant_keepsSub (s : State) : KeepsSub s s.leaveDormant := by
  unfold State.leaveDormant
  dsimp only
  split
  · refine .of_modes (m := .watch) (b := .none) ?_ rfl
    exact .after (State.toutPins_frame ..) (by decide) (.after (State.reform_frame ..) (by decide)
      (.after (State.netStart_frame ..) (by decide) (State.goMode_mode ..)))
  · exact .of_modes (.after (State.toutPins_frame ..) (by decide) (State.enterHalt_mode ..)) rfl

theorem State.takeRide_keepsSub (s : State) : KeepsSub s s.takeRide := by
  unfold State.takeRide
  split
  · split
    · refine .of_modes (m := .ride) (b := .none) ?_ rfl
      dsimp only
      repeat' first
        | with_reducible exact State.goMode_mode ..
        | decide
        | split
        | with_reducible apply InMode.after (State.rideEntered_frame ..)
        | with_reducible apply InMode.after (State.event_frame ..)
        | with_reducible apply InMode.after (State.modCtl_kept ..)
        | exact fun _ => ⟨rfl, rfl⟩
    · exact .of_frame (State.modRide_frame ..) (by decide)
  · exact .refl s

theorem State.takeExit_keepsSub (s : State) : KeepsSub s s.takeExit := by
  unfold State.takeExit
  split
  · exact .of_modes (State.enterHalt_mode ..) rfl
  · exact .refl s

theorem State.takeRecovery_keepsSub (s : State) : KeepsSub s s.takeRecovery := by
  unfold State.takeRecovery
  split
  · refine .of_modes (m := .form) (b := .recovering) ?_ rfl
    exact .after (State.rideRecovered_frame ..) (by decide) (State.goMode_mode ..)
  · exact .refl s

theorem State.takeSync_keepsSub (s : State) : KeepsSub s s.takeSync := by
  unfold State.takeSync
  split
  · refine .of_modes (m := .form) (b := .none) ?_ rfl
    exact .after (State.breakerClose_frame ..) (by decide) (.after (State.requestPermission_frame ..) (by decide)
      (State.goMode_mode ..))
  · exact .refl s

theorem State.takeRamp_keepsSub (s : State) : KeepsSub s s.takeRamp := by
  unfold State.takeRamp
  split
  · exact .of_modes (.after (State.event_frame ..) (by decide) (State.goMode_mode ..)) rfl
  · exact .refl s

theorem State.takeAutomatic_keepsSub (s : State) : KeepsSub s s.takeAutomatic :=
  ((((takeSync_keepsSub s).trans (takeRamp_keepsSub _)).trans (takeRide_keepsSub _)).trans (takeExit_keepsSub _)).trans
    (takeRecovery_keepsSub _)

/-- A mode command keeps what its own action keeps. -/
theorem modeCommandAt_keepsSub (req : Requester) (code : Nat) (legal : State → Bool) (own : State → Nat)
    (act : State → State) (h : ∀ s, KeepsSub s (act s)) (s : State) :
    KeepsSub s (modeCommandAt req code legal own act s) := by
  unfold modeCommandAt
  split
  · exact .of_frame (State.commandRefused_frame _ _ _ _) (by decide)
  · split
    · exact (KeepsSub.of_frame (State.refuseMode_frame _ _ _ _) (by decide)).trans
        (.of_frame (State.commandRefused_frame _ _ _ _) (by decide))
    · split
      · exact .of_frame (State.commandRefused_frame _ _ _ _) (by decide)
      · exact (h _).trans ((KeepsSub.of_frame (State.lastCommand_frame _ _ _) (by decide)).trans
          (.of_frame (State.answer_frame _ _ _ _ _) (by decide)))

theorem modeCommand_keepsSub (req : Requester) (code : Nat) (legal : State → Bool) (own : State → Nat)
    (act : State → State) (h : ∀ s, KeepsSub s (act s)) (s : State) :
    KeepsSub s (modeCommand req code legal own act s) := by
  unfold modeCommand
  split
  · exact .refl s
  · exact ((takeCauses_keepsSub s).trans (takeAutomatic_keepsSub _)).trans
      (modeCommandAt_keepsSub req code legal own act h _)

end Sys2Proof.Machine
end

