-- ==== Sys2Proof/Laws/State.lean ====
section
/-! SUPPORT. What each update of the state leaves and sets, field by field, true by definition: no later proof unfolds a
record update. -/

namespace Sys2Proof.Machine.State

/-! ## put -/

section put
variable (s : State) (i k : Nat) (v : Int)

@[simp] theorem put_ctl : (s.put i k v).ctl = s.ctl := rfl
@[simp] theorem put_now : (s.put i k v).now = s.now := rfl
@[simp] theorem put_active : (s.put i k v).active = s.active := rfl
@[simp] theorem put_shadow : (s.put i k v).shadow = s.shadow := rfl
@[simp] theorem put_rings : (s.put i k v).rings = s.rings := rfl
@[simp] theorem put_eventSeq : (s.put i k v).eventSeq = s.eventSeq := rfl
@[simp] theorem put_sessions : (s.put i k v).sessions = s.sessions := rfl
@[simp] theorem put_coreReq : (s.put i k v).coreReq = s.coreReq := rfl
@[simp] theorem put_sent : (s.put i k v).sent = s.sent := rfl
@[simp] theorem put_draws : (s.put i k v).draws = s.draws := rfl
@[simp] theorem put_sieve : (s.put i k v).sieve = s.sieve := rfl
@[simp] theorem put_engines : (s.put i k v).engines = s.engines := rfl
@[simp] theorem put_gf : (s.put i k v).gf = s.gf := rfl
@[simp] theorem put_ride : (s.put i k v).ride = s.ride := rfl
@[simp] theorem put_sounder : (s.put i k v).sounder = s.sounder := rfl
@[simp] theorem put_furrows : (s.put i k v).furrows = s.furrows := rfl
@[simp] theorem put_pairs : (s.put i k v).pairs = s.pairs := rfl
@[simp] theorem put_pwm : (s.put i k v).pwm = s.pwm := rfl
@[simp] theorem put_fltActive : (s.put i k v).fltActive = s.fltActive := rfl
@[simp] theorem put_lanes : (s.put i k v).lanes = s.lanes := rfl
@[simp] theorem put_nodes : (s.put i k v).nodes = s.nodes := rfl
@[simp] theorem put_remotes : (s.put i k v).remotes = s.remotes := rfl
@[simp] theorem put_arms : (s.put i k v).arms = s.arms := rfl
@[simp] theorem put_shears : (s.put i k v).shears = s.shears := rfl
@[simp] theorem put_cloche : (s.put i k v).cloche = s.cloche := rfl
@[simp] theorem put_time : (s.put i k v).time = s.time := rfl
@[simp] theorem put_win : (s.put i k v).win = s.win := rfl
@[simp] theorem put_harvest : (s.put i k v).harvest = s.harvest := rfl
@[simp] theorem put_shared : (s.put i k v).shared = s.shared := rfl
@[simp] theorem put_prior : (s.put i k v).prior = s.prior := rfl
@[simp] theorem put_net : (s.put i k v).net = s.net := rfl
@[simp] theorem put_rst : (s.put i k v).rst = s.rst := rfl
@[simp] theorem put_slanes : (s.put i k v).slanes = s.slanes := rfl
@[simp] theorem put_graft : (s.put i k v).graft = s.graft := rfl
@[simp] theorem put_runner : (s.put i k v).runner = s.runner := rfl
@[simp] theorem put_cores : (s.put i k v).cores = s.cores := rfl
@[simp] theorem put_power : (s.put i k v).power = s.power := rfl
@[simp] theorem put_root : (s.put i k v).root = s.root := rfl
@[simp] theorem put_pending : (s.put i k v).pending = s.pending := rfl

end put

/-! ## putB -/

section putB
variable (s : State) (i k : Nat) (b : Bytes)

@[simp] theorem putB_ctl : (s.putB i k b).ctl = s.ctl := rfl
@[simp] theorem putB_now : (s.putB i k b).now = s.now := rfl
@[simp] theorem putB_active : (s.putB i k b).active = s.active := rfl
@[simp] theorem putB_shadow : (s.putB i k b).shadow = s.shadow := rfl
@[simp] theorem putB_rings : (s.putB i k b).rings = s.rings := rfl
@[simp] theorem putB_eventSeq : (s.putB i k b).eventSeq = s.eventSeq := rfl
@[simp] theorem putB_sessions : (s.putB i k b).sessions = s.sessions := rfl
@[simp] theorem putB_coreReq : (s.putB i k b).coreReq = s.coreReq := rfl
@[simp] theorem putB_sent : (s.putB i k b).sent = s.sent := rfl
@[simp] theorem putB_draws : (s.putB i k b).draws = s.draws := rfl
@[simp] theorem putB_sieve : (s.putB i k b).sieve = s.sieve := rfl
@[simp] theorem putB_engines : (s.putB i k b).engines = s.engines := rfl
@[simp] theorem putB_gf : (s.putB i k b).gf = s.gf := rfl
@[simp] theorem putB_ride : (s.putB i k b).ride = s.ride := rfl
@[simp] theorem putB_sounder : (s.putB i k b).sounder = s.sounder := rfl
@[simp] theorem putB_furrows : (s.putB i k b).furrows = s.furrows := rfl
@[simp] theorem putB_pairs : (s.putB i k b).pairs = s.pairs := rfl
@[simp] theorem putB_pwm : (s.putB i k b).pwm = s.pwm := rfl
@[simp] theorem putB_fltActive : (s.putB i k b).fltActive = s.fltActive := rfl
@[simp] theorem putB_lanes : (s.putB i k b).lanes = s.lanes := rfl
@[simp] theorem putB_nodes : (s.putB i k b).nodes = s.nodes := rfl
@[simp] theorem putB_remotes : (s.putB i k b).remotes = s.remotes := rfl
@[simp] theorem putB_arms : (s.putB i k b).arms = s.arms := rfl
@[simp] theorem putB_shears : (s.putB i k b).shears = s.shears := rfl
@[simp] theorem putB_cloche : (s.putB i k b).cloche = s.cloche := rfl
@[simp] theorem putB_time : (s.putB i k b).time = s.time := rfl
@[simp] theorem putB_win : (s.putB i k b).win = s.win := rfl
@[simp] theorem putB_harvest : (s.putB i k b).harvest = s.harvest := rfl
@[simp] theorem putB_shared : (s.putB i k b).shared = s.shared := rfl
@[simp] theorem putB_prior : (s.putB i k b).prior = s.prior := rfl
@[simp] theorem putB_net : (s.putB i k b).net = s.net := rfl
@[simp] theorem putB_rst : (s.putB i k b).rst = s.rst := rfl
@[simp] theorem putB_slanes : (s.putB i k b).slanes = s.slanes := rfl
@[simp] theorem putB_graft : (s.putB i k b).graft = s.graft := rfl
@[simp] theorem putB_runner : (s.putB i k b).runner = s.runner := rfl
@[simp] theorem putB_cores : (s.putB i k b).cores = s.cores := rfl
@[simp] theorem putB_power : (s.putB i k b).power = s.power := rfl
@[simp] theorem putB_root : (s.putB i k b).root = s.root := rfl
@[simp] theorem putB_pending : (s.putB i k b).pending = s.pending := rfl

end putB

/-! ## putT -/

section putT
variable (s : State) (i k : Nat) (t : ST64)

@[simp] theorem putT_ctl : (s.putT i k t).ctl = s.ctl := rfl
@[simp] theorem putT_now : (s.putT i k t).now = s.now := rfl
@[simp] theorem putT_active : (s.putT i k t).active = s.active := rfl
@[simp] theorem putT_shadow : (s.putT i k t).shadow = s.shadow := rfl
@[simp] theorem putT_rings : (s.putT i k t).rings = s.rings := rfl
@[simp] theorem putT_eventSeq : (s.putT i k t).eventSeq = s.eventSeq := rfl
@[simp] theorem putT_sessions : (s.putT i k t).sessions = s.sessions := rfl
@[simp] theorem putT_coreReq : (s.putT i k t).coreReq = s.coreReq := rfl
@[simp] theorem putT_sent : (s.putT i k t).sent = s.sent := rfl
@[simp] theorem putT_draws : (s.putT i k t).draws = s.draws := rfl
@[simp] theorem putT_sieve : (s.putT i k t).sieve = s.sieve := rfl
@[simp] theorem putT_engines : (s.putT i k t).engines = s.engines := rfl
@[simp] theorem putT_gf : (s.putT i k t).gf = s.gf := rfl
@[simp] theorem putT_ride : (s.putT i k t).ride = s.ride := rfl
@[simp] theorem putT_sounder : (s.putT i k t).sounder = s.sounder := rfl
@[simp] theorem putT_furrows : (s.putT i k t).furrows = s.furrows := rfl
@[simp] theorem putT_pairs : (s.putT i k t).pairs = s.pairs := rfl
@[simp] theorem putT_pwm : (s.putT i k t).pwm = s.pwm := rfl
@[simp] theorem putT_fltActive : (s.putT i k t).fltActive = s.fltActive := rfl
@[simp] theorem putT_lanes : (s.putT i k t).lanes = s.lanes := rfl
@[simp] theorem putT_nodes : (s.putT i k t).nodes = s.nodes := rfl
@[simp] theorem putT_remotes : (s.putT i k t).remotes = s.remotes := rfl
@[simp] theorem putT_arms : (s.putT i k t).arms = s.arms := rfl
@[simp] theorem putT_shears : (s.putT i k t).shears = s.shears := rfl
@[simp] theorem putT_cloche : (s.putT i k t).cloche = s.cloche := rfl
@[simp] theorem putT_time : (s.putT i k t).time = s.time := rfl
@[simp] theorem putT_win : (s.putT i k t).win = s.win := rfl
@[simp] theorem putT_harvest : (s.putT i k t).harvest = s.harvest := rfl
@[simp] theorem putT_shared : (s.putT i k t).shared = s.shared := rfl
@[simp] theorem putT_prior : (s.putT i k t).prior = s.prior := rfl
@[simp] theorem putT_net : (s.putT i k t).net = s.net := rfl
@[simp] theorem putT_rst : (s.putT i k t).rst = s.rst := rfl
@[simp] theorem putT_slanes : (s.putT i k t).slanes = s.slanes := rfl
@[simp] theorem putT_graft : (s.putT i k t).graft = s.graft := rfl
@[simp] theorem putT_runner : (s.putT i k t).runner = s.runner := rfl
@[simp] theorem putT_cores : (s.putT i k t).cores = s.cores := rfl
@[simp] theorem putT_power : (s.putT i k t).power = s.power := rfl
@[simp] theorem putT_root : (s.putT i k t).root = s.root := rfl
@[simp] theorem putT_pending : (s.putT i k t).pending = s.pending := rfl

end putT

/-! ## putV -/

section putV
variable (s : State) (i k : Nat) (v : DVal)

@[simp] theorem putV_ctl : (s.putV i k v).ctl = s.ctl := rfl
@[simp] theorem putV_now : (s.putV i k v).now = s.now := rfl
@[simp] theorem putV_active : (s.putV i k v).active = s.active := rfl
@[simp] theorem putV_shadow : (s.putV i k v).shadow = s.shadow := rfl
@[simp] theorem putV_rings : (s.putV i k v).rings = s.rings := rfl
@[simp] theorem putV_eventSeq : (s.putV i k v).eventSeq = s.eventSeq := rfl
@[simp] theorem putV_sessions : (s.putV i k v).sessions = s.sessions := rfl
@[simp] theorem putV_coreReq : (s.putV i k v).coreReq = s.coreReq := rfl
@[simp] theorem putV_sent : (s.putV i k v).sent = s.sent := rfl
@[simp] theorem putV_draws : (s.putV i k v).draws = s.draws := rfl
@[simp] theorem putV_sieve : (s.putV i k v).sieve = s.sieve := rfl
@[simp] theorem putV_engines : (s.putV i k v).engines = s.engines := rfl
@[simp] theorem putV_gf : (s.putV i k v).gf = s.gf := rfl
@[simp] theorem putV_ride : (s.putV i k v).ride = s.ride := rfl
@[simp] theorem putV_sounder : (s.putV i k v).sounder = s.sounder := rfl
@[simp] theorem putV_furrows : (s.putV i k v).furrows = s.furrows := rfl
@[simp] theorem putV_pairs : (s.putV i k v).pairs = s.pairs := rfl
@[simp] theorem putV_pwm : (s.putV i k v).pwm = s.pwm := rfl
@[simp] theorem putV_fltActive : (s.putV i k v).fltActive = s.fltActive := rfl
@[simp] theorem putV_lanes : (s.putV i k v).lanes = s.lanes := rfl
@[simp] theorem putV_nodes : (s.putV i k v).nodes = s.nodes := rfl
@[simp] theorem putV_remotes : (s.putV i k v).remotes = s.remotes := rfl
@[simp] theorem putV_arms : (s.putV i k v).arms = s.arms := rfl
@[simp] theorem putV_shears : (s.putV i k v).shears = s.shears := rfl
@[simp] theorem putV_cloche : (s.putV i k v).cloche = s.cloche := rfl
@[simp] theorem putV_time : (s.putV i k v).time = s.time := rfl
@[simp] theorem putV_win : (s.putV i k v).win = s.win := rfl
@[simp] theorem putV_harvest : (s.putV i k v).harvest = s.harvest := rfl
@[simp] theorem putV_shared : (s.putV i k v).shared = s.shared := rfl
@[simp] theorem putV_prior : (s.putV i k v).prior = s.prior := rfl
@[simp] theorem putV_net : (s.putV i k v).net = s.net := rfl
@[simp] theorem putV_rst : (s.putV i k v).rst = s.rst := rfl
@[simp] theorem putV_slanes : (s.putV i k v).slanes = s.slanes := rfl
@[simp] theorem putV_graft : (s.putV i k v).graft = s.graft := rfl
@[simp] theorem putV_runner : (s.putV i k v).runner = s.runner := rfl
@[simp] theorem putV_cores : (s.putV i k v).cores = s.cores := rfl
@[simp] theorem putV_power : (s.putV i k v).power = s.power := rfl
@[simp] theorem putV_root : (s.putV i k v).root = s.root := rfl
@[simp] theorem putV_pending : (s.putV i k v).pending = s.pending := rfl

end putV

/-! ## putCfg -/

section putCfg
variable (s : State) (i k : Nat) (v : Int)

@[simp] theorem putCfg_ctl : (s.putCfg i k v).ctl = s.ctl := rfl
@[simp] theorem putCfg_now : (s.putCfg i k v).now = s.now := rfl
@[simp] theorem putCfg_regs : (s.putCfg i k v).regs = s.regs := rfl
@[simp] theorem putCfg_shadow : (s.putCfg i k v).shadow = s.shadow := rfl
@[simp] theorem putCfg_rings : (s.putCfg i k v).rings = s.rings := rfl
@[simp] theorem putCfg_eventSeq : (s.putCfg i k v).eventSeq = s.eventSeq := rfl
@[simp] theorem putCfg_sessions : (s.putCfg i k v).sessions = s.sessions := rfl
@[simp] theorem putCfg_coreReq : (s.putCfg i k v).coreReq = s.coreReq := rfl
@[simp] theorem putCfg_sent : (s.putCfg i k v).sent = s.sent := rfl
@[simp] theorem putCfg_draws : (s.putCfg i k v).draws = s.draws := rfl
@[simp] theorem putCfg_sieve : (s.putCfg i k v).sieve = s.sieve := rfl
@[simp] theorem putCfg_engines : (s.putCfg i k v).engines = s.engines := rfl
@[simp] theorem putCfg_gf : (s.putCfg i k v).gf = s.gf := rfl
@[simp] theorem putCfg_ride : (s.putCfg i k v).ride = s.ride := rfl
@[simp] theorem putCfg_sounder : (s.putCfg i k v).sounder = s.sounder := rfl
@[simp] theorem putCfg_furrows : (s.putCfg i k v).furrows = s.furrows := rfl
@[simp] theorem putCfg_pairs : (s.putCfg i k v).pairs = s.pairs := rfl
@[simp] theorem putCfg_pwm : (s.putCfg i k v).pwm = s.pwm := rfl
@[simp] theorem putCfg_fltActive : (s.putCfg i k v).fltActive = s.fltActive := rfl
@[simp] theorem putCfg_lanes : (s.putCfg i k v).lanes = s.lanes := rfl
@[simp] theorem putCfg_nodes : (s.putCfg i k v).nodes = s.nodes := rfl
@[simp] theorem putCfg_remotes : (s.putCfg i k v).remotes = s.remotes := rfl
@[simp] theorem putCfg_arms : (s.putCfg i k v).arms = s.arms := rfl
@[simp] theorem putCfg_shears : (s.putCfg i k v).shears = s.shears := rfl
@[simp] theorem putCfg_cloche : (s.putCfg i k v).cloche = s.cloche := rfl
@[simp] theorem putCfg_time : (s.putCfg i k v).time = s.time := rfl
@[simp] theorem putCfg_win : (s.putCfg i k v).win = s.win := rfl
@[simp] theorem putCfg_harvest : (s.putCfg i k v).harvest = s.harvest := rfl
@[simp] theorem putCfg_shared : (s.putCfg i k v).shared = s.shared := rfl
@[simp] theorem putCfg_prior : (s.putCfg i k v).prior = s.prior := rfl
@[simp] theorem putCfg_net : (s.putCfg i k v).net = s.net := rfl
@[simp] theorem putCfg_rst : (s.putCfg i k v).rst = s.rst := rfl
@[simp] theorem putCfg_slanes : (s.putCfg i k v).slanes = s.slanes := rfl
@[simp] theorem putCfg_graft : (s.putCfg i k v).graft = s.graft := rfl
@[simp] theorem putCfg_runner : (s.putCfg i k v).runner = s.runner := rfl
@[simp] theorem putCfg_cores : (s.putCfg i k v).cores = s.cores := rfl
@[simp] theorem putCfg_power : (s.putCfg i k v).power = s.power := rfl
@[simp] theorem putCfg_root : (s.putCfg i k v).root = s.root := rfl
@[simp] theorem putCfg_pending : (s.putCfg i k v).pending = s.pending := rfl

end putCfg

/-! ## countBy -/

section countBy
variable (s : State) (bits i k : Nat) (n : Int)

@[simp] theorem countBy_ctl : (s.countBy bits i k n).ctl = s.ctl := rfl
@[simp] theorem countBy_now : (s.countBy bits i k n).now = s.now := rfl
@[simp] theorem countBy_active : (s.countBy bits i k n).active = s.active := rfl
@[simp] theorem countBy_shadow : (s.countBy bits i k n).shadow = s.shadow := rfl
@[simp] theorem countBy_rings : (s.countBy bits i k n).rings = s.rings := rfl
@[simp] theorem countBy_eventSeq : (s.countBy bits i k n).eventSeq = s.eventSeq := rfl
@[simp] theorem countBy_sessions : (s.countBy bits i k n).sessions = s.sessions := rfl
@[simp] theorem countBy_coreReq : (s.countBy bits i k n).coreReq = s.coreReq := rfl
@[simp] theorem countBy_sent : (s.countBy bits i k n).sent = s.sent := rfl
@[simp] theorem countBy_draws : (s.countBy bits i k n).draws = s.draws := rfl
@[simp] theorem countBy_sieve : (s.countBy bits i k n).sieve = s.sieve := rfl
@[simp] theorem countBy_engines : (s.countBy bits i k n).engines = s.engines := rfl
@[simp] theorem countBy_gf : (s.countBy bits i k n).gf = s.gf := rfl
@[simp] theorem countBy_ride : (s.countBy bits i k n).ride = s.ride := rfl
@[simp] theorem countBy_sounder : (s.countBy bits i k n).sounder = s.sounder := rfl
@[simp] theorem countBy_furrows : (s.countBy bits i k n).furrows = s.furrows := rfl
@[simp] theorem countBy_pairs : (s.countBy bits i k n).pairs = s.pairs := rfl
@[simp] theorem countBy_pwm : (s.countBy bits i k n).pwm = s.pwm := rfl
@[simp] theorem countBy_fltActive : (s.countBy bits i k n).fltActive = s.fltActive := rfl
@[simp] theorem countBy_lanes : (s.countBy bits i k n).lanes = s.lanes := rfl
@[simp] theorem countBy_nodes : (s.countBy bits i k n).nodes = s.nodes := rfl
@[simp] theorem countBy_remotes : (s.countBy bits i k n).remotes = s.remotes := rfl
@[simp] theorem countBy_arms : (s.countBy bits i k n).arms = s.arms := rfl
@[simp] theorem countBy_shears : (s.countBy bits i k n).shears = s.shears := rfl
@[simp] theorem countBy_cloche : (s.countBy bits i k n).cloche = s.cloche := rfl
@[simp] theorem countBy_time : (s.countBy bits i k n).time = s.time := rfl
@[simp] theorem countBy_win : (s.countBy bits i k n).win = s.win := rfl
@[simp] theorem countBy_harvest : (s.countBy bits i k n).harvest = s.harvest := rfl
@[simp] theorem countBy_shared : (s.countBy bits i k n).shared = s.shared := rfl
@[simp] theorem countBy_prior : (s.countBy bits i k n).prior = s.prior := rfl
@[simp] theorem countBy_net : (s.countBy bits i k n).net = s.net := rfl
@[simp] theorem countBy_rst : (s.countBy bits i k n).rst = s.rst := rfl
@[simp] theorem countBy_slanes : (s.countBy bits i k n).slanes = s.slanes := rfl
@[simp] theorem countBy_graft : (s.countBy bits i k n).graft = s.graft := rfl
@[simp] theorem countBy_runner : (s.countBy bits i k n).runner = s.runner := rfl
@[simp] theorem countBy_cores : (s.countBy bits i k n).cores = s.cores := rfl
@[simp] theorem countBy_power : (s.countBy bits i k n).power = s.power := rfl
@[simp] theorem countBy_root : (s.countBy bits i k n).root = s.root := rfl
@[simp] theorem countBy_pending : (s.countBy bits i k n).pending = s.pending := rfl

end countBy

/-! ## count -/

section count
variable (s : State) (i k : Nat)

@[simp] theorem count_ctl : (s.count i k).ctl = s.ctl := rfl
@[simp] theorem count_now : (s.count i k).now = s.now := rfl
@[simp] theorem count_active : (s.count i k).active = s.active := rfl
@[simp] theorem count_shadow : (s.count i k).shadow = s.shadow := rfl
@[simp] theorem count_rings : (s.count i k).rings = s.rings := rfl
@[simp] theorem count_eventSeq : (s.count i k).eventSeq = s.eventSeq := rfl
@[simp] theorem count_sessions : (s.count i k).sessions = s.sessions := rfl
@[simp] theorem count_coreReq : (s.count i k).coreReq = s.coreReq := rfl
@[simp] theorem count_sent : (s.count i k).sent = s.sent := rfl
@[simp] theorem count_draws : (s.count i k).draws = s.draws := rfl
@[simp] theorem count_sieve : (s.count i k).sieve = s.sieve := rfl
@[simp] theorem count_engines : (s.count i k).engines = s.engines := rfl
@[simp] theorem count_gf : (s.count i k).gf = s.gf := rfl
@[simp] theorem count_ride : (s.count i k).ride = s.ride := rfl
@[simp] theorem count_sounder : (s.count i k).sounder = s.sounder := rfl
@[simp] theorem count_furrows : (s.count i k).furrows = s.furrows := rfl
@[simp] theorem count_pairs : (s.count i k).pairs = s.pairs := rfl
@[simp] theorem count_pwm : (s.count i k).pwm = s.pwm := rfl
@[simp] theorem count_fltActive : (s.count i k).fltActive = s.fltActive := rfl
@[simp] theorem count_lanes : (s.count i k).lanes = s.lanes := rfl
@[simp] theorem count_nodes : (s.count i k).nodes = s.nodes := rfl
@[simp] theorem count_remotes : (s.count i k).remotes = s.remotes := rfl
@[simp] theorem count_arms : (s.count i k).arms = s.arms := rfl
@[simp] theorem count_shears : (s.count i k).shears = s.shears := rfl
@[simp] theorem count_cloche : (s.count i k).cloche = s.cloche := rfl
@[simp] theorem count_time : (s.count i k).time = s.time := rfl
@[simp] theorem count_win : (s.count i k).win = s.win := rfl
@[simp] theorem count_harvest : (s.count i k).harvest = s.harvest := rfl
@[simp] theorem count_shared : (s.count i k).shared = s.shared := rfl
@[simp] theorem count_prior : (s.count i k).prior = s.prior := rfl
@[simp] theorem count_net : (s.count i k).net = s.net := rfl
@[simp] theorem count_rst : (s.count i k).rst = s.rst := rfl
@[simp] theorem count_slanes : (s.count i k).slanes = s.slanes := rfl
@[simp] theorem count_graft : (s.count i k).graft = s.graft := rfl
@[simp] theorem count_runner : (s.count i k).runner = s.runner := rfl
@[simp] theorem count_cores : (s.count i k).cores = s.cores := rfl
@[simp] theorem count_power : (s.count i k).power = s.power := rfl
@[simp] theorem count_root : (s.count i k).root = s.root := rfl
@[simp] theorem count_pending : (s.count i k).pending = s.pending := rfl

end count

/-! ## flag -/

section flag
variable (s : State) (i k b : Nat)

@[simp] theorem flag_ctl : (s.flag i k b).ctl = s.ctl := rfl
@[simp] theorem flag_now : (s.flag i k b).now = s.now := rfl
@[simp] theorem flag_active : (s.flag i k b).active = s.active := rfl
@[simp] theorem flag_shadow : (s.flag i k b).shadow = s.shadow := rfl
@[simp] theorem flag_rings : (s.flag i k b).rings = s.rings := rfl
@[simp] theorem flag_eventSeq : (s.flag i k b).eventSeq = s.eventSeq := rfl
@[simp] theorem flag_sessions : (s.flag i k b).sessions = s.sessions := rfl
@[simp] theorem flag_coreReq : (s.flag i k b).coreReq = s.coreReq := rfl
@[simp] theorem flag_sent : (s.flag i k b).sent = s.sent := rfl
@[simp] theorem flag_draws : (s.flag i k b).draws = s.draws := rfl
@[simp] theorem flag_sieve : (s.flag i k b).sieve = s.sieve := rfl
@[simp] theorem flag_engines : (s.flag i k b).engines = s.engines := rfl
@[simp] theorem flag_gf : (s.flag i k b).gf = s.gf := rfl
@[simp] theorem flag_ride : (s.flag i k b).ride = s.ride := rfl
@[simp] theorem flag_sounder : (s.flag i k b).sounder = s.sounder := rfl
@[simp] theorem flag_furrows : (s.flag i k b).furrows = s.furrows := rfl
@[simp] theorem flag_pairs : (s.flag i k b).pairs = s.pairs := rfl
@[simp] theorem flag_pwm : (s.flag i k b).pwm = s.pwm := rfl
@[simp] theorem flag_fltActive : (s.flag i k b).fltActive = s.fltActive := rfl
@[simp] theorem flag_lanes : (s.flag i k b).lanes = s.lanes := rfl
@[simp] theorem flag_nodes : (s.flag i k b).nodes = s.nodes := rfl
@[simp] theorem flag_remotes : (s.flag i k b).remotes = s.remotes := rfl
@[simp] theorem flag_arms : (s.flag i k b).arms = s.arms := rfl
@[simp] theorem flag_shears : (s.flag i k b).shears = s.shears := rfl
@[simp] theorem flag_cloche : (s.flag i k b).cloche = s.cloche := rfl
@[simp] theorem flag_time : (s.flag i k b).time = s.time := rfl
@[simp] theorem flag_win : (s.flag i k b).win = s.win := rfl
@[simp] theorem flag_harvest : (s.flag i k b).harvest = s.harvest := rfl
@[simp] theorem flag_shared : (s.flag i k b).shared = s.shared := rfl
@[simp] theorem flag_prior : (s.flag i k b).prior = s.prior := rfl
@[simp] theorem flag_net : (s.flag i k b).net = s.net := rfl
@[simp] theorem flag_rst : (s.flag i k b).rst = s.rst := rfl
@[simp] theorem flag_slanes : (s.flag i k b).slanes = s.slanes := rfl
@[simp] theorem flag_graft : (s.flag i k b).graft = s.graft := rfl
@[simp] theorem flag_runner : (s.flag i k b).runner = s.runner := rfl
@[simp] theorem flag_cores : (s.flag i k b).cores = s.cores := rfl
@[simp] theorem flag_power : (s.flag i k b).power = s.power := rfl
@[simp] theorem flag_root : (s.flag i k b).root = s.root := rfl
@[simp] theorem flag_pending : (s.flag i k b).pending = s.pending := rfl

end flag

/-! ## advance -/

section advance
variable (s : State) (i k : Nat)

@[simp] theorem advance_ctl : (s.advance i k).ctl = s.ctl := rfl
@[simp] theorem advance_now : (s.advance i k).now = s.now := rfl
@[simp] theorem advance_active : (s.advance i k).active = s.active := rfl
@[simp] theorem advance_shadow : (s.advance i k).shadow = s.shadow := rfl
@[simp] theorem advance_rings : (s.advance i k).rings = s.rings := rfl
@[simp] theorem advance_eventSeq : (s.advance i k).eventSeq = s.eventSeq := rfl
@[simp] theorem advance_sessions : (s.advance i k).sessions = s.sessions := rfl
@[simp] theorem advance_coreReq : (s.advance i k).coreReq = s.coreReq := rfl
@[simp] theorem advance_sent : (s.advance i k).sent = s.sent := rfl
@[simp] theorem advance_draws : (s.advance i k).draws = s.draws := rfl
@[simp] theorem advance_sieve : (s.advance i k).sieve = s.sieve := rfl
@[simp] theorem advance_engines : (s.advance i k).engines = s.engines := rfl
@[simp] theorem advance_gf : (s.advance i k).gf = s.gf := rfl
@[simp] theorem advance_ride : (s.advance i k).ride = s.ride := rfl
@[simp] theorem advance_sounder : (s.advance i k).sounder = s.sounder := rfl
@[simp] theorem advance_furrows : (s.advance i k).furrows = s.furrows := rfl
@[simp] theorem advance_pairs : (s.advance i k).pairs = s.pairs := rfl
@[simp] theorem advance_pwm : (s.advance i k).pwm = s.pwm := rfl
@[simp] theorem advance_fltActive : (s.advance i k).fltActive = s.fltActive := rfl
@[simp] theorem advance_lanes : (s.advance i k).lanes = s.lanes := rfl
@[simp] theorem advance_nodes : (s.advance i k).nodes = s.nodes := rfl
@[simp] theorem advance_remotes : (s.advance i k).remotes = s.remotes := rfl
@[simp] theorem advance_arms : (s.advance i k).arms = s.arms := rfl
@[simp] theorem advance_shears : (s.advance i k).shears = s.shears := rfl
@[simp] theorem advance_cloche : (s.advance i k).cloche = s.cloche := rfl
@[simp] theorem advance_time : (s.advance i k).time = s.time := rfl
@[simp] theorem advance_win : (s.advance i k).win = s.win := rfl
@[simp] theorem advance_harvest : (s.advance i k).harvest = s.harvest := rfl
@[simp] theorem advance_shared : (s.advance i k).shared = s.shared := rfl
@[simp] theorem advance_prior : (s.advance i k).prior = s.prior := rfl
@[simp] theorem advance_net : (s.advance i k).net = s.net := rfl
@[simp] theorem advance_rst : (s.advance i k).rst = s.rst := rfl
@[simp] theorem advance_slanes : (s.advance i k).slanes = s.slanes := rfl
@[simp] theorem advance_graft : (s.advance i k).graft = s.graft := rfl
@[simp] theorem advance_runner : (s.advance i k).runner = s.runner := rfl
@[simp] theorem advance_cores : (s.advance i k).cores = s.cores := rfl
@[simp] theorem advance_power : (s.advance i k).power = s.power := rfl
@[simp] theorem advance_root : (s.advance i k).root = s.root := rfl
@[simp] theorem advance_pending : (s.advance i k).pending = s.pending := rfl

end advance

/-! ## send -/

section send
variable (s : State) (m : Sent)

@[simp] theorem send_ctl : (s.send m).ctl = s.ctl := rfl
@[simp] theorem send_now : (s.send m).now = s.now := rfl
@[simp] theorem send_regs : (s.send m).regs = s.regs := rfl
@[simp] theorem send_active : (s.send m).active = s.active := rfl
@[simp] theorem send_shadow : (s.send m).shadow = s.shadow := rfl
@[simp] theorem send_rings : (s.send m).rings = s.rings := rfl
@[simp] theorem send_eventSeq : (s.send m).eventSeq = s.eventSeq := rfl
@[simp] theorem send_sessions : (s.send m).sessions = s.sessions := rfl
@[simp] theorem send_coreReq : (s.send m).coreReq = s.coreReq := rfl
@[simp] theorem send_draws : (s.send m).draws = s.draws := rfl
@[simp] theorem send_sieve : (s.send m).sieve = s.sieve := rfl
@[simp] theorem send_engines : (s.send m).engines = s.engines := rfl
@[simp] theorem send_gf : (s.send m).gf = s.gf := rfl
@[simp] theorem send_ride : (s.send m).ride = s.ride := rfl
@[simp] theorem send_sounder : (s.send m).sounder = s.sounder := rfl
@[simp] theorem send_furrows : (s.send m).furrows = s.furrows := rfl
@[simp] theorem send_pairs : (s.send m).pairs = s.pairs := rfl
@[simp] theorem send_pwm : (s.send m).pwm = s.pwm := rfl
@[simp] theorem send_fltActive : (s.send m).fltActive = s.fltActive := rfl
@[simp] theorem send_lanes : (s.send m).lanes = s.lanes := rfl
@[simp] theorem send_nodes : (s.send m).nodes = s.nodes := rfl
@[simp] theorem send_remotes : (s.send m).remotes = s.remotes := rfl
@[simp] theorem send_arms : (s.send m).arms = s.arms := rfl
@[simp] theorem send_shears : (s.send m).shears = s.shears := rfl
@[simp] theorem send_cloche : (s.send m).cloche = s.cloche := rfl
@[simp] theorem send_time : (s.send m).time = s.time := rfl
@[simp] theorem send_win : (s.send m).win = s.win := rfl
@[simp] theorem send_harvest : (s.send m).harvest = s.harvest := rfl
@[simp] theorem send_shared : (s.send m).shared = s.shared := rfl
@[simp] theorem send_prior : (s.send m).prior = s.prior := rfl
@[simp] theorem send_net : (s.send m).net = s.net := rfl
@[simp] theorem send_rst : (s.send m).rst = s.rst := rfl
@[simp] theorem send_slanes : (s.send m).slanes = s.slanes := rfl
@[simp] theorem send_graft : (s.send m).graft = s.graft := rfl
@[simp] theorem send_cores : (s.send m).cores = s.cores := rfl
@[simp] theorem send_power : (s.send m).power = s.power := rfl
@[simp] theorem send_root : (s.send m).root = s.root := rfl
@[simp] theorem send_pending : (s.send m).pending = s.pending := rfl
@[simp] theorem send_sent : (s.send m).sent = m :: s.sent := rfl

end send

/-! ## modCtl -/

section modCtl
variable (s : State) (g : Ctl → Ctl)

@[simp] theorem modCtl_now : (s.modCtl g).now = s.now := rfl
@[simp] theorem modCtl_regs : (s.modCtl g).regs = s.regs := rfl
@[simp] theorem modCtl_active : (s.modCtl g).active = s.active := rfl
@[simp] theorem modCtl_shadow : (s.modCtl g).shadow = s.shadow := rfl
@[simp] theorem modCtl_rings : (s.modCtl g).rings = s.rings := rfl
@[simp] theorem modCtl_eventSeq : (s.modCtl g).eventSeq = s.eventSeq := rfl
@[simp] theorem modCtl_sessions : (s.modCtl g).sessions = s.sessions := rfl
@[simp] theorem modCtl_coreReq : (s.modCtl g).coreReq = s.coreReq := rfl
@[simp] theorem modCtl_sent : (s.modCtl g).sent = s.sent := rfl
@[simp] theorem modCtl_draws : (s.modCtl g).draws = s.draws := rfl
@[simp] theorem modCtl_sieve : (s.modCtl g).sieve = s.sieve := rfl
@[simp] theorem modCtl_engines : (s.modCtl g).engines = s.engines := rfl
@[simp] theorem modCtl_gf : (s.modCtl g).gf = s.gf := rfl
@[simp] theorem modCtl_ride : (s.modCtl g).ride = s.ride := rfl
@[simp] theorem modCtl_sounder : (s.modCtl g).sounder = s.sounder := rfl
@[simp] theorem modCtl_furrows : (s.modCtl g).furrows = s.furrows := rfl
@[simp] theorem modCtl_pairs : (s.modCtl g).pairs = s.pairs := rfl
@[simp] theorem modCtl_pwm : (s.modCtl g).pwm = s.pwm := rfl
@[simp] theorem modCtl_fltActive : (s.modCtl g).fltActive = s.fltActive := rfl
@[simp] theorem modCtl_lanes : (s.modCtl g).lanes = s.lanes := rfl
@[simp] theorem modCtl_nodes : (s.modCtl g).nodes = s.nodes := rfl
@[simp] theorem modCtl_remotes : (s.modCtl g).remotes = s.remotes := rfl
@[simp] theorem modCtl_arms : (s.modCtl g).arms = s.arms := rfl
@[simp] theorem modCtl_shears : (s.modCtl g).shears = s.shears := rfl
@[simp] theorem modCtl_cloche : (s.modCtl g).cloche = s.cloche := rfl
@[simp] theorem modCtl_time : (s.modCtl g).time = s.time := rfl
@[simp] theorem modCtl_win : (s.modCtl g).win = s.win := rfl
@[simp] theorem modCtl_harvest : (s.modCtl g).harvest = s.harvest := rfl
@[simp] theorem modCtl_shared : (s.modCtl g).shared = s.shared := rfl
@[simp] theorem modCtl_prior : (s.modCtl g).prior = s.prior := rfl
@[simp] theorem modCtl_net : (s.modCtl g).net = s.net := rfl
@[simp] theorem modCtl_rst : (s.modCtl g).rst = s.rst := rfl
@[simp] theorem modCtl_slanes : (s.modCtl g).slanes = s.slanes := rfl
@[simp] theorem modCtl_graft : (s.modCtl g).graft = s.graft := rfl
@[simp] theorem modCtl_runner : (s.modCtl g).runner = s.runner := rfl
@[simp] theorem modCtl_cores : (s.modCtl g).cores = s.cores := rfl
@[simp] theorem modCtl_power : (s.modCtl g).power = s.power := rfl
@[simp] theorem modCtl_root : (s.modCtl g).root = s.root := rfl
@[simp] theorem modCtl_pending : (s.modCtl g).pending = s.pending := rfl
@[simp] theorem modCtl_ctl : (s.modCtl g).ctl = g s.ctl := rfl

end modCtl

/-! ## modRunner -/

section modRunner
variable (s : State) (g : RunnerUnit → RunnerUnit)

@[simp] theorem modRunner_ctl : (s.modRunner g).ctl = s.ctl := rfl
@[simp] theorem modRunner_now : (s.modRunner g).now = s.now := rfl
@[simp] theorem modRunner_regs : (s.modRunner g).regs = s.regs := rfl
@[simp] theorem modRunner_active : (s.modRunner g).active = s.active := rfl
@[simp] theorem modRunner_shadow : (s.modRunner g).shadow = s.shadow := rfl
@[simp] theorem modRunner_rings : (s.modRunner g).rings = s.rings := rfl
@[simp] theorem modRunner_eventSeq : (s.modRunner g).eventSeq = s.eventSeq := rfl
@[simp] theorem modRunner_sessions : (s.modRunner g).sessions = s.sessions := rfl
@[simp] theorem modRunner_coreReq : (s.modRunner g).coreReq = s.coreReq := rfl
@[simp] theorem modRunner_sent : (s.modRunner g).sent = s.sent := rfl
@[simp] theorem modRunner_draws : (s.modRunner g).draws = s.draws := rfl
@[simp] theorem modRunner_sieve : (s.modRunner g).sieve = s.sieve := rfl
@[simp] theorem modRunner_engines : (s.modRunner g).engines = s.engines := rfl
@[simp] theorem modRunner_gf : (s.modRunner g).gf = s.gf := rfl
@[simp] theorem modRunner_ride : (s.modRunner g).ride = s.ride := rfl
@[simp] theorem modRunner_sounder : (s.modRunner g).sounder = s.sounder := rfl
@[simp] theorem modRunner_furrows : (s.modRunner g).furrows = s.furrows := rfl
@[simp] theorem modRunner_pairs : (s.modRunner g).pairs = s.pairs := rfl
@[simp] theorem modRunner_pwm : (s.modRunner g).pwm = s.pwm := rfl
@[simp] theorem modRunner_fltActive : (s.modRunner g).fltActive = s.fltActive := rfl
@[simp] theorem modRunner_lanes : (s.modRunner g).lanes = s.lanes := rfl
@[simp] theorem modRunner_nodes : (s.modRunner g).nodes = s.nodes := rfl
@[simp] theorem modRunner_remotes : (s.modRunner g).remotes = s.remotes := rfl
@[simp] theorem modRunner_arms : (s.modRunner g).arms = s.arms := rfl
@[simp] theorem modRunner_shears : (s.modRunner g).shears = s.shears := rfl
@[simp] theorem modRunner_cloche : (s.modRunner g).cloche = s.cloche := rfl
@[simp] theorem modRunner_time : (s.modRunner g).time = s.time := rfl
@[simp] theorem modRunner_win : (s.modRunner g).win = s.win := rfl
@[simp] theorem modRunner_harvest : (s.modRunner g).harvest = s.harvest := rfl
@[simp] theorem modRunner_shared : (s.modRunner g).shared = s.shared := rfl
@[simp] theorem modRunner_prior : (s.modRunner g).prior = s.prior := rfl
@[simp] theorem modRunner_net : (s.modRunner g).net = s.net := rfl
@[simp] theorem modRunner_rst : (s.modRunner g).rst = s.rst := rfl
@[simp] theorem modRunner_slanes : (s.modRunner g).slanes = s.slanes := rfl
@[simp] theorem modRunner_graft : (s.modRunner g).graft = s.graft := rfl
@[simp] theorem modRunner_cores : (s.modRunner g).cores = s.cores := rfl
@[simp] theorem modRunner_power : (s.modRunner g).power = s.power := rfl
@[simp] theorem modRunner_root : (s.modRunner g).root = s.root := rfl
@[simp] theorem modRunner_pending : (s.modRunner g).pending = s.pending := rfl
@[simp] theorem modRunner_runner : (s.modRunner g).runner = g s.runner := rfl

end modRunner

/-! ## modCloche -/

section modCloche
variable (s : State) (g : Cloche → Cloche)

@[simp] theorem modCloche_ctl : (s.modCloche g).ctl = s.ctl := rfl
@[simp] theorem modCloche_now : (s.modCloche g).now = s.now := rfl
@[simp] theorem modCloche_regs : (s.modCloche g).regs = s.regs := rfl
@[simp] theorem modCloche_active : (s.modCloche g).active = s.active := rfl
@[simp] theorem modCloche_shadow : (s.modCloche g).shadow = s.shadow := rfl
@[simp] theorem modCloche_rings : (s.modCloche g).rings = s.rings := rfl
@[simp] theorem modCloche_eventSeq : (s.modCloche g).eventSeq = s.eventSeq := rfl
@[simp] theorem modCloche_sessions : (s.modCloche g).sessions = s.sessions := rfl
@[simp] theorem modCloche_coreReq : (s.modCloche g).coreReq = s.coreReq := rfl
@[simp] theorem modCloche_sent : (s.modCloche g).sent = s.sent := rfl
@[simp] theorem modCloche_draws : (s.modCloche g).draws = s.draws := rfl
@[simp] theorem modCloche_sieve : (s.modCloche g).sieve = s.sieve := rfl
@[simp] theorem modCloche_engines : (s.modCloche g).engines = s.engines := rfl
@[simp] theorem modCloche_gf : (s.modCloche g).gf = s.gf := rfl
@[simp] theorem modCloche_ride : (s.modCloche g).ride = s.ride := rfl
@[simp] theorem modCloche_sounder : (s.modCloche g).sounder = s.sounder := rfl
@[simp] theorem modCloche_furrows : (s.modCloche g).furrows = s.furrows := rfl
@[simp] theorem modCloche_pairs : (s.modCloche g).pairs = s.pairs := rfl
@[simp] theorem modCloche_pwm : (s.modCloche g).pwm = s.pwm := rfl
@[simp] theorem modCloche_fltActive : (s.modCloche g).fltActive = s.fltActive := rfl
@[simp] theorem modCloche_lanes : (s.modCloche g).lanes = s.lanes := rfl
@[simp] theorem modCloche_nodes : (s.modCloche g).nodes = s.nodes := rfl
@[simp] theorem modCloche_remotes : (s.modCloche g).remotes = s.remotes := rfl
@[simp] theorem modCloche_arms : (s.modCloche g).arms = s.arms := rfl
@[simp] theorem modCloche_shears : (s.modCloche g).shears = s.shears := rfl
@[simp] theorem modCloche_time : (s.modCloche g).time = s.time := rfl
@[simp] theorem modCloche_win : (s.modCloche g).win = s.win := rfl
@[simp] theorem modCloche_harvest : (s.modCloche g).harvest = s.harvest := rfl
@[simp] theorem modCloche_shared : (s.modCloche g).shared = s.shared := rfl
@[simp] theorem modCloche_prior : (s.modCloche g).prior = s.prior := rfl
@[simp] theorem modCloche_net : (s.modCloche g).net = s.net := rfl
@[simp] theorem modCloche_rst : (s.modCloche g).rst = s.rst := rfl
@[simp] theorem modCloche_slanes : (s.modCloche g).slanes = s.slanes := rfl
@[simp] theorem modCloche_graft : (s.modCloche g).graft = s.graft := rfl
@[simp] theorem modCloche_runner : (s.modCloche g).runner = s.runner := rfl
@[simp] theorem modCloche_cores : (s.modCloche g).cores = s.cores := rfl
@[simp] theorem modCloche_power : (s.modCloche g).power = s.power := rfl
@[simp] theorem modCloche_root : (s.modCloche g).root = s.root := rfl
@[simp] theorem modCloche_pending : (s.modCloche g).pending = s.pending := rfl
@[simp] theorem modCloche_cloche : (s.modCloche g).cloche = g s.cloche := rfl

end modCloche

/-! ## modCores -/

section modCores
variable (s : State) (g : CoresUnit → CoresUnit)

@[simp] theorem modCores_ctl : (s.modCores g).ctl = s.ctl := rfl
@[simp] theorem modCores_now : (s.modCores g).now = s.now := rfl
@[simp] theorem modCores_regs : (s.modCores g).regs = s.regs := rfl
@[simp] theorem modCores_active : (s.modCores g).active = s.active := rfl
@[simp] theorem modCores_shadow : (s.modCores g).shadow = s.shadow := rfl
@[simp] theorem modCores_rings : (s.modCores g).rings = s.rings := rfl
@[simp] theorem modCores_eventSeq : (s.modCores g).eventSeq = s.eventSeq := rfl
@[simp] theorem modCores_sessions : (s.modCores g).sessions = s.sessions := rfl
@[simp] theorem modCores_coreReq : (s.modCores g).coreReq = s.coreReq := rfl
@[simp] theorem modCores_sent : (s.modCores g).sent = s.sent := rfl
@[simp] theorem modCores_draws : (s.modCores g).draws = s.draws := rfl
@[simp] theorem modCores_sieve : (s.modCores g).sieve = s.sieve := rfl
@[simp] theorem modCores_engines : (s.modCores g).engines = s.engines := rfl
@[simp] theorem modCores_gf : (s.modCores g).gf = s.gf := rfl
@[simp] theorem modCores_ride : (s.modCores g).ride = s.ride := rfl
@[simp] theorem modCores_sounder : (s.modCores g).sounder = s.sounder := rfl
@[simp] theorem modCores_furrows : (s.modCores g).furrows = s.furrows := rfl
@[simp] theorem modCores_pairs : (s.modCores g).pairs = s.pairs := rfl
@[simp] theorem modCores_pwm : (s.modCores g).pwm = s.pwm := rfl
@[simp] theorem modCores_fltActive : (s.modCores g).fltActive = s.fltActive := rfl
@[simp] theorem modCores_lanes : (s.modCores g).lanes = s.lanes := rfl
@[simp] theorem modCores_nodes : (s.modCores g).nodes = s.nodes := rfl
@[simp] theorem modCores_remotes : (s.modCores g).remotes = s.remotes := rfl
@[simp] theorem modCores_arms : (s.modCores g).arms = s.arms := rfl
@[simp] theorem modCores_shears : (s.modCores g).shears = s.shears := rfl
@[simp] theorem modCores_cloche : (s.modCores g).cloche = s.cloche := rfl
@[simp] theorem modCores_time : (s.modCores g).time = s.time := rfl
@[simp] theorem modCores_win : (s.modCores g).win = s.win := rfl
@[simp] theorem modCores_harvest : (s.modCores g).harvest = s.harvest := rfl
@[simp] theorem modCores_shared : (s.modCores g).shared = s.shared := rfl
@[simp] theorem modCores_prior : (s.modCores g).prior = s.prior := rfl
@[simp] theorem modCores_net : (s.modCores g).net = s.net := rfl
@[simp] theorem modCores_rst : (s.modCores g).rst = s.rst := rfl
@[simp] theorem modCores_slanes : (s.modCores g).slanes = s.slanes := rfl
@[simp] theorem modCores_graft : (s.modCores g).graft = s.graft := rfl
@[simp] theorem modCores_runner : (s.modCores g).runner = s.runner := rfl
@[simp] theorem modCores_power : (s.modCores g).power = s.power := rfl
@[simp] theorem modCores_root : (s.modCores g).root = s.root := rfl
@[simp] theorem modCores_pending : (s.modCores g).pending = s.pending := rfl
@[simp] theorem modCores_cores : (s.modCores g).cores = g s.cores := rfl

end modCores

/-! ## modGraft -/

section modGraft
variable (s : State) (g : GraftUnit → GraftUnit)

@[simp] theorem modGraft_ctl : (s.modGraft g).ctl = s.ctl := rfl
@[simp] theorem modGraft_now : (s.modGraft g).now = s.now := rfl
@[simp] theorem modGraft_regs : (s.modGraft g).regs = s.regs := rfl
@[simp] theorem modGraft_active : (s.modGraft g).active = s.active := rfl
@[simp] theorem modGraft_shadow : (s.modGraft g).shadow = s.shadow := rfl
@[simp] theorem modGraft_rings : (s.modGraft g).rings = s.rings := rfl
@[simp] theorem modGraft_eventSeq : (s.modGraft g).eventSeq = s.eventSeq := rfl
@[simp] theorem modGraft_sessions : (s.modGraft g).sessions = s.sessions := rfl
@[simp] theorem modGraft_coreReq : (s.modGraft g).coreReq = s.coreReq := rfl
@[simp] theorem modGraft_sent : (s.modGraft g).sent = s.sent := rfl
@[simp] theorem modGraft_draws : (s.modGraft g).draws = s.draws := rfl
@[simp] theorem modGraft_sieve : (s.modGraft g).sieve = s.sieve := rfl
@[simp] theorem modGraft_engines : (s.modGraft g).engines = s.engines := rfl
@[simp] theorem modGraft_gf : (s.modGraft g).gf = s.gf := rfl
@[simp] theorem modGraft_ride : (s.modGraft g).ride = s.ride := rfl
@[simp] theorem modGraft_sounder : (s.modGraft g).sounder = s.sounder := rfl
@[simp] theorem modGraft_furrows : (s.modGraft g).furrows = s.furrows := rfl
@[simp] theorem modGraft_pairs : (s.modGraft g).pairs = s.pairs := rfl
@[simp] theorem modGraft_pwm : (s.modGraft g).pwm = s.pwm := rfl
@[simp] theorem modGraft_fltActive : (s.modGraft g).fltActive = s.fltActive := rfl
@[simp] theorem modGraft_lanes : (s.modGraft g).lanes = s.lanes := rfl
@[simp] theorem modGraft_nodes : (s.modGraft g).nodes = s.nodes := rfl
@[simp] theorem modGraft_remotes : (s.modGraft g).remotes = s.remotes := rfl
@[simp] theorem modGraft_arms : (s.modGraft g).arms = s.arms := rfl
@[simp] theorem modGraft_shears : (s.modGraft g).shears = s.shears := rfl
@[simp] theorem modGraft_cloche : (s.modGraft g).cloche = s.cloche := rfl
@[simp] theorem modGraft_time : (s.modGraft g).time = s.time := rfl
@[simp] theorem modGraft_win : (s.modGraft g).win = s.win := rfl
@[simp] theorem modGraft_harvest : (s.modGraft g).harvest = s.harvest := rfl
@[simp] theorem modGraft_shared : (s.modGraft g).shared = s.shared := rfl
@[simp] theorem modGraft_prior : (s.modGraft g).prior = s.prior := rfl
@[simp] theorem modGraft_net : (s.modGraft g).net = s.net := rfl
@[simp] theorem modGraft_rst : (s.modGraft g).rst = s.rst := rfl
@[simp] theorem modGraft_slanes : (s.modGraft g).slanes = s.slanes := rfl
@[simp] theorem modGraft_runner : (s.modGraft g).runner = s.runner := rfl
@[simp] theorem modGraft_cores : (s.modGraft g).cores = s.cores := rfl
@[simp] theorem modGraft_power : (s.modGraft g).power = s.power := rfl
@[simp] theorem modGraft_root : (s.modGraft g).root = s.root := rfl
@[simp] theorem modGraft_pending : (s.modGraft g).pending = s.pending := rfl
@[simp] theorem modGraft_graft : (s.modGraft g).graft = g s.graft := rfl

end modGraft

/-! ## modGf -/

section modGf
variable (s : State) (g : GridForming → GridForming)

@[simp] theorem modGf_ctl : (s.modGf g).ctl = s.ctl := rfl
@[simp] theorem modGf_now : (s.modGf g).now = s.now := rfl
@[simp] theorem modGf_regs : (s.modGf g).regs = s.regs := rfl
@[simp] theorem modGf_active : (s.modGf g).active = s.active := rfl
@[simp] theorem modGf_shadow : (s.modGf g).shadow = s.shadow := rfl
@[simp] theorem modGf_rings : (s.modGf g).rings = s.rings := rfl
@[simp] theorem modGf_eventSeq : (s.modGf g).eventSeq = s.eventSeq := rfl
@[simp] theorem modGf_sessions : (s.modGf g).sessions = s.sessions := rfl
@[simp] theorem modGf_coreReq : (s.modGf g).coreReq = s.coreReq := rfl
@[simp] theorem modGf_sent : (s.modGf g).sent = s.sent := rfl
@[simp] theorem modGf_draws : (s.modGf g).draws = s.draws := rfl
@[simp] theorem modGf_sieve : (s.modGf g).sieve = s.sieve := rfl
@[simp] theorem modGf_engines : (s.modGf g).engines = s.engines := rfl
@[simp] theorem modGf_ride : (s.modGf g).ride = s.ride := rfl
@[simp] theorem modGf_sounder : (s.modGf g).sounder = s.sounder := rfl
@[simp] theorem modGf_furrows : (s.modGf g).furrows = s.furrows := rfl
@[simp] theorem modGf_pairs : (s.modGf g).pairs = s.pairs := rfl
@[simp] theorem modGf_pwm : (s.modGf g).pwm = s.pwm := rfl
@[simp] theorem modGf_fltActive : (s.modGf g).fltActive = s.fltActive := rfl
@[simp] theorem modGf_lanes : (s.modGf g).lanes = s.lanes := rfl
@[simp] theorem modGf_nodes : (s.modGf g).nodes = s.nodes := rfl
@[simp] theorem modGf_remotes : (s.modGf g).remotes = s.remotes := rfl
@[simp] theorem modGf_arms : (s.modGf g).arms = s.arms := rfl
@[simp] theorem modGf_shears : (s.modGf g).shears = s.shears := rfl
@[simp] theorem modGf_cloche : (s.modGf g).cloche = s.cloche := rfl
@[simp] theorem modGf_time : (s.modGf g).time = s.time := rfl
@[simp] theorem modGf_win : (s.modGf g).win = s.win := rfl
@[simp] theorem modGf_harvest : (s.modGf g).harvest = s.harvest := rfl
@[simp] theorem modGf_shared : (s.modGf g).shared = s.shared := rfl
@[simp] theorem modGf_prior : (s.modGf g).prior = s.prior := rfl
@[simp] theorem modGf_net : (s.modGf g).net = s.net := rfl
@[simp] theorem modGf_rst : (s.modGf g).rst = s.rst := rfl
@[simp] theorem modGf_slanes : (s.modGf g).slanes = s.slanes := rfl
@[simp] theorem modGf_graft : (s.modGf g).graft = s.graft := rfl
@[simp] theorem modGf_runner : (s.modGf g).runner = s.runner := rfl
@[simp] theorem modGf_cores : (s.modGf g).cores = s.cores := rfl
@[simp] theorem modGf_power : (s.modGf g).power = s.power := rfl
@[simp] theorem modGf_root : (s.modGf g).root = s.root := rfl
@[simp] theorem modGf_pending : (s.modGf g).pending = s.pending := rfl
@[simp] theorem modGf_gf : (s.modGf g).gf = g s.gf := rfl

end modGf

/-! ## modNet -/

section modNet
variable (s : State) (g : NetUnit → NetUnit)

@[simp] theorem modNet_ctl : (s.modNet g).ctl = s.ctl := rfl
@[simp] theorem modNet_now : (s.modNet g).now = s.now := rfl
@[simp] theorem modNet_regs : (s.modNet g).regs = s.regs := rfl
@[simp] theorem modNet_active : (s.modNet g).active = s.active := rfl
@[simp] theorem modNet_shadow : (s.modNet g).shadow = s.shadow := rfl
@[simp] theorem modNet_rings : (s.modNet g).rings = s.rings := rfl
@[simp] theorem modNet_eventSeq : (s.modNet g).eventSeq = s.eventSeq := rfl
@[simp] theorem modNet_sessions : (s.modNet g).sessions = s.sessions := rfl
@[simp] theorem modNet_coreReq : (s.modNet g).coreReq = s.coreReq := rfl
@[simp] theorem modNet_sent : (s.modNet g).sent = s.sent := rfl
@[simp] theorem modNet_draws : (s.modNet g).draws = s.draws := rfl
@[simp] theorem modNet_sieve : (s.modNet g).sieve = s.sieve := rfl
@[simp] theorem modNet_engines : (s.modNet g).engines = s.engines := rfl
@[simp] theorem modNet_gf : (s.modNet g).gf = s.gf := rfl
@[simp] theorem modNet_ride : (s.modNet g).ride = s.ride := rfl
@[simp] theorem modNet_sounder : (s.modNet g).sounder = s.sounder := rfl
@[simp] theorem modNet_furrows : (s.modNet g).furrows = s.furrows := rfl
@[simp] theorem modNet_pairs : (s.modNet g).pairs = s.pairs := rfl
@[simp] theorem modNet_pwm : (s.modNet g).pwm = s.pwm := rfl
@[simp] theorem modNet_fltActive : (s.modNet g).fltActive = s.fltActive := rfl
@[simp] theorem modNet_lanes : (s.modNet g).lanes = s.lanes := rfl
@[simp] theorem modNet_nodes : (s.modNet g).nodes = s.nodes := rfl
@[simp] theorem modNet_remotes : (s.modNet g).remotes = s.remotes := rfl
@[simp] theorem modNet_arms : (s.modNet g).arms = s.arms := rfl
@[simp] theorem modNet_shears : (s.modNet g).shears = s.shears := rfl
@[simp] theorem modNet_cloche : (s.modNet g).cloche = s.cloche := rfl
@[simp] theorem modNet_time : (s.modNet g).time = s.time := rfl
@[simp] theorem modNet_win : (s.modNet g).win = s.win := rfl
@[simp] theorem modNet_harvest : (s.modNet g).harvest = s.harvest := rfl
@[simp] theorem modNet_shared : (s.modNet g).shared = s.shared := rfl
@[simp] theorem modNet_prior : (s.modNet g).prior = s.prior := rfl
@[simp] theorem modNet_rst : (s.modNet g).rst = s.rst := rfl
@[simp] theorem modNet_slanes : (s.modNet g).slanes = s.slanes := rfl
@[simp] theorem modNet_graft : (s.modNet g).graft = s.graft := rfl
@[simp] theorem modNet_runner : (s.modNet g).runner = s.runner := rfl
@[simp] theorem modNet_cores : (s.modNet g).cores = s.cores := rfl
@[simp] theorem modNet_power : (s.modNet g).power = s.power := rfl
@[simp] theorem modNet_root : (s.modNet g).root = s.root := rfl
@[simp] theorem modNet_pending : (s.modNet g).pending = s.pending := rfl
@[simp] theorem modNet_net : (s.modNet g).net = g s.net := rfl

end modNet

/-! ## modRst -/

section modRst
variable (s : State) (g : ResetUnit → ResetUnit)

@[simp] theorem modRst_ctl : (s.modRst g).ctl = s.ctl := rfl
@[simp] theorem modRst_now : (s.modRst g).now = s.now := rfl
@[simp] theorem modRst_regs : (s.modRst g).regs = s.regs := rfl
@[simp] theorem modRst_active : (s.modRst g).active = s.active := rfl
@[simp] theorem modRst_shadow : (s.modRst g).shadow = s.shadow := rfl
@[simp] theorem modRst_rings : (s.modRst g).rings = s.rings := rfl
@[simp] theorem modRst_eventSeq : (s.modRst g).eventSeq = s.eventSeq := rfl
@[simp] theorem modRst_sessions : (s.modRst g).sessions = s.sessions := rfl
@[simp] theorem modRst_coreReq : (s.modRst g).coreReq = s.coreReq := rfl
@[simp] theorem modRst_sent : (s.modRst g).sent = s.sent := rfl
@[simp] theorem modRst_draws : (s.modRst g).draws = s.draws := rfl
@[simp] theorem modRst_sieve : (s.modRst g).sieve = s.sieve := rfl
@[simp] theorem modRst_engines : (s.modRst g).engines = s.engines := rfl
@[simp] theorem modRst_gf : (s.modRst g).gf = s.gf := rfl
@[simp] theorem modRst_ride : (s.modRst g).ride = s.ride := rfl
@[simp] theorem modRst_sounder : (s.modRst g).sounder = s.sounder := rfl
@[simp] theorem modRst_furrows : (s.modRst g).furrows = s.furrows := rfl
@[simp] theorem modRst_pairs : (s.modRst g).pairs = s.pairs := rfl
@[simp] theorem modRst_pwm : (s.modRst g).pwm = s.pwm := rfl
@[simp] theorem modRst_fltActive : (s.modRst g).fltActive = s.fltActive := rfl
@[simp] theorem modRst_lanes : (s.modRst g).lanes = s.lanes := rfl
@[simp] theorem modRst_nodes : (s.modRst g).nodes = s.nodes := rfl
@[simp] theorem modRst_remotes : (s.modRst g).remotes = s.remotes := rfl
@[simp] theorem modRst_arms : (s.modRst g).arms = s.arms := rfl
@[simp] theorem modRst_shears : (s.modRst g).shears = s.shears := rfl
@[simp] theorem modRst_cloche : (s.modRst g).cloche = s.cloche := rfl
@[simp] theorem modRst_time : (s.modRst g).time = s.time := rfl
@[simp] theorem modRst_win : (s.modRst g).win = s.win := rfl
@[simp] theorem modRst_harvest : (s.modRst g).harvest = s.harvest := rfl
@[simp] theorem modRst_shared : (s.modRst g).shared = s.shared := rfl
@[simp] theorem modRst_prior : (s.modRst g).prior = s.prior := rfl
@[simp] theorem modRst_net : (s.modRst g).net = s.net := rfl
@[simp] theorem modRst_slanes : (s.modRst g).slanes = s.slanes := rfl
@[simp] theorem modRst_graft : (s.modRst g).graft = s.graft := rfl
@[simp] theorem modRst_runner : (s.modRst g).runner = s.runner := rfl
@[simp] theorem modRst_cores : (s.modRst g).cores = s.cores := rfl
@[simp] theorem modRst_power : (s.modRst g).power = s.power := rfl
@[simp] theorem modRst_root : (s.modRst g).root = s.root := rfl
@[simp] theorem modRst_pending : (s.modRst g).pending = s.pending := rfl
@[simp] theorem modRst_rst : (s.modRst g).rst = g s.rst := rfl

end modRst

/-! ## modRide -/

section modRide
variable (s : State) (g : RideState → RideState)

@[simp] theorem modRide_ctl : (s.modRide g).ctl = s.ctl := rfl
@[simp] theorem modRide_now : (s.modRide g).now = s.now := rfl
@[simp] theorem modRide_regs : (s.modRide g).regs = s.regs := rfl
@[simp] theorem modRide_active : (s.modRide g).active = s.active := rfl
@[simp] theorem modRide_shadow : (s.modRide g).shadow = s.shadow := rfl
@[simp] theorem modRide_rings : (s.modRide g).rings = s.rings := rfl
@[simp] theorem modRide_eventSeq : (s.modRide g).eventSeq = s.eventSeq := rfl
@[simp] theorem modRide_sessions : (s.modRide g).sessions = s.sessions := rfl
@[simp] theorem modRide_coreReq : (s.modRide g).coreReq = s.coreReq := rfl
@[simp] theorem modRide_sent : (s.modRide g).sent = s.sent := rfl
@[simp] theorem modRide_draws : (s.modRide g).draws = s.draws := rfl
@[simp] theorem modRide_sieve : (s.modRide g).sieve = s.sieve := rfl
@[simp] theorem modRide_engines : (s.modRide g).engines = s.engines := rfl
@[simp] theorem modRide_gf : (s.modRide g).gf = s.gf := rfl
@[simp] theorem modRide_sounder : (s.modRide g).sounder = s.sounder := rfl
@[simp] theorem modRide_furrows : (s.modRide g).furrows = s.furrows := rfl
@[simp] theorem modRide_pairs : (s.modRide g).pairs = s.pairs := rfl
@[simp] theorem modRide_pwm : (s.modRide g).pwm = s.pwm := rfl
@[simp] theorem modRide_fltActive : (s.modRide g).fltActive = s.fltActive := rfl
@[simp] theorem modRide_lanes : (s.modRide g).lanes = s.lanes := rfl
@[simp] theorem modRide_nodes : (s.modRide g).nodes = s.nodes := rfl
@[simp] theorem modRide_remotes : (s.modRide g).remotes = s.remotes := rfl
@[simp] theorem modRide_arms : (s.modRide g).arms = s.arms := rfl
@[simp] theorem modRide_shears : (s.modRide g).shears = s.shears := rfl
@[simp] theorem modRide_cloche : (s.modRide g).cloche = s.cloche := rfl
@[simp] theorem modRide_time : (s.modRide g).time = s.time := rfl
@[simp] theorem modRide_win : (s.modRide g).win = s.win := rfl
@[simp] theorem modRide_harvest : (s.modRide g).harvest = s.harvest := rfl
@[simp] theorem modRide_shared : (s.modRide g).shared = s.shared := rfl
@[simp] theorem modRide_prior : (s.modRide g).prior = s.prior := rfl
@[simp] theorem modRide_net : (s.modRide g).net = s.net := rfl
@[simp] theorem modRide_rst : (s.modRide g).rst = s.rst := rfl
@[simp] theorem modRide_slanes : (s.modRide g).slanes = s.slanes := rfl
@[simp] theorem modRide_graft : (s.modRide g).graft = s.graft := rfl
@[simp] theorem modRide_runner : (s.modRide g).runner = s.runner := rfl
@[simp] theorem modRide_cores : (s.modRide g).cores = s.cores := rfl
@[simp] theorem modRide_power : (s.modRide g).power = s.power := rfl
@[simp] theorem modRide_root : (s.modRide g).root = s.root := rfl
@[simp] theorem modRide_pending : (s.modRide g).pending = s.pending := rfl
@[simp] theorem modRide_ride : (s.modRide g).ride = g s.ride := rfl

end modRide

/-! ## modRoot -/

section modRoot
variable (s : State) (g : RootUnit → RootUnit)

@[simp] theorem modRoot_ctl : (s.modRoot g).ctl = s.ctl := rfl
@[simp] theorem modRoot_now : (s.modRoot g).now = s.now := rfl
@[simp] theorem modRoot_regs : (s.modRoot g).regs = s.regs := rfl
@[simp] theorem modRoot_active : (s.modRoot g).active = s.active := rfl
@[simp] theorem modRoot_shadow : (s.modRoot g).shadow = s.shadow := rfl
@[simp] theorem modRoot_rings : (s.modRoot g).rings = s.rings := rfl
@[simp] theorem modRoot_eventSeq : (s.modRoot g).eventSeq = s.eventSeq := rfl
@[simp] theorem modRoot_sessions : (s.modRoot g).sessions = s.sessions := rfl
@[simp] theorem modRoot_coreReq : (s.modRoot g).coreReq = s.coreReq := rfl
@[simp] theorem modRoot_sent : (s.modRoot g).sent = s.sent := rfl
@[simp] theorem modRoot_draws : (s.modRoot g).draws = s.draws := rfl
@[simp] theorem modRoot_sieve : (s.modRoot g).sieve = s.sieve := rfl
@[simp] theorem modRoot_engines : (s.modRoot g).engines = s.engines := rfl
@[simp] theorem modRoot_gf : (s.modRoot g).gf = s.gf := rfl
@[simp] theorem modRoot_ride : (s.modRoot g).ride = s.ride := rfl
@[simp] theorem modRoot_sounder : (s.modRoot g).sounder = s.sounder := rfl
@[simp] theorem modRoot_furrows : (s.modRoot g).furrows = s.furrows := rfl
@[simp] theorem modRoot_pairs : (s.modRoot g).pairs = s.pairs := rfl
@[simp] theorem modRoot_pwm : (s.modRoot g).pwm = s.pwm := rfl
@[simp] theorem modRoot_fltActive : (s.modRoot g).fltActive = s.fltActive := rfl
@[simp] theorem modRoot_lanes : (s.modRoot g).lanes = s.lanes := rfl
@[simp] theorem modRoot_nodes : (s.modRoot g).nodes = s.nodes := rfl
@[simp] theorem modRoot_remotes : (s.modRoot g).remotes = s.remotes := rfl
@[simp] theorem modRoot_arms : (s.modRoot g).arms = s.arms := rfl
@[simp] theorem modRoot_shears : (s.modRoot g).shears = s.shears := rfl
@[simp] theorem modRoot_cloche : (s.modRoot g).cloche = s.cloche := rfl
@[simp] theorem modRoot_time : (s.modRoot g).time = s.time := rfl
@[simp] theorem modRoot_win : (s.modRoot g).win = s.win := rfl
@[simp] theorem modRoot_harvest : (s.modRoot g).harvest = s.harvest := rfl
@[simp] theorem modRoot_shared : (s.modRoot g).shared = s.shared := rfl
@[simp] theorem modRoot_prior : (s.modRoot g).prior = s.prior := rfl
@[simp] theorem modRoot_net : (s.modRoot g).net = s.net := rfl
@[simp] theorem modRoot_rst : (s.modRoot g).rst = s.rst := rfl
@[simp] theorem modRoot_slanes : (s.modRoot g).slanes = s.slanes := rfl
@[simp] theorem modRoot_graft : (s.modRoot g).graft = s.graft := rfl
@[simp] theorem modRoot_runner : (s.modRoot g).runner = s.runner := rfl
@[simp] theorem modRoot_cores : (s.modRoot g).cores = s.cores := rfl
@[simp] theorem modRoot_power : (s.modRoot g).power = s.power := rfl
@[simp] theorem modRoot_pending : (s.modRoot g).pending = s.pending := rfl
@[simp] theorem modRoot_root : (s.modRoot g).root = g s.root := rfl

end modRoot

/-! ## modShears -/

section modShears
variable (s : State) (g : Shears → Shears)

@[simp] theorem modShears_ctl : (s.modShears g).ctl = s.ctl := rfl
@[simp] theorem modShears_now : (s.modShears g).now = s.now := rfl
@[simp] theorem modShears_regs : (s.modShears g).regs = s.regs := rfl
@[simp] theorem modShears_active : (s.modShears g).active = s.active := rfl
@[simp] theorem modShears_shadow : (s.modShears g).shadow = s.shadow := rfl
@[simp] theorem modShears_rings : (s.modShears g).rings = s.rings := rfl
@[simp] theorem modShears_eventSeq : (s.modShears g).eventSeq = s.eventSeq := rfl
@[simp] theorem modShears_sessions : (s.modShears g).sessions = s.sessions := rfl
@[simp] theorem modShears_coreReq : (s.modShears g).coreReq = s.coreReq := rfl
@[simp] theorem modShears_sent : (s.modShears g).sent = s.sent := rfl
@[simp] theorem modShears_draws : (s.modShears g).draws = s.draws := rfl
@[simp] theorem modShears_sieve : (s.modShears g).sieve = s.sieve := rfl
@[simp] theorem modShears_engines : (s.modShears g).engines = s.engines := rfl
@[simp] theorem modShears_gf : (s.modShears g).gf = s.gf := rfl
@[simp] theorem modShears_ride : (s.modShears g).ride = s.ride := rfl
@[simp] theorem modShears_sounder : (s.modShears g).sounder = s.sounder := rfl
@[simp] theorem modShears_furrows : (s.modShears g).furrows = s.furrows := rfl
@[simp] theorem modShears_pairs : (s.modShears g).pairs = s.pairs := rfl
@[simp] theorem modShears_pwm : (s.modShears g).pwm = s.pwm := rfl
@[simp] theorem modShears_fltActive : (s.modShears g).fltActive = s.fltActive := rfl
@[simp] theorem modShears_lanes : (s.modShears g).lanes = s.lanes := rfl
@[simp] theorem modShears_nodes : (s.modShears g).nodes = s.nodes := rfl
@[simp] theorem modShears_remotes : (s.modShears g).remotes = s.remotes := rfl
@[simp] theorem modShears_arms : (s.modShears g).arms = s.arms := rfl
@[simp] theorem modShears_cloche : (s.modShears g).cloche = s.cloche := rfl
@[simp] theorem modShears_time : (s.modShears g).time = s.time := rfl
@[simp] theorem modShears_win : (s.modShears g).win = s.win := rfl
@[simp] theorem modShears_harvest : (s.modShears g).harvest = s.harvest := rfl
@[simp] theorem modShears_shared : (s.modShears g).shared = s.shared := rfl
@[simp] theorem modShears_prior : (s.modShears g).prior = s.prior := rfl
@[simp] theorem modShears_net : (s.modShears g).net = s.net := rfl
@[simp] theorem modShears_rst : (s.modShears g).rst = s.rst := rfl
@[simp] theorem modShears_slanes : (s.modShears g).slanes = s.slanes := rfl
@[simp] theorem modShears_graft : (s.modShears g).graft = s.graft := rfl
@[simp] theorem modShears_runner : (s.modShears g).runner = s.runner := rfl
@[simp] theorem modShears_cores : (s.modShears g).cores = s.cores := rfl
@[simp] theorem modShears_power : (s.modShears g).power = s.power := rfl
@[simp] theorem modShears_root : (s.modShears g).root = s.root := rfl
@[simp] theorem modShears_pending : (s.modShears g).pending = s.pending := rfl
@[simp] theorem modShears_shears : (s.modShears g).shears = g s.shears := rfl

end modShears

/-! ## modSieve -/

section modSieve
variable (s : State) (g : Sieve → Sieve)

@[simp] theorem modSieve_ctl : (s.modSieve g).ctl = s.ctl := rfl
@[simp] theorem modSieve_now : (s.modSieve g).now = s.now := rfl
@[simp] theorem modSieve_regs : (s.modSieve g).regs = s.regs := rfl
@[simp] theorem modSieve_active : (s.modSieve g).active = s.active := rfl
@[simp] theorem modSieve_shadow : (s.modSieve g).shadow = s.shadow := rfl
@[simp] theorem modSieve_rings : (s.modSieve g).rings = s.rings := rfl
@[simp] theorem modSieve_eventSeq : (s.modSieve g).eventSeq = s.eventSeq := rfl
@[simp] theorem modSieve_sessions : (s.modSieve g).sessions = s.sessions := rfl
@[simp] theorem modSieve_coreReq : (s.modSieve g).coreReq = s.coreReq := rfl
@[simp] theorem modSieve_sent : (s.modSieve g).sent = s.sent := rfl
@[simp] theorem modSieve_draws : (s.modSieve g).draws = s.draws := rfl
@[simp] theorem modSieve_engines : (s.modSieve g).engines = s.engines := rfl
@[simp] theorem modSieve_gf : (s.modSieve g).gf = s.gf := rfl
@[simp] theorem modSieve_ride : (s.modSieve g).ride = s.ride := rfl
@[simp] theorem modSieve_sounder : (s.modSieve g).sounder = s.sounder := rfl
@[simp] theorem modSieve_furrows : (s.modSieve g).furrows = s.furrows := rfl
@[simp] theorem modSieve_pairs : (s.modSieve g).pairs = s.pairs := rfl
@[simp] theorem modSieve_pwm : (s.modSieve g).pwm = s.pwm := rfl
@[simp] theorem modSieve_fltActive : (s.modSieve g).fltActive = s.fltActive := rfl
@[simp] theorem modSieve_lanes : (s.modSieve g).lanes = s.lanes := rfl
@[simp] theorem modSieve_nodes : (s.modSieve g).nodes = s.nodes := rfl
@[simp] theorem modSieve_remotes : (s.modSieve g).remotes = s.remotes := rfl
@[simp] theorem modSieve_arms : (s.modSieve g).arms = s.arms := rfl
@[simp] theorem modSieve_shears : (s.modSieve g).shears = s.shears := rfl
@[simp] theorem modSieve_cloche : (s.modSieve g).cloche = s.cloche := rfl
@[simp] theorem modSieve_time : (s.modSieve g).time = s.time := rfl
@[simp] theorem modSieve_win : (s.modSieve g).win = s.win := rfl
@[simp] theorem modSieve_harvest : (s.modSieve g).harvest = s.harvest := rfl
@[simp] theorem modSieve_shared : (s.modSieve g).shared = s.shared := rfl
@[simp] theorem modSieve_prior : (s.modSieve g).prior = s.prior := rfl
@[simp] theorem modSieve_net : (s.modSieve g).net = s.net := rfl
@[simp] theorem modSieve_rst : (s.modSieve g).rst = s.rst := rfl
@[simp] theorem modSieve_slanes : (s.modSieve g).slanes = s.slanes := rfl
@[simp] theorem modSieve_graft : (s.modSieve g).graft = s.graft := rfl
@[simp] theorem modSieve_runner : (s.modSieve g).runner = s.runner := rfl
@[simp] theorem modSieve_cores : (s.modSieve g).cores = s.cores := rfl
@[simp] theorem modSieve_power : (s.modSieve g).power = s.power := rfl
@[simp] theorem modSieve_root : (s.modSieve g).root = s.root := rfl
@[simp] theorem modSieve_pending : (s.modSieve g).pending = s.pending := rfl
@[simp] theorem modSieve_sieve : (s.modSieve g).sieve = g s.sieve := rfl

end modSieve

/-! ## modSounder -/

section modSounder
variable (s : State) (g : Sounder → Sounder)

@[simp] theorem modSounder_ctl : (s.modSounder g).ctl = s.ctl := rfl
@[simp] theorem modSounder_now : (s.modSounder g).now = s.now := rfl
@[simp] theorem modSounder_regs : (s.modSounder g).regs = s.regs := rfl
@[simp] theorem modSounder_active : (s.modSounder g).active = s.active := rfl
@[simp] theorem modSounder_shadow : (s.modSounder g).shadow = s.shadow := rfl
@[simp] theorem modSounder_rings : (s.modSounder g).rings = s.rings := rfl
@[simp] theorem modSounder_eventSeq : (s.modSounder g).eventSeq = s.eventSeq := rfl
@[simp] theorem modSounder_sessions : (s.modSounder g).sessions = s.sessions := rfl
@[simp] theorem modSounder_coreReq : (s.modSounder g).coreReq = s.coreReq := rfl
@[simp] theorem modSounder_sent : (s.modSounder g).sent = s.sent := rfl
@[simp] theorem modSounder_draws : (s.modSounder g).draws = s.draws := rfl
@[simp] theorem modSounder_sieve : (s.modSounder g).sieve = s.sieve := rfl
@[simp] theorem modSounder_engines : (s.modSounder g).engines = s.engines := rfl
@[simp] theorem modSounder_gf : (s.modSounder g).gf = s.gf := rfl
@[simp] theorem modSounder_ride : (s.modSounder g).ride = s.ride := rfl
@[simp] theorem modSounder_furrows : (s.modSounder g).furrows = s.furrows := rfl
@[simp] theorem modSounder_pairs : (s.modSounder g).pairs = s.pairs := rfl
@[simp] theorem modSounder_pwm : (s.modSounder g).pwm = s.pwm := rfl
@[simp] theorem modSounder_fltActive : (s.modSounder g).fltActive = s.fltActive := rfl
@[simp] theorem modSounder_lanes : (s.modSounder g).lanes = s.lanes := rfl
@[simp] theorem modSounder_nodes : (s.modSounder g).nodes = s.nodes := rfl
@[simp] theorem modSounder_remotes : (s.modSounder g).remotes = s.remotes := rfl
@[simp] theorem modSounder_arms : (s.modSounder g).arms = s.arms := rfl
@[simp] theorem modSounder_shears : (s.modSounder g).shears = s.shears := rfl
@[simp] theorem modSounder_cloche : (s.modSounder g).cloche = s.cloche := rfl
@[simp] theorem modSounder_time : (s.modSounder g).time = s.time := rfl
@[simp] theorem modSounder_win : (s.modSounder g).win = s.win := rfl
@[simp] theorem modSounder_harvest : (s.modSounder g).harvest = s.harvest := rfl
@[simp] theorem modSounder_shared : (s.modSounder g).shared = s.shared := rfl
@[simp] theorem modSounder_prior : (s.modSounder g).prior = s.prior := rfl
@[simp] theorem modSounder_net : (s.modSounder g).net = s.net := rfl
@[simp] theorem modSounder_rst : (s.modSounder g).rst = s.rst := rfl
@[simp] theorem modSounder_slanes : (s.modSounder g).slanes = s.slanes := rfl
@[simp] theorem modSounder_graft : (s.modSounder g).graft = s.graft := rfl
@[simp] theorem modSounder_runner : (s.modSounder g).runner = s.runner := rfl
@[simp] theorem modSounder_cores : (s.modSounder g).cores = s.cores := rfl
@[simp] theorem modSounder_power : (s.modSounder g).power = s.power := rfl
@[simp] theorem modSounder_root : (s.modSounder g).root = s.root := rfl
@[simp] theorem modSounder_pending : (s.modSounder g).pending = s.pending := rfl
@[simp] theorem modSounder_sounder : (s.modSounder g).sounder = g s.sounder := rfl

end modSounder

/-! ## modTime -/

section modTime
variable (s : State) (g : TimeUnit → TimeUnit)

@[simp] theorem modTime_ctl : (s.modTime g).ctl = s.ctl := rfl
@[simp] theorem modTime_now : (s.modTime g).now = s.now := rfl
@[simp] theorem modTime_regs : (s.modTime g).regs = s.regs := rfl
@[simp] theorem modTime_active : (s.modTime g).active = s.active := rfl
@[simp] theorem modTime_shadow : (s.modTime g).shadow = s.shadow := rfl
@[simp] theorem modTime_rings : (s.modTime g).rings = s.rings := rfl
@[simp] theorem modTime_eventSeq : (s.modTime g).eventSeq = s.eventSeq := rfl
@[simp] theorem modTime_sessions : (s.modTime g).sessions = s.sessions := rfl
@[simp] theorem modTime_coreReq : (s.modTime g).coreReq = s.coreReq := rfl
@[simp] theorem modTime_sent : (s.modTime g).sent = s.sent := rfl
@[simp] theorem modTime_draws : (s.modTime g).draws = s.draws := rfl
@[simp] theorem modTime_sieve : (s.modTime g).sieve = s.sieve := rfl
@[simp] theorem modTime_engines : (s.modTime g).engines = s.engines := rfl
@[simp] theorem modTime_gf : (s.modTime g).gf = s.gf := rfl
@[simp] theorem modTime_ride : (s.modTime g).ride = s.ride := rfl
@[simp] theorem modTime_sounder : (s.modTime g).sounder = s.sounder := rfl
@[simp] theorem modTime_furrows : (s.modTime g).furrows = s.furrows := rfl
@[simp] theorem modTime_pairs : (s.modTime g).pairs = s.pairs := rfl
@[simp] theorem modTime_pwm : (s.modTime g).pwm = s.pwm := rfl
@[simp] theorem modTime_fltActive : (s.modTime g).fltActive = s.fltActive := rfl
@[simp] theorem modTime_lanes : (s.modTime g).lanes = s.lanes := rfl
@[simp] theorem modTime_nodes : (s.modTime g).nodes = s.nodes := rfl
@[simp] theorem modTime_remotes : (s.modTime g).remotes = s.remotes := rfl
@[simp] theorem modTime_arms : (s.modTime g).arms = s.arms := rfl
@[simp] theorem modTime_shears : (s.modTime g).shears = s.shears := rfl
@[simp] theorem modTime_cloche : (s.modTime g).cloche = s.cloche := rfl
@[simp] theorem modTime_win : (s.modTime g).win = s.win := rfl
@[simp] theorem modTime_harvest : (s.modTime g).harvest = s.harvest := rfl
@[simp] theorem modTime_shared : (s.modTime g).shared = s.shared := rfl
@[simp] theorem modTime_prior : (s.modTime g).prior = s.prior := rfl
@[simp] theorem modTime_net : (s.modTime g).net = s.net := rfl
@[simp] theorem modTime_rst : (s.modTime g).rst = s.rst := rfl
@[simp] theorem modTime_slanes : (s.modTime g).slanes = s.slanes := rfl
@[simp] theorem modTime_graft : (s.modTime g).graft = s.graft := rfl
@[simp] theorem modTime_runner : (s.modTime g).runner = s.runner := rfl
@[simp] theorem modTime_cores : (s.modTime g).cores = s.cores := rfl
@[simp] theorem modTime_power : (s.modTime g).power = s.power := rfl
@[simp] theorem modTime_root : (s.modTime g).root = s.root := rfl
@[simp] theorem modTime_pending : (s.modTime g).pending = s.pending := rfl
@[simp] theorem modTime_time : (s.modTime g).time = g s.time := rfl

end modTime

/-! ## modCoreReq -/

section modCoreReq
variable (s : State) (g : Session → Session)

@[simp] theorem modCoreReq_ctl : (s.modCoreReq g).ctl = s.ctl := rfl
@[simp] theorem modCoreReq_now : (s.modCoreReq g).now = s.now := rfl
@[simp] theorem modCoreReq_regs : (s.modCoreReq g).regs = s.regs := rfl
@[simp] theorem modCoreReq_active : (s.modCoreReq g).active = s.active := rfl
@[simp] theorem modCoreReq_shadow : (s.modCoreReq g).shadow = s.shadow := rfl
@[simp] theorem modCoreReq_rings : (s.modCoreReq g).rings = s.rings := rfl
@[simp] theorem modCoreReq_eventSeq : (s.modCoreReq g).eventSeq = s.eventSeq := rfl
@[simp] theorem modCoreReq_sessions : (s.modCoreReq g).sessions = s.sessions := rfl
@[simp] theorem modCoreReq_sent : (s.modCoreReq g).sent = s.sent := rfl
@[simp] theorem modCoreReq_draws : (s.modCoreReq g).draws = s.draws := rfl
@[simp] theorem modCoreReq_sieve : (s.modCoreReq g).sieve = s.sieve := rfl
@[simp] theorem modCoreReq_engines : (s.modCoreReq g).engines = s.engines := rfl
@[simp] theorem modCoreReq_gf : (s.modCoreReq g).gf = s.gf := rfl
@[simp] theorem modCoreReq_ride : (s.modCoreReq g).ride = s.ride := rfl
@[simp] theorem modCoreReq_sounder : (s.modCoreReq g).sounder = s.sounder := rfl
@[simp] theorem modCoreReq_furrows : (s.modCoreReq g).furrows = s.furrows := rfl
@[simp] theorem modCoreReq_pairs : (s.modCoreReq g).pairs = s.pairs := rfl
@[simp] theorem modCoreReq_pwm : (s.modCoreReq g).pwm = s.pwm := rfl
@[simp] theorem modCoreReq_fltActive : (s.modCoreReq g).fltActive = s.fltActive := rfl
@[simp] theorem modCoreReq_lanes : (s.modCoreReq g).lanes = s.lanes := rfl
@[simp] theorem modCoreReq_nodes : (s.modCoreReq g).nodes = s.nodes := rfl
@[simp] theorem modCoreReq_remotes : (s.modCoreReq g).remotes = s.remotes := rfl
@[simp] theorem modCoreReq_arms : (s.modCoreReq g).arms = s.arms := rfl
@[simp] theorem modCoreReq_shears : (s.modCoreReq g).shears = s.shears := rfl
@[simp] theorem modCoreReq_cloche : (s.modCoreReq g).cloche = s.cloche := rfl
@[simp] theorem modCoreReq_time : (s.modCoreReq g).time = s.time := rfl
@[simp] theorem modCoreReq_win : (s.modCoreReq g).win = s.win := rfl
@[simp] theorem modCoreReq_harvest : (s.modCoreReq g).harvest = s.harvest := rfl
@[simp] theorem modCoreReq_shared : (s.modCoreReq g).shared = s.shared := rfl
@[simp] theorem modCoreReq_prior : (s.modCoreReq g).prior = s.prior := rfl
@[simp] theorem modCoreReq_net : (s.modCoreReq g).net = s.net := rfl
@[simp] theorem modCoreReq_rst : (s.modCoreReq g).rst = s.rst := rfl
@[simp] theorem modCoreReq_slanes : (s.modCoreReq g).slanes = s.slanes := rfl
@[simp] theorem modCoreReq_graft : (s.modCoreReq g).graft = s.graft := rfl
@[simp] theorem modCoreReq_runner : (s.modCoreReq g).runner = s.runner := rfl
@[simp] theorem modCoreReq_cores : (s.modCoreReq g).cores = s.cores := rfl
@[simp] theorem modCoreReq_power : (s.modCoreReq g).power = s.power := rfl
@[simp] theorem modCoreReq_root : (s.modCoreReq g).root = s.root := rfl
@[simp] theorem modCoreReq_pending : (s.modCoreReq g).pending = s.pending := rfl
@[simp] theorem modCoreReq_coreReq : (s.modCoreReq g).coreReq = g s.coreReq := rfl

end modCoreReq

/-! ## modPower -/

section modPower
variable (s : State) (g : PowerUnit → PowerUnit)

@[simp] theorem modPower_ctl : (s.modPower g).ctl = s.ctl := rfl
@[simp] theorem modPower_now : (s.modPower g).now = s.now := rfl
@[simp] theorem modPower_regs : (s.modPower g).regs = s.regs := rfl
@[simp] theorem modPower_active : (s.modPower g).active = s.active := rfl
@[simp] theorem modPower_shadow : (s.modPower g).shadow = s.shadow := rfl
@[simp] theorem modPower_rings : (s.modPower g).rings = s.rings := rfl
@[simp] theorem modPower_eventSeq : (s.modPower g).eventSeq = s.eventSeq := rfl
@[simp] theorem modPower_sessions : (s.modPower g).sessions = s.sessions := rfl
@[simp] theorem modPower_coreReq : (s.modPower g).coreReq = s.coreReq := rfl
@[simp] theorem modPower_sent : (s.modPower g).sent = s.sent := rfl
@[simp] theorem modPower_draws : (s.modPower g).draws = s.draws := rfl
@[simp] theorem modPower_sieve : (s.modPower g).sieve = s.sieve := rfl
@[simp] theorem modPower_engines : (s.modPower g).engines = s.engines := rfl
@[simp] theorem modPower_gf : (s.modPower g).gf = s.gf := rfl
@[simp] theorem modPower_ride : (s.modPower g).ride = s.ride := rfl
@[simp] theorem modPower_sounder : (s.modPower g).sounder = s.sounder := rfl
@[simp] theorem modPower_furrows : (s.modPower g).furrows = s.furrows := rfl
@[simp] theorem modPower_pairs : (s.modPower g).pairs = s.pairs := rfl
@[simp] theorem modPower_pwm : (s.modPower g).pwm = s.pwm := rfl
@[simp] theorem modPower_fltActive : (s.modPower g).fltActive = s.fltActive := rfl
@[simp] theorem modPower_lanes : (s.modPower g).lanes = s.lanes := rfl
@[simp] theorem modPower_nodes : (s.modPower g).nodes = s.nodes := rfl
@[simp] theorem modPower_remotes : (s.modPower g).remotes = s.remotes := rfl
@[simp] theorem modPower_arms : (s.modPower g).arms = s.arms := rfl
@[simp] theorem modPower_shears : (s.modPower g).shears = s.shears := rfl
@[simp] theorem modPower_cloche : (s.modPower g).cloche = s.cloche := rfl
@[simp] theorem modPower_time : (s.modPower g).time = s.time := rfl
@[simp] theorem modPower_win : (s.modPower g).win = s.win := rfl
@[simp] theorem modPower_harvest : (s.modPower g).harvest = s.harvest := rfl
@[simp] theorem modPower_shared : (s.modPower g).shared = s.shared := rfl
@[simp] theorem modPower_prior : (s.modPower g).prior = s.prior := rfl
@[simp] theorem modPower_net : (s.modPower g).net = s.net := rfl
@[simp] theorem modPower_rst : (s.modPower g).rst = s.rst := rfl
@[simp] theorem modPower_slanes : (s.modPower g).slanes = s.slanes := rfl
@[simp] theorem modPower_graft : (s.modPower g).graft = s.graft := rfl
@[simp] theorem modPower_runner : (s.modPower g).runner = s.runner := rfl
@[simp] theorem modPower_cores : (s.modPower g).cores = s.cores := rfl
@[simp] theorem modPower_root : (s.modPower g).root = s.root := rfl
@[simp] theorem modPower_pending : (s.modPower g).pending = s.pending := rfl
@[simp] theorem modPower_power : (s.modPower g).power = g s.power := rfl

end modPower

/-! ## modRing -/

section modRing
variable (s : State) (q : Nat) (g : Ring → Ring)

@[simp] theorem modRing_ctl : (s.modRing q g).ctl = s.ctl := rfl
@[simp] theorem modRing_now : (s.modRing q g).now = s.now := rfl
@[simp] theorem modRing_regs : (s.modRing q g).regs = s.regs := rfl
@[simp] theorem modRing_active : (s.modRing q g).active = s.active := rfl
@[simp] theorem modRing_shadow : (s.modRing q g).shadow = s.shadow := rfl
@[simp] theorem modRing_eventSeq : (s.modRing q g).eventSeq = s.eventSeq := rfl
@[simp] theorem modRing_sessions : (s.modRing q g).sessions = s.sessions := rfl
@[simp] theorem modRing_coreReq : (s.modRing q g).coreReq = s.coreReq := rfl
@[simp] theorem modRing_sent : (s.modRing q g).sent = s.sent := rfl
@[simp] theorem modRing_draws : (s.modRing q g).draws = s.draws := rfl
@[simp] theorem modRing_sieve : (s.modRing q g).sieve = s.sieve := rfl
@[simp] theorem modRing_engines : (s.modRing q g).engines = s.engines := rfl
@[simp] theorem modRing_gf : (s.modRing q g).gf = s.gf := rfl
@[simp] theorem modRing_ride : (s.modRing q g).ride = s.ride := rfl
@[simp] theorem modRing_sounder : (s.modRing q g).sounder = s.sounder := rfl
@[simp] theorem modRing_furrows : (s.modRing q g).furrows = s.furrows := rfl
@[simp] theorem modRing_pairs : (s.modRing q g).pairs = s.pairs := rfl
@[simp] theorem modRing_pwm : (s.modRing q g).pwm = s.pwm := rfl
@[simp] theorem modRing_fltActive : (s.modRing q g).fltActive = s.fltActive := rfl
@[simp] theorem modRing_lanes : (s.modRing q g).lanes = s.lanes := rfl
@[simp] theorem modRing_nodes : (s.modRing q g).nodes = s.nodes := rfl
@[simp] theorem modRing_remotes : (s.modRing q g).remotes = s.remotes := rfl
@[simp] theorem modRing_arms : (s.modRing q g).arms = s.arms := rfl
@[simp] theorem modRing_shears : (s.modRing q g).shears = s.shears := rfl
@[simp] theorem modRing_cloche : (s.modRing q g).cloche = s.cloche := rfl
@[simp] theorem modRing_time : (s.modRing q g).time = s.time := rfl
@[simp] theorem modRing_win : (s.modRing q g).win = s.win := rfl
@[simp] theorem modRing_harvest : (s.modRing q g).harvest = s.harvest := rfl
@[simp] theorem modRing_shared : (s.modRing q g).shared = s.shared := rfl
@[simp] theorem modRing_prior : (s.modRing q g).prior = s.prior := rfl
@[simp] theorem modRing_net : (s.modRing q g).net = s.net := rfl
@[simp] theorem modRing_rst : (s.modRing q g).rst = s.rst := rfl
@[simp] theorem modRing_slanes : (s.modRing q g).slanes = s.slanes := rfl
@[simp] theorem modRing_graft : (s.modRing q g).graft = s.graft := rfl
@[simp] theorem modRing_runner : (s.modRing q g).runner = s.runner := rfl
@[simp] theorem modRing_cores : (s.modRing q g).cores = s.cores := rfl
@[simp] theorem modRing_power : (s.modRing q g).power = s.power := rfl
@[simp] theorem modRing_root : (s.modRing q g).root = s.root := rfl
@[simp] theorem modRing_pending : (s.modRing q g).pending = s.pending := rfl
@[simp] theorem modRing_rings : (s.modRing q g).rings = vmod s.rings q g := rfl

end modRing

/-! ## modWin -/

section modWin
variable (s : State) (c : Nat) (g : WinStatus → WinStatus)

@[simp] theorem modWin_ctl : (s.modWin c g).ctl = s.ctl := rfl
@[simp] theorem modWin_now : (s.modWin c g).now = s.now := rfl
@[simp] theorem modWin_regs : (s.modWin c g).regs = s.regs := rfl
@[simp] theorem modWin_active : (s.modWin c g).active = s.active := rfl
@[simp] theorem modWin_shadow : (s.modWin c g).shadow = s.shadow := rfl
@[simp] theorem modWin_rings : (s.modWin c g).rings = s.rings := rfl
@[simp] theorem modWin_eventSeq : (s.modWin c g).eventSeq = s.eventSeq := rfl
@[simp] theorem modWin_sessions : (s.modWin c g).sessions = s.sessions := rfl
@[simp] theorem modWin_coreReq : (s.modWin c g).coreReq = s.coreReq := rfl
@[simp] theorem modWin_sent : (s.modWin c g).sent = s.sent := rfl
@[simp] theorem modWin_draws : (s.modWin c g).draws = s.draws := rfl
@[simp] theorem modWin_sieve : (s.modWin c g).sieve = s.sieve := rfl
@[simp] theorem modWin_engines : (s.modWin c g).engines = s.engines := rfl
@[simp] theorem modWin_gf : (s.modWin c g).gf = s.gf := rfl
@[simp] theorem modWin_ride : (s.modWin c g).ride = s.ride := rfl
@[simp] theorem modWin_sounder : (s.modWin c g).sounder = s.sounder := rfl
@[simp] theorem modWin_furrows : (s.modWin c g).furrows = s.furrows := rfl
@[simp] theorem modWin_pairs : (s.modWin c g).pairs = s.pairs := rfl
@[simp] theorem modWin_pwm : (s.modWin c g).pwm = s.pwm := rfl
@[simp] theorem modWin_fltActive : (s.modWin c g).fltActive = s.fltActive := rfl
@[simp] theorem modWin_lanes : (s.modWin c g).lanes = s.lanes := rfl
@[simp] theorem modWin_nodes : (s.modWin c g).nodes = s.nodes := rfl
@[simp] theorem modWin_remotes : (s.modWin c g).remotes = s.remotes := rfl
@[simp] theorem modWin_arms : (s.modWin c g).arms = s.arms := rfl
@[simp] theorem modWin_shears : (s.modWin c g).shears = s.shears := rfl
@[simp] theorem modWin_cloche : (s.modWin c g).cloche = s.cloche := rfl
@[simp] theorem modWin_time : (s.modWin c g).time = s.time := rfl
@[simp] theorem modWin_harvest : (s.modWin c g).harvest = s.harvest := rfl
@[simp] theorem modWin_shared : (s.modWin c g).shared = s.shared := rfl
@[simp] theorem modWin_prior : (s.modWin c g).prior = s.prior := rfl
@[simp] theorem modWin_net : (s.modWin c g).net = s.net := rfl
@[simp] theorem modWin_rst : (s.modWin c g).rst = s.rst := rfl
@[simp] theorem modWin_slanes : (s.modWin c g).slanes = s.slanes := rfl
@[simp] theorem modWin_graft : (s.modWin c g).graft = s.graft := rfl
@[simp] theorem modWin_runner : (s.modWin c g).runner = s.runner := rfl
@[simp] theorem modWin_cores : (s.modWin c g).cores = s.cores := rfl
@[simp] theorem modWin_power : (s.modWin c g).power = s.power := rfl
@[simp] theorem modWin_root : (s.modWin c g).root = s.root := rfl
@[simp] theorem modWin_pending : (s.modWin c g).pending = s.pending := rfl
@[simp] theorem modWin_win : (s.modWin c g).win = vmod s.win c g := rfl

end modWin

/-! ## modLane -/

section modLane
variable (s : State) (l : Nat) (g : GateLane → GateLane)

@[simp] theorem modLane_ctl : (s.modLane l g).ctl = s.ctl := rfl
@[simp] theorem modLane_now : (s.modLane l g).now = s.now := rfl
@[simp] theorem modLane_regs : (s.modLane l g).regs = s.regs := rfl
@[simp] theorem modLane_active : (s.modLane l g).active = s.active := rfl
@[simp] theorem modLane_shadow : (s.modLane l g).shadow = s.shadow := rfl
@[simp] theorem modLane_rings : (s.modLane l g).rings = s.rings := rfl
@[simp] theorem modLane_eventSeq : (s.modLane l g).eventSeq = s.eventSeq := rfl
@[simp] theorem modLane_sessions : (s.modLane l g).sessions = s.sessions := rfl
@[simp] theorem modLane_coreReq : (s.modLane l g).coreReq = s.coreReq := rfl
@[simp] theorem modLane_sent : (s.modLane l g).sent = s.sent := rfl
@[simp] theorem modLane_draws : (s.modLane l g).draws = s.draws := rfl
@[simp] theorem modLane_sieve : (s.modLane l g).sieve = s.sieve := rfl
@[simp] theorem modLane_engines : (s.modLane l g).engines = s.engines := rfl
@[simp] theorem modLane_gf : (s.modLane l g).gf = s.gf := rfl
@[simp] theorem modLane_ride : (s.modLane l g).ride = s.ride := rfl
@[simp] theorem modLane_sounder : (s.modLane l g).sounder = s.sounder := rfl
@[simp] theorem modLane_furrows : (s.modLane l g).furrows = s.furrows := rfl
@[simp] theorem modLane_pairs : (s.modLane l g).pairs = s.pairs := rfl
@[simp] theorem modLane_pwm : (s.modLane l g).pwm = s.pwm := rfl
@[simp] theorem modLane_fltActive : (s.modLane l g).fltActive = s.fltActive := rfl
@[simp] theorem modLane_nodes : (s.modLane l g).nodes = s.nodes := rfl
@[simp] theorem modLane_remotes : (s.modLane l g).remotes = s.remotes := rfl
@[simp] theorem modLane_arms : (s.modLane l g).arms = s.arms := rfl
@[simp] theorem modLane_shears : (s.modLane l g).shears = s.shears := rfl
@[simp] theorem modLane_cloche : (s.modLane l g).cloche = s.cloche := rfl
@[simp] theorem modLane_time : (s.modLane l g).time = s.time := rfl
@[simp] theorem modLane_win : (s.modLane l g).win = s.win := rfl
@[simp] theorem modLane_harvest : (s.modLane l g).harvest = s.harvest := rfl
@[simp] theorem modLane_shared : (s.modLane l g).shared = s.shared := rfl
@[simp] theorem modLane_prior : (s.modLane l g).prior = s.prior := rfl
@[simp] theorem modLane_net : (s.modLane l g).net = s.net := rfl
@[simp] theorem modLane_rst : (s.modLane l g).rst = s.rst := rfl
@[simp] theorem modLane_slanes : (s.modLane l g).slanes = s.slanes := rfl
@[simp] theorem modLane_graft : (s.modLane l g).graft = s.graft := rfl
@[simp] theorem modLane_runner : (s.modLane l g).runner = s.runner := rfl
@[simp] theorem modLane_cores : (s.modLane l g).cores = s.cores := rfl
@[simp] theorem modLane_power : (s.modLane l g).power = s.power := rfl
@[simp] theorem modLane_root : (s.modLane l g).root = s.root := rfl
@[simp] theorem modLane_pending : (s.modLane l g).pending = s.pending := rfl
@[simp] theorem modLane_lanes : (s.modLane l g).lanes = vmod s.lanes l g := rfl

end modLane

/-! ## modNode -/

section modNode
variable (s : State) (l n : Nat) (g : GateNode → GateNode)

@[simp] theorem modNode_ctl : (s.modNode l n g).ctl = s.ctl := rfl
@[simp] theorem modNode_now : (s.modNode l n g).now = s.now := rfl
@[simp] theorem modNode_regs : (s.modNode l n g).regs = s.regs := rfl
@[simp] theorem modNode_active : (s.modNode l n g).active = s.active := rfl
@[simp] theorem modNode_shadow : (s.modNode l n g).shadow = s.shadow := rfl
@[simp] theorem modNode_rings : (s.modNode l n g).rings = s.rings := rfl
@[simp] theorem modNode_eventSeq : (s.modNode l n g).eventSeq = s.eventSeq := rfl
@[simp] theorem modNode_sessions : (s.modNode l n g).sessions = s.sessions := rfl
@[simp] theorem modNode_coreReq : (s.modNode l n g).coreReq = s.coreReq := rfl
@[simp] theorem modNode_sent : (s.modNode l n g).sent = s.sent := rfl
@[simp] theorem modNode_draws : (s.modNode l n g).draws = s.draws := rfl
@[simp] theorem modNode_sieve : (s.modNode l n g).sieve = s.sieve := rfl
@[simp] theorem modNode_engines : (s.modNode l n g).engines = s.engines := rfl
@[simp] theorem modNode_gf : (s.modNode l n g).gf = s.gf := rfl
@[simp] theorem modNode_ride : (s.modNode l n g).ride = s.ride := rfl
@[simp] theorem modNode_sounder : (s.modNode l n g).sounder = s.sounder := rfl
@[simp] theorem modNode_furrows : (s.modNode l n g).furrows = s.furrows := rfl
@[simp] theorem modNode_pairs : (s.modNode l n g).pairs = s.pairs := rfl
@[simp] theorem modNode_pwm : (s.modNode l n g).pwm = s.pwm := rfl
@[simp] theorem modNode_fltActive : (s.modNode l n g).fltActive = s.fltActive := rfl
@[simp] theorem modNode_lanes : (s.modNode l n g).lanes = s.lanes := rfl
@[simp] theorem modNode_remotes : (s.modNode l n g).remotes = s.remotes := rfl
@[simp] theorem modNode_arms : (s.modNode l n g).arms = s.arms := rfl
@[simp] theorem modNode_shears : (s.modNode l n g).shears = s.shears := rfl
@[simp] theorem modNode_cloche : (s.modNode l n g).cloche = s.cloche := rfl
@[simp] theorem modNode_time : (s.modNode l n g).time = s.time := rfl
@[simp] theorem modNode_win : (s.modNode l n g).win = s.win := rfl
@[simp] theorem modNode_harvest : (s.modNode l n g).harvest = s.harvest := rfl
@[simp] theorem modNode_shared : (s.modNode l n g).shared = s.shared := rfl
@[simp] theorem modNode_prior : (s.modNode l n g).prior = s.prior := rfl
@[simp] theorem modNode_net : (s.modNode l n g).net = s.net := rfl
@[simp] theorem modNode_rst : (s.modNode l n g).rst = s.rst := rfl
@[simp] theorem modNode_slanes : (s.modNode l n g).slanes = s.slanes := rfl
@[simp] theorem modNode_graft : (s.modNode l n g).graft = s.graft := rfl
@[simp] theorem modNode_runner : (s.modNode l n g).runner = s.runner := rfl
@[simp] theorem modNode_cores : (s.modNode l n g).cores = s.cores := rfl
@[simp] theorem modNode_power : (s.modNode l n g).power = s.power := rfl
@[simp] theorem modNode_root : (s.modNode l n g).root = s.root := rfl
@[simp] theorem modNode_pending : (s.modNode l n g).pending = s.pending := rfl
@[simp] theorem modNode_nodes : (s.modNode l n g).nodes = vmod s.nodes (l * 24 + n) g := rfl

end modNode

/-! ## modRemote -/

section modRemote
variable (s : State) (l p : Nat) (g : RemotePair → RemotePair)

@[simp] theorem modRemote_ctl : (s.modRemote l p g).ctl = s.ctl := rfl
@[simp] theorem modRemote_now : (s.modRemote l p g).now = s.now := rfl
@[simp] theorem modRemote_regs : (s.modRemote l p g).regs = s.regs := rfl
@[simp] theorem modRemote_active : (s.modRemote l p g).active = s.active := rfl
@[simp] theorem modRemote_shadow : (s.modRemote l p g).shadow = s.shadow := rfl
@[simp] theorem modRemote_rings : (s.modRemote l p g).rings = s.rings := rfl
@[simp] theorem modRemote_eventSeq : (s.modRemote l p g).eventSeq = s.eventSeq := rfl
@[simp] theorem modRemote_sessions : (s.modRemote l p g).sessions = s.sessions := rfl
@[simp] theorem modRemote_coreReq : (s.modRemote l p g).coreReq = s.coreReq := rfl
@[simp] theorem modRemote_sent : (s.modRemote l p g).sent = s.sent := rfl
@[simp] theorem modRemote_draws : (s.modRemote l p g).draws = s.draws := rfl
@[simp] theorem modRemote_sieve : (s.modRemote l p g).sieve = s.sieve := rfl
@[simp] theorem modRemote_engines : (s.modRemote l p g).engines = s.engines := rfl
@[simp] theorem modRemote_gf : (s.modRemote l p g).gf = s.gf := rfl
@[simp] theorem modRemote_ride : (s.modRemote l p g).ride = s.ride := rfl
@[simp] theorem modRemote_sounder : (s.modRemote l p g).sounder = s.sounder := rfl
@[simp] theorem modRemote_furrows : (s.modRemote l p g).furrows = s.furrows := rfl
@[simp] theorem modRemote_pairs : (s.modRemote l p g).pairs = s.pairs := rfl
@[simp] theorem modRemote_pwm : (s.modRemote l p g).pwm = s.pwm := rfl
@[simp] theorem modRemote_fltActive : (s.modRemote l p g).fltActive = s.fltActive := rfl
@[simp] theorem modRemote_lanes : (s.modRemote l p g).lanes = s.lanes := rfl
@[simp] theorem modRemote_nodes : (s.modRemote l p g).nodes = s.nodes := rfl
@[simp] theorem modRemote_arms : (s.modRemote l p g).arms = s.arms := rfl
@[simp] theorem modRemote_shears : (s.modRemote l p g).shears = s.shears := rfl
@[simp] theorem modRemote_cloche : (s.modRemote l p g).cloche = s.cloche := rfl
@[simp] theorem modRemote_time : (s.modRemote l p g).time = s.time := rfl
@[simp] theorem modRemote_win : (s.modRemote l p g).win = s.win := rfl
@[simp] theorem modRemote_harvest : (s.modRemote l p g).harvest = s.harvest := rfl
@[simp] theorem modRemote_shared : (s.modRemote l p g).shared = s.shared := rfl
@[simp] theorem modRemote_prior : (s.modRemote l p g).prior = s.prior := rfl
@[simp] theorem modRemote_net : (s.modRemote l p g).net = s.net := rfl
@[simp] theorem modRemote_rst : (s.modRemote l p g).rst = s.rst := rfl
@[simp] theorem modRemote_slanes : (s.modRemote l p g).slanes = s.slanes := rfl
@[simp] theorem modRemote_graft : (s.modRemote l p g).graft = s.graft := rfl
@[simp] theorem modRemote_runner : (s.modRemote l p g).runner = s.runner := rfl
@[simp] theorem modRemote_cores : (s.modRemote l p g).cores = s.cores := rfl
@[simp] theorem modRemote_power : (s.modRemote l p g).power = s.power := rfl
@[simp] theorem modRemote_root : (s.modRemote l p g).root = s.root := rfl
@[simp] theorem modRemote_pending : (s.modRemote l p g).pending = s.pending := rfl
@[simp] theorem modRemote_remotes : (s.modRemote l p g).remotes = vmod s.remotes (l * 24 + p) g := rfl

end modRemote

/-! ## modArm -/

section modArm
variable (s : State) (a : Nat) (g : RakeArm → RakeArm)

@[simp] theorem modArm_ctl : (s.modArm a g).ctl = s.ctl := rfl
@[simp] theorem modArm_now : (s.modArm a g).now = s.now := rfl
@[simp] theorem modArm_regs : (s.modArm a g).regs = s.regs := rfl
@[simp] theorem modArm_active : (s.modArm a g).active = s.active := rfl
@[simp] theorem modArm_shadow : (s.modArm a g).shadow = s.shadow := rfl
@[simp] theorem modArm_rings : (s.modArm a g).rings = s.rings := rfl
@[simp] theorem modArm_eventSeq : (s.modArm a g).eventSeq = s.eventSeq := rfl
@[simp] theorem modArm_sessions : (s.modArm a g).sessions = s.sessions := rfl
@[simp] theorem modArm_coreReq : (s.modArm a g).coreReq = s.coreReq := rfl
@[simp] theorem modArm_sent : (s.modArm a g).sent = s.sent := rfl
@[simp] theorem modArm_draws : (s.modArm a g).draws = s.draws := rfl
@[simp] theorem modArm_sieve : (s.modArm a g).sieve = s.sieve := rfl
@[simp] theorem modArm_engines : (s.modArm a g).engines = s.engines := rfl
@[simp] theorem modArm_gf : (s.modArm a g).gf = s.gf := rfl
@[simp] theorem modArm_ride : (s.modArm a g).ride = s.ride := rfl
@[simp] theorem modArm_sounder : (s.modArm a g).sounder = s.sounder := rfl
@[simp] theorem modArm_furrows : (s.modArm a g).furrows = s.furrows := rfl
@[simp] theorem modArm_pairs : (s.modArm a g).pairs = s.pairs := rfl
@[simp] theorem modArm_pwm : (s.modArm a g).pwm = s.pwm := rfl
@[simp] theorem modArm_fltActive : (s.modArm a g).fltActive = s.fltActive := rfl
@[simp] theorem modArm_lanes : (s.modArm a g).lanes = s.lanes := rfl
@[simp] theorem modArm_nodes : (s.modArm a g).nodes = s.nodes := rfl
@[simp] theorem modArm_remotes : (s.modArm a g).remotes = s.remotes := rfl
@[simp] theorem modArm_shears : (s.modArm a g).shears = s.shears := rfl
@[simp] theorem modArm_cloche : (s.modArm a g).cloche = s.cloche := rfl
@[simp] theorem modArm_time : (s.modArm a g).time = s.time := rfl
@[simp] theorem modArm_win : (s.modArm a g).win = s.win := rfl
@[simp] theorem modArm_harvest : (s.modArm a g).harvest = s.harvest := rfl
@[simp] theorem modArm_shared : (s.modArm a g).shared = s.shared := rfl
@[simp] theorem modArm_prior : (s.modArm a g).prior = s.prior := rfl
@[simp] theorem modArm_net : (s.modArm a g).net = s.net := rfl
@[simp] theorem modArm_rst : (s.modArm a g).rst = s.rst := rfl
@[simp] theorem modArm_slanes : (s.modArm a g).slanes = s.slanes := rfl
@[simp] theorem modArm_graft : (s.modArm a g).graft = s.graft := rfl
@[simp] theorem modArm_runner : (s.modArm a g).runner = s.runner := rfl
@[simp] theorem modArm_cores : (s.modArm a g).cores = s.cores := rfl
@[simp] theorem modArm_power : (s.modArm a g).power = s.power := rfl
@[simp] theorem modArm_root : (s.modArm a g).root = s.root := rfl
@[simp] theorem modArm_pending : (s.modArm a g).pending = s.pending := rfl
@[simp] theorem modArm_arms : (s.modArm a g).arms = vmod s.arms a g := rfl

end modArm

/-! ## modHunit -/

section modHunit
variable (s : State) (u : Nat) (g : HarvestUnit → HarvestUnit)

@[simp] theorem modHunit_ctl : (s.modHunit u g).ctl = s.ctl := rfl
@[simp] theorem modHunit_now : (s.modHunit u g).now = s.now := rfl
@[simp] theorem modHunit_regs : (s.modHunit u g).regs = s.regs := rfl
@[simp] theorem modHunit_active : (s.modHunit u g).active = s.active := rfl
@[simp] theorem modHunit_shadow : (s.modHunit u g).shadow = s.shadow := rfl
@[simp] theorem modHunit_rings : (s.modHunit u g).rings = s.rings := rfl
@[simp] theorem modHunit_eventSeq : (s.modHunit u g).eventSeq = s.eventSeq := rfl
@[simp] theorem modHunit_sessions : (s.modHunit u g).sessions = s.sessions := rfl
@[simp] theorem modHunit_coreReq : (s.modHunit u g).coreReq = s.coreReq := rfl
@[simp] theorem modHunit_sent : (s.modHunit u g).sent = s.sent := rfl
@[simp] theorem modHunit_draws : (s.modHunit u g).draws = s.draws := rfl
@[simp] theorem modHunit_sieve : (s.modHunit u g).sieve = s.sieve := rfl
@[simp] theorem modHunit_engines : (s.modHunit u g).engines = s.engines := rfl
@[simp] theorem modHunit_gf : (s.modHunit u g).gf = s.gf := rfl
@[simp] theorem modHunit_ride : (s.modHunit u g).ride = s.ride := rfl
@[simp] theorem modHunit_sounder : (s.modHunit u g).sounder = s.sounder := rfl
@[simp] theorem modHunit_furrows : (s.modHunit u g).furrows = s.furrows := rfl
@[simp] theorem modHunit_pairs : (s.modHunit u g).pairs = s.pairs := rfl
@[simp] theorem modHunit_pwm : (s.modHunit u g).pwm = s.pwm := rfl
@[simp] theorem modHunit_fltActive : (s.modHunit u g).fltActive = s.fltActive := rfl
@[simp] theorem modHunit_lanes : (s.modHunit u g).lanes = s.lanes := rfl
@[simp] theorem modHunit_nodes : (s.modHunit u g).nodes = s.nodes := rfl
@[simp] theorem modHunit_remotes : (s.modHunit u g).remotes = s.remotes := rfl
@[simp] theorem modHunit_arms : (s.modHunit u g).arms = s.arms := rfl
@[simp] theorem modHunit_shears : (s.modHunit u g).shears = s.shears := rfl
@[simp] theorem modHunit_cloche : (s.modHunit u g).cloche = s.cloche := rfl
@[simp] theorem modHunit_time : (s.modHunit u g).time = s.time := rfl
@[simp] theorem modHunit_win : (s.modHunit u g).win = s.win := rfl
@[simp] theorem modHunit_shared : (s.modHunit u g).shared = s.shared := rfl
@[simp] theorem modHunit_prior : (s.modHunit u g).prior = s.prior := rfl
@[simp] theorem modHunit_net : (s.modHunit u g).net = s.net := rfl
@[simp] theorem modHunit_rst : (s.modHunit u g).rst = s.rst := rfl
@[simp] theorem modHunit_slanes : (s.modHunit u g).slanes = s.slanes := rfl
@[simp] theorem modHunit_graft : (s.modHunit u g).graft = s.graft := rfl
@[simp] theorem modHunit_runner : (s.modHunit u g).runner = s.runner := rfl
@[simp] theorem modHunit_cores : (s.modHunit u g).cores = s.cores := rfl
@[simp] theorem modHunit_power : (s.modHunit u g).power = s.power := rfl
@[simp] theorem modHunit_root : (s.modHunit u g).root = s.root := rfl
@[simp] theorem modHunit_pending : (s.modHunit u g).pending = s.pending := rfl
@[simp] theorem modHunit_harvest : (s.modHunit u g).harvest = vmod s.harvest u g := rfl

end modHunit

/-! ## modSlane -/

section modSlane
variable (s : State) (l : Nat) (g : SerialLane → SerialLane)

@[simp] theorem modSlane_ctl : (s.modSlane l g).ctl = s.ctl := rfl
@[simp] theorem modSlane_now : (s.modSlane l g).now = s.now := rfl
@[simp] theorem modSlane_regs : (s.modSlane l g).regs = s.regs := rfl
@[simp] theorem modSlane_active : (s.modSlane l g).active = s.active := rfl
@[simp] theorem modSlane_shadow : (s.modSlane l g).shadow = s.shadow := rfl
@[simp] theorem modSlane_rings : (s.modSlane l g).rings = s.rings := rfl
@[simp] theorem modSlane_eventSeq : (s.modSlane l g).eventSeq = s.eventSeq := rfl
@[simp] theorem modSlane_sessions : (s.modSlane l g).sessions = s.sessions := rfl
@[simp] theorem modSlane_coreReq : (s.modSlane l g).coreReq = s.coreReq := rfl
@[simp] theorem modSlane_sent : (s.modSlane l g).sent = s.sent := rfl
@[simp] theorem modSlane_draws : (s.modSlane l g).draws = s.draws := rfl
@[simp] theorem modSlane_sieve : (s.modSlane l g).sieve = s.sieve := rfl
@[simp] theorem modSlane_engines : (s.modSlane l g).engines = s.engines := rfl
@[simp] theorem modSlane_gf : (s.modSlane l g).gf = s.gf := rfl
@[simp] theorem modSlane_ride : (s.modSlane l g).ride = s.ride := rfl
@[simp] theorem modSlane_sounder : (s.modSlane l g).sounder = s.sounder := rfl
@[simp] theorem modSlane_furrows : (s.modSlane l g).furrows = s.furrows := rfl
@[simp] theorem modSlane_pairs : (s.modSlane l g).pairs = s.pairs := rfl
@[simp] theorem modSlane_pwm : (s.modSlane l g).pwm = s.pwm := rfl
@[simp] theorem modSlane_fltActive : (s.modSlane l g).fltActive = s.fltActive := rfl
@[simp] theorem modSlane_lanes : (s.modSlane l g).lanes = s.lanes := rfl
@[simp] theorem modSlane_nodes : (s.modSlane l g).nodes = s.nodes := rfl
@[simp] theorem modSlane_remotes : (s.modSlane l g).remotes = s.remotes := rfl
@[simp] theorem modSlane_arms : (s.modSlane l g).arms = s.arms := rfl
@[simp] theorem modSlane_shears : (s.modSlane l g).shears = s.shears := rfl
@[simp] theorem modSlane_cloche : (s.modSlane l g).cloche = s.cloche := rfl
@[simp] theorem modSlane_time : (s.modSlane l g).time = s.time := rfl
@[simp] theorem modSlane_win : (s.modSlane l g).win = s.win := rfl
@[simp] theorem modSlane_harvest : (s.modSlane l g).harvest = s.harvest := rfl
@[simp] theorem modSlane_shared : (s.modSlane l g).shared = s.shared := rfl
@[simp] theorem modSlane_prior : (s.modSlane l g).prior = s.prior := rfl
@[simp] theorem modSlane_net : (s.modSlane l g).net = s.net := rfl
@[simp] theorem modSlane_rst : (s.modSlane l g).rst = s.rst := rfl
@[simp] theorem modSlane_graft : (s.modSlane l g).graft = s.graft := rfl
@[simp] theorem modSlane_runner : (s.modSlane l g).runner = s.runner := rfl
@[simp] theorem modSlane_cores : (s.modSlane l g).cores = s.cores := rfl
@[simp] theorem modSlane_power : (s.modSlane l g).power = s.power := rfl
@[simp] theorem modSlane_root : (s.modSlane l g).root = s.root := rfl
@[simp] theorem modSlane_pending : (s.modSlane l g).pending = s.pending := rfl
@[simp] theorem modSlane_slanes : (s.modSlane l g).slanes = vmod s.slanes l g := rfl

end modSlane

/-! ## modEngine -/

section modEngine
variable (s : State) (e : Nat) (g : Engine → Engine)

@[simp] theorem modEngine_ctl : (s.modEngine e g).ctl = s.ctl := rfl
@[simp] theorem modEngine_now : (s.modEngine e g).now = s.now := rfl
@[simp] theorem modEngine_regs : (s.modEngine e g).regs = s.regs := rfl
@[simp] theorem modEngine_active : (s.modEngine e g).active = s.active := rfl
@[simp] theorem modEngine_shadow : (s.modEngine e g).shadow = s.shadow := rfl
@[simp] theorem modEngine_rings : (s.modEngine e g).rings = s.rings := rfl
@[simp] theorem modEngine_eventSeq : (s.modEngine e g).eventSeq = s.eventSeq := rfl
@[simp] theorem modEngine_sessions : (s.modEngine e g).sessions = s.sessions := rfl
@[simp] theorem modEngine_coreReq : (s.modEngine e g).coreReq = s.coreReq := rfl
@[simp] theorem modEngine_sent : (s.modEngine e g).sent = s.sent := rfl
@[simp] theorem modEngine_draws : (s.modEngine e g).draws = s.draws := rfl
@[simp] theorem modEngine_sieve : (s.modEngine e g).sieve = s.sieve := rfl
@[simp] theorem modEngine_gf : (s.modEngine e g).gf = s.gf := rfl
@[simp] theorem modEngine_ride : (s.modEngine e g).ride = s.ride := rfl
@[simp] theorem modEngine_sounder : (s.modEngine e g).sounder = s.sounder := rfl
@[simp] theorem modEngine_furrows : (s.modEngine e g).furrows = s.furrows := rfl
@[simp] theorem modEngine_pairs : (s.modEngine e g).pairs = s.pairs := rfl
@[simp] theorem modEngine_pwm : (s.modEngine e g).pwm = s.pwm := rfl
@[simp] theorem modEngine_fltActive : (s.modEngine e g).fltActive = s.fltActive := rfl
@[simp] theorem modEngine_lanes : (s.modEngine e g).lanes = s.lanes := rfl
@[simp] theorem modEngine_nodes : (s.modEngine e g).nodes = s.nodes := rfl
@[simp] theorem modEngine_remotes : (s.modEngine e g).remotes = s.remotes := rfl
@[simp] theorem modEngine_arms : (s.modEngine e g).arms = s.arms := rfl
@[simp] theorem modEngine_shears : (s.modEngine e g).shears = s.shears := rfl
@[simp] theorem modEngine_cloche : (s.modEngine e g).cloche = s.cloche := rfl
@[simp] theorem modEngine_time : (s.modEngine e g).time = s.time := rfl
@[simp] theorem modEngine_win : (s.modEngine e g).win = s.win := rfl
@[simp] theorem modEngine_harvest : (s.modEngine e g).harvest = s.harvest := rfl
@[simp] theorem modEngine_shared : (s.modEngine e g).shared = s.shared := rfl
@[simp] theorem modEngine_prior : (s.modEngine e g).prior = s.prior := rfl
@[simp] theorem modEngine_net : (s.modEngine e g).net = s.net := rfl
@[simp] theorem modEngine_rst : (s.modEngine e g).rst = s.rst := rfl
@[simp] theorem modEngine_slanes : (s.modEngine e g).slanes = s.slanes := rfl
@[simp] theorem modEngine_graft : (s.modEngine e g).graft = s.graft := rfl
@[simp] theorem modEngine_runner : (s.modEngine e g).runner = s.runner := rfl
@[simp] theorem modEngine_cores : (s.modEngine e g).cores = s.cores := rfl
@[simp] theorem modEngine_power : (s.modEngine e g).power = s.power := rfl
@[simp] theorem modEngine_root : (s.modEngine e g).root = s.root := rfl
@[simp] theorem modEngine_pending : (s.modEngine e g).pending = s.pending := rfl
@[simp] theorem modEngine_engines : (s.modEngine e g).engines = vmod s.engines e g := rfl

end modEngine

/-! ## modFurrow -/

section modFurrow
variable (s : State) (f : Nat) (g : Furrow → Furrow)

@[simp] theorem modFurrow_ctl : (s.modFurrow f g).ctl = s.ctl := rfl
@[simp] theorem modFurrow_now : (s.modFurrow f g).now = s.now := rfl
@[simp] theorem modFurrow_regs : (s.modFurrow f g).regs = s.regs := rfl
@[simp] theorem modFurrow_active : (s.modFurrow f g).active = s.active := rfl
@[simp] theorem modFurrow_shadow : (s.modFurrow f g).shadow = s.shadow := rfl
@[simp] theorem modFurrow_rings : (s.modFurrow f g).rings = s.rings := rfl
@[simp] theorem modFurrow_eventSeq : (s.modFurrow f g).eventSeq = s.eventSeq := rfl
@[simp] theorem modFurrow_sessions : (s.modFurrow f g).sessions = s.sessions := rfl
@[simp] theorem modFurrow_coreReq : (s.modFurrow f g).coreReq = s.coreReq := rfl
@[simp] theorem modFurrow_sent : (s.modFurrow f g).sent = s.sent := rfl
@[simp] theorem modFurrow_draws : (s.modFurrow f g).draws = s.draws := rfl
@[simp] theorem modFurrow_sieve : (s.modFurrow f g).sieve = s.sieve := rfl
@[simp] theorem modFurrow_engines : (s.modFurrow f g).engines = s.engines := rfl
@[simp] theorem modFurrow_gf : (s.modFurrow f g).gf = s.gf := rfl
@[simp] theorem modFurrow_ride : (s.modFurrow f g).ride = s.ride := rfl
@[simp] theorem modFurrow_sounder : (s.modFurrow f g).sounder = s.sounder := rfl
@[simp] theorem modFurrow_pairs : (s.modFurrow f g).pairs = s.pairs := rfl
@[simp] theorem modFurrow_pwm : (s.modFurrow f g).pwm = s.pwm := rfl
@[simp] theorem modFurrow_fltActive : (s.modFurrow f g).fltActive = s.fltActive := rfl
@[simp] theorem modFurrow_lanes : (s.modFurrow f g).lanes = s.lanes := rfl
@[simp] theorem modFurrow_nodes : (s.modFurrow f g).nodes = s.nodes := rfl
@[simp] theorem modFurrow_remotes : (s.modFurrow f g).remotes = s.remotes := rfl
@[simp] theorem modFurrow_arms : (s.modFurrow f g).arms = s.arms := rfl
@[simp] theorem modFurrow_shears : (s.modFurrow f g).shears = s.shears := rfl
@[simp] theorem modFurrow_cloche : (s.modFurrow f g).cloche = s.cloche := rfl
@[simp] theorem modFurrow_time : (s.modFurrow f g).time = s.time := rfl
@[simp] theorem modFurrow_win : (s.modFurrow f g).win = s.win := rfl
@[simp] theorem modFurrow_harvest : (s.modFurrow f g).harvest = s.harvest := rfl
@[simp] theorem modFurrow_shared : (s.modFurrow f g).shared = s.shared := rfl
@[simp] theorem modFurrow_prior : (s.modFurrow f g).prior = s.prior := rfl
@[simp] theorem modFurrow_net : (s.modFurrow f g).net = s.net := rfl
@[simp] theorem modFurrow_rst : (s.modFurrow f g).rst = s.rst := rfl
@[simp] theorem modFurrow_slanes : (s.modFurrow f g).slanes = s.slanes := rfl
@[simp] theorem modFurrow_graft : (s.modFurrow f g).graft = s.graft := rfl
@[simp] theorem modFurrow_runner : (s.modFurrow f g).runner = s.runner := rfl
@[simp] theorem modFurrow_cores : (s.modFurrow f g).cores = s.cores := rfl
@[simp] theorem modFurrow_power : (s.modFurrow f g).power = s.power := rfl
@[simp] theorem modFurrow_root : (s.modFurrow f g).root = s.root := rfl
@[simp] theorem modFurrow_pending : (s.modFurrow f g).pending = s.pending := rfl
@[simp] theorem modFurrow_furrows : (s.modFurrow f g).furrows = vmod s.furrows f g := rfl

end modFurrow

/-! ## modPair -/

section modPair
variable (s : State) (p : Nat) (g : LocalPair → LocalPair)

@[simp] theorem modPair_ctl : (s.modPair p g).ctl = s.ctl := rfl
@[simp] theorem modPair_now : (s.modPair p g).now = s.now := rfl
@[simp] theorem modPair_regs : (s.modPair p g).regs = s.regs := rfl
@[simp] theorem modPair_active : (s.modPair p g).active = s.active := rfl
@[simp] theorem modPair_shadow : (s.modPair p g).shadow = s.shadow := rfl
@[simp] theorem modPair_rings : (s.modPair p g).rings = s.rings := rfl
@[simp] theorem modPair_eventSeq : (s.modPair p g).eventSeq = s.eventSeq := rfl
@[simp] theorem modPair_sessions : (s.modPair p g).sessions = s.sessions := rfl
@[simp] theorem modPair_coreReq : (s.modPair p g).coreReq = s.coreReq := rfl
@[simp] theorem modPair_sent : (s.modPair p g).sent = s.sent := rfl
@[simp] theorem modPair_draws : (s.modPair p g).draws = s.draws := rfl
@[simp] theorem modPair_sieve : (s.modPair p g).sieve = s.sieve := rfl
@[simp] theorem modPair_engines : (s.modPair p g).engines = s.engines := rfl
@[simp] theorem modPair_gf : (s.modPair p g).gf = s.gf := rfl
@[simp] theorem modPair_ride : (s.modPair p g).ride = s.ride := rfl
@[simp] theorem modPair_sounder : (s.modPair p g).sounder = s.sounder := rfl
@[simp] theorem modPair_furrows : (s.modPair p g).furrows = s.furrows := rfl
@[simp] theorem modPair_pwm : (s.modPair p g).pwm = s.pwm := rfl
@[simp] theorem modPair_fltActive : (s.modPair p g).fltActive = s.fltActive := rfl
@[simp] theorem modPair_lanes : (s.modPair p g).lanes = s.lanes := rfl
@[simp] theorem modPair_nodes : (s.modPair p g).nodes = s.nodes := rfl
@[simp] theorem modPair_remotes : (s.modPair p g).remotes = s.remotes := rfl
@[simp] theorem modPair_arms : (s.modPair p g).arms = s.arms := rfl
@[simp] theorem modPair_shears : (s.modPair p g).shears = s.shears := rfl
@[simp] theorem modPair_cloche : (s.modPair p g).cloche = s.cloche := rfl
@[simp] theorem modPair_time : (s.modPair p g).time = s.time := rfl
@[simp] theorem modPair_win : (s.modPair p g).win = s.win := rfl
@[simp] theorem modPair_harvest : (s.modPair p g).harvest = s.harvest := rfl
@[simp] theorem modPair_shared : (s.modPair p g).shared = s.shared := rfl
@[simp] theorem modPair_prior : (s.modPair p g).prior = s.prior := rfl
@[simp] theorem modPair_net : (s.modPair p g).net = s.net := rfl
@[simp] theorem modPair_rst : (s.modPair p g).rst = s.rst := rfl
@[simp] theorem modPair_slanes : (s.modPair p g).slanes = s.slanes := rfl
@[simp] theorem modPair_graft : (s.modPair p g).graft = s.graft := rfl
@[simp] theorem modPair_runner : (s.modPair p g).runner = s.runner := rfl
@[simp] theorem modPair_cores : (s.modPair p g).cores = s.cores := rfl
@[simp] theorem modPair_power : (s.modPair p g).power = s.power := rfl
@[simp] theorem modPair_root : (s.modPair p g).root = s.root := rfl
@[simp] theorem modPair_pending : (s.modPair p g).pending = s.pending := rfl
@[simp] theorem modPair_pairs : (s.modPair p g).pairs = vmod s.pairs p g := rfl

end modPair

/-! ## modSession -/

section modSession
variable (s : State) (n : Nat) (g : Session → Session)

@[simp] theorem modSession_ctl : (s.modSession n g).ctl = s.ctl := rfl
@[simp] theorem modSession_now : (s.modSession n g).now = s.now := rfl
@[simp] theorem modSession_regs : (s.modSession n g).regs = s.regs := rfl
@[simp] theorem modSession_active : (s.modSession n g).active = s.active := rfl
@[simp] theorem modSession_shadow : (s.modSession n g).shadow = s.shadow := rfl
@[simp] theorem modSession_rings : (s.modSession n g).rings = s.rings := rfl
@[simp] theorem modSession_eventSeq : (s.modSession n g).eventSeq = s.eventSeq := rfl
@[simp] theorem modSession_coreReq : (s.modSession n g).coreReq = s.coreReq := rfl
@[simp] theorem modSession_sent : (s.modSession n g).sent = s.sent := rfl
@[simp] theorem modSession_draws : (s.modSession n g).draws = s.draws := rfl
@[simp] theorem modSession_sieve : (s.modSession n g).sieve = s.sieve := rfl
@[simp] theorem modSession_engines : (s.modSession n g).engines = s.engines := rfl
@[simp] theorem modSession_gf : (s.modSession n g).gf = s.gf := rfl
@[simp] theorem modSession_ride : (s.modSession n g).ride = s.ride := rfl
@[simp] theorem modSession_sounder : (s.modSession n g).sounder = s.sounder := rfl
@[simp] theorem modSession_furrows : (s.modSession n g).furrows = s.furrows := rfl
@[simp] theorem modSession_pairs : (s.modSession n g).pairs = s.pairs := rfl
@[simp] theorem modSession_pwm : (s.modSession n g).pwm = s.pwm := rfl
@[simp] theorem modSession_fltActive : (s.modSession n g).fltActive = s.fltActive := rfl
@[simp] theorem modSession_lanes : (s.modSession n g).lanes = s.lanes := rfl
@[simp] theorem modSession_nodes : (s.modSession n g).nodes = s.nodes := rfl
@[simp] theorem modSession_remotes : (s.modSession n g).remotes = s.remotes := rfl
@[simp] theorem modSession_arms : (s.modSession n g).arms = s.arms := rfl
@[simp] theorem modSession_shears : (s.modSession n g).shears = s.shears := rfl
@[simp] theorem modSession_cloche : (s.modSession n g).cloche = s.cloche := rfl
@[simp] theorem modSession_time : (s.modSession n g).time = s.time := rfl
@[simp] theorem modSession_win : (s.modSession n g).win = s.win := rfl
@[simp] theorem modSession_harvest : (s.modSession n g).harvest = s.harvest := rfl
@[simp] theorem modSession_shared : (s.modSession n g).shared = s.shared := rfl
@[simp] theorem modSession_prior : (s.modSession n g).prior = s.prior := rfl
@[simp] theorem modSession_net : (s.modSession n g).net = s.net := rfl
@[simp] theorem modSession_rst : (s.modSession n g).rst = s.rst := rfl
@[simp] theorem modSession_slanes : (s.modSession n g).slanes = s.slanes := rfl
@[simp] theorem modSession_graft : (s.modSession n g).graft = s.graft := rfl
@[simp] theorem modSession_runner : (s.modSession n g).runner = s.runner := rfl
@[simp] theorem modSession_cores : (s.modSession n g).cores = s.cores := rfl
@[simp] theorem modSession_power : (s.modSession n g).power = s.power := rfl
@[simp] theorem modSession_root : (s.modSession n g).root = s.root := rfl
@[simp] theorem modSession_pending : (s.modSession n g).pending = s.pending := rfl
@[simp] theorem modSession_sessions : (s.modSession n g).sessions = vmod s.sessions n g := rfl

end modSession

/-! ## setBeds -/

section setBeds
variable (s : State) (a b : Store)

@[simp] theorem setBeds_ctl : (s.setBeds a b).ctl = s.ctl := rfl
@[simp] theorem setBeds_now : (s.setBeds a b).now = s.now := rfl
@[simp] theorem setBeds_regs : (s.setBeds a b).regs = s.regs := rfl
@[simp] theorem setBeds_rings : (s.setBeds a b).rings = s.rings := rfl
@[simp] theorem setBeds_eventSeq : (s.setBeds a b).eventSeq = s.eventSeq := rfl
@[simp] theorem setBeds_sessions : (s.setBeds a b).sessions = s.sessions := rfl
@[simp] theorem setBeds_coreReq : (s.setBeds a b).coreReq = s.coreReq := rfl
@[simp] theorem setBeds_sent : (s.setBeds a b).sent = s.sent := rfl
@[simp] theorem setBeds_draws : (s.setBeds a b).draws = s.draws := rfl
@[simp] theorem setBeds_sieve : (s.setBeds a b).sieve = s.sieve := rfl
@[simp] theorem setBeds_engines : (s.setBeds a b).engines = s.engines := rfl
@[simp] theorem setBeds_gf : (s.setBeds a b).gf = s.gf := rfl
@[simp] theorem setBeds_ride : (s.setBeds a b).ride = s.ride := rfl
@[simp] theorem setBeds_sounder : (s.setBeds a b).sounder = s.sounder := rfl
@[simp] theorem setBeds_furrows : (s.setBeds a b).furrows = s.furrows := rfl
@[simp] theorem setBeds_pairs : (s.setBeds a b).pairs = s.pairs := rfl
@[simp] theorem setBeds_pwm : (s.setBeds a b).pwm = s.pwm := rfl
@[simp] theorem setBeds_fltActive : (s.setBeds a b).fltActive = s.fltActive := rfl
@[simp] theorem setBeds_lanes : (s.setBeds a b).lanes = s.lanes := rfl
@[simp] theorem setBeds_nodes : (s.setBeds a b).nodes = s.nodes := rfl
@[simp] theorem setBeds_remotes : (s.setBeds a b).remotes = s.remotes := rfl
@[simp] theorem setBeds_arms : (s.setBeds a b).arms = s.arms := rfl
@[simp] theorem setBeds_shears : (s.setBeds a b).shears = s.shears := rfl
@[simp] theorem setBeds_cloche : (s.setBeds a b).cloche = s.cloche := rfl
@[simp] theorem setBeds_time : (s.setBeds a b).time = s.time := rfl
@[simp] theorem setBeds_win : (s.setBeds a b).win = s.win := rfl
@[simp] theorem setBeds_harvest : (s.setBeds a b).harvest = s.harvest := rfl
@[simp] theorem setBeds_shared : (s.setBeds a b).shared = s.shared := rfl
@[simp] theorem setBeds_prior : (s.setBeds a b).prior = s.prior := rfl
@[simp] theorem setBeds_net : (s.setBeds a b).net = s.net := rfl
@[simp] theorem setBeds_rst : (s.setBeds a b).rst = s.rst := rfl
@[simp] theorem setBeds_slanes : (s.setBeds a b).slanes = s.slanes := rfl
@[simp] theorem setBeds_graft : (s.setBeds a b).graft = s.graft := rfl
@[simp] theorem setBeds_runner : (s.setBeds a b).runner = s.runner := rfl
@[simp] theorem setBeds_cores : (s.setBeds a b).cores = s.cores := rfl
@[simp] theorem setBeds_power : (s.setBeds a b).power = s.power := rfl
@[simp] theorem setBeds_root : (s.setBeds a b).root = s.root := rfl
@[simp] theorem setBeds_pending : (s.setBeds a b).pending = s.pending := rfl
@[simp] theorem setBeds_active : (s.setBeds a b).active = a := rfl
@[simp] theorem setBeds_shadow : (s.setBeds a b).shadow = b := rfl

end setBeds

/-! ## setShadow -/

section setShadow
variable (s : State) (b : Store)

@[simp] theorem setShadow_ctl : (s.setShadow b).ctl = s.ctl := rfl
@[simp] theorem setShadow_now : (s.setShadow b).now = s.now := rfl
@[simp] theorem setShadow_regs : (s.setShadow b).regs = s.regs := rfl
@[simp] theorem setShadow_active : (s.setShadow b).active = s.active := rfl
@[simp] theorem setShadow_rings : (s.setShadow b).rings = s.rings := rfl
@[simp] theorem setShadow_eventSeq : (s.setShadow b).eventSeq = s.eventSeq := rfl
@[simp] theorem setShadow_sessions : (s.setShadow b).sessions = s.sessions := rfl
@[simp] theorem setShadow_coreReq : (s.setShadow b).coreReq = s.coreReq := rfl
@[simp] theorem setShadow_sent : (s.setShadow b).sent = s.sent := rfl
@[simp] theorem setShadow_draws : (s.setShadow b).draws = s.draws := rfl
@[simp] theorem setShadow_sieve : (s.setShadow b).sieve = s.sieve := rfl
@[simp] theorem setShadow_engines : (s.setShadow b).engines = s.engines := rfl
@[simp] theorem setShadow_gf : (s.setShadow b).gf = s.gf := rfl
@[simp] theorem setShadow_ride : (s.setShadow b).ride = s.ride := rfl
@[simp] theorem setShadow_sounder : (s.setShadow b).sounder = s.sounder := rfl
@[simp] theorem setShadow_furrows : (s.setShadow b).furrows = s.furrows := rfl
@[simp] theorem setShadow_pairs : (s.setShadow b).pairs = s.pairs := rfl
@[simp] theorem setShadow_pwm : (s.setShadow b).pwm = s.pwm := rfl
@[simp] theorem setShadow_fltActive : (s.setShadow b).fltActive = s.fltActive := rfl
@[simp] theorem setShadow_lanes : (s.setShadow b).lanes = s.lanes := rfl
@[simp] theorem setShadow_nodes : (s.setShadow b).nodes = s.nodes := rfl
@[simp] theorem setShadow_remotes : (s.setShadow b).remotes = s.remotes := rfl
@[simp] theorem setShadow_arms : (s.setShadow b).arms = s.arms := rfl
@[simp] theorem setShadow_shears : (s.setShadow b).shears = s.shears := rfl
@[simp] theorem setShadow_cloche : (s.setShadow b).cloche = s.cloche := rfl
@[simp] theorem setShadow_time : (s.setShadow b).time = s.time := rfl
@[simp] theorem setShadow_win : (s.setShadow b).win = s.win := rfl
@[simp] theorem setShadow_harvest : (s.setShadow b).harvest = s.harvest := rfl
@[simp] theorem setShadow_shared : (s.setShadow b).shared = s.shared := rfl
@[simp] theorem setShadow_prior : (s.setShadow b).prior = s.prior := rfl
@[simp] theorem setShadow_net : (s.setShadow b).net = s.net := rfl
@[simp] theorem setShadow_rst : (s.setShadow b).rst = s.rst := rfl
@[simp] theorem setShadow_slanes : (s.setShadow b).slanes = s.slanes := rfl
@[simp] theorem setShadow_graft : (s.setShadow b).graft = s.graft := rfl
@[simp] theorem setShadow_runner : (s.setShadow b).runner = s.runner := rfl
@[simp] theorem setShadow_cores : (s.setShadow b).cores = s.cores := rfl
@[simp] theorem setShadow_power : (s.setShadow b).power = s.power := rfl
@[simp] theorem setShadow_root : (s.setShadow b).root = s.root := rfl
@[simp] theorem setShadow_pending : (s.setShadow b).pending = s.pending := rfl
@[simp] theorem setShadow_shadow : (s.setShadow b).shadow = b := rfl

end setShadow

/-! ## setFlt -/

section setFlt
variable (s : State) (l : List Nat)

@[simp] theorem setFlt_ctl : (s.setFlt l).ctl = s.ctl := rfl
@[simp] theorem setFlt_now : (s.setFlt l).now = s.now := rfl
@[simp] theorem setFlt_regs : (s.setFlt l).regs = s.regs := rfl
@[simp] theorem setFlt_active : (s.setFlt l).active = s.active := rfl
@[simp] theorem setFlt_shadow : (s.setFlt l).shadow = s.shadow := rfl
@[simp] theorem setFlt_rings : (s.setFlt l).rings = s.rings := rfl
@[simp] theorem setFlt_eventSeq : (s.setFlt l).eventSeq = s.eventSeq := rfl
@[simp] theorem setFlt_sessions : (s.setFlt l).sessions = s.sessions := rfl
@[simp] theorem setFlt_coreReq : (s.setFlt l).coreReq = s.coreReq := rfl
@[simp] theorem setFlt_sent : (s.setFlt l).sent = s.sent := rfl
@[simp] theorem setFlt_draws : (s.setFlt l).draws = s.draws := rfl
@[simp] theorem setFlt_sieve : (s.setFlt l).sieve = s.sieve := rfl
@[simp] theorem setFlt_engines : (s.setFlt l).engines = s.engines := rfl
@[simp] theorem setFlt_gf : (s.setFlt l).gf = s.gf := rfl
@[simp] theorem setFlt_ride : (s.setFlt l).ride = s.ride := rfl
@[simp] theorem setFlt_sounder : (s.setFlt l).sounder = s.sounder := rfl
@[simp] theorem setFlt_furrows : (s.setFlt l).furrows = s.furrows := rfl
@[simp] theorem setFlt_pairs : (s.setFlt l).pairs = s.pairs := rfl
@[simp] theorem setFlt_pwm : (s.setFlt l).pwm = s.pwm := rfl
@[simp] theorem setFlt_lanes : (s.setFlt l).lanes = s.lanes := rfl
@[simp] theorem setFlt_nodes : (s.setFlt l).nodes = s.nodes := rfl
@[simp] theorem setFlt_remotes : (s.setFlt l).remotes = s.remotes := rfl
@[simp] theorem setFlt_arms : (s.setFlt l).arms = s.arms := rfl
@[simp] theorem setFlt_shears : (s.setFlt l).shears = s.shears := rfl
@[simp] theorem setFlt_cloche : (s.setFlt l).cloche = s.cloche := rfl
@[simp] theorem setFlt_time : (s.setFlt l).time = s.time := rfl
@[simp] theorem setFlt_win : (s.setFlt l).win = s.win := rfl
@[simp] theorem setFlt_harvest : (s.setFlt l).harvest = s.harvest := rfl
@[simp] theorem setFlt_shared : (s.setFlt l).shared = s.shared := rfl
@[simp] theorem setFlt_prior : (s.setFlt l).prior = s.prior := rfl
@[simp] theorem setFlt_net : (s.setFlt l).net = s.net := rfl
@[simp] theorem setFlt_rst : (s.setFlt l).rst = s.rst := rfl
@[simp] theorem setFlt_slanes : (s.setFlt l).slanes = s.slanes := rfl
@[simp] theorem setFlt_graft : (s.setFlt l).graft = s.graft := rfl
@[simp] theorem setFlt_runner : (s.setFlt l).runner = s.runner := rfl
@[simp] theorem setFlt_cores : (s.setFlt l).cores = s.cores := rfl
@[simp] theorem setFlt_power : (s.setFlt l).power = s.power := rfl
@[simp] theorem setFlt_root : (s.setFlt l).root = s.root := rfl
@[simp] theorem setFlt_pending : (s.setFlt l).pending = s.pending := rfl
@[simp] theorem setFlt_fltActive : (s.setFlt l).fltActive = l := rfl

end setFlt

/-! ## setShared -/

section setShared
variable (s : State) (l : List (Nat × BitVec 32 × ST64))

@[simp] theorem setShared_ctl : (s.setShared l).ctl = s.ctl := rfl
@[simp] theorem setShared_now : (s.setShared l).now = s.now := rfl
@[simp] theorem setShared_regs : (s.setShared l).regs = s.regs := rfl
@[simp] theorem setShared_active : (s.setShared l).active = s.active := rfl
@[simp] theorem setShared_shadow : (s.setShared l).shadow = s.shadow := rfl
@[simp] theorem setShared_rings : (s.setShared l).rings = s.rings := rfl
@[simp] theorem setShared_eventSeq : (s.setShared l).eventSeq = s.eventSeq := rfl
@[simp] theorem setShared_sessions : (s.setShared l).sessions = s.sessions := rfl
@[simp] theorem setShared_coreReq : (s.setShared l).coreReq = s.coreReq := rfl
@[simp] theorem setShared_sent : (s.setShared l).sent = s.sent := rfl
@[simp] theorem setShared_draws : (s.setShared l).draws = s.draws := rfl
@[simp] theorem setShared_sieve : (s.setShared l).sieve = s.sieve := rfl
@[simp] theorem setShared_engines : (s.setShared l).engines = s.engines := rfl
@[simp] theorem setShared_gf : (s.setShared l).gf = s.gf := rfl
@[simp] theorem setShared_ride : (s.setShared l).ride = s.ride := rfl
@[simp] theorem setShared_sounder : (s.setShared l).sounder = s.sounder := rfl
@[simp] theorem setShared_furrows : (s.setShared l).furrows = s.furrows := rfl
@[simp] theorem setShared_pairs : (s.setShared l).pairs = s.pairs := rfl
@[simp] theorem setShared_pwm : (s.setShared l).pwm = s.pwm := rfl
@[simp] theorem setShared_fltActive : (s.setShared l).fltActive = s.fltActive := rfl
@[simp] theorem setShared_lanes : (s.setShared l).lanes = s.lanes := rfl
@[simp] theorem setShared_nodes : (s.setShared l).nodes = s.nodes := rfl
@[simp] theorem setShared_remotes : (s.setShared l).remotes = s.remotes := rfl
@[simp] theorem setShared_arms : (s.setShared l).arms = s.arms := rfl
@[simp] theorem setShared_shears : (s.setShared l).shears = s.shears := rfl
@[simp] theorem setShared_cloche : (s.setShared l).cloche = s.cloche := rfl
@[simp] theorem setShared_time : (s.setShared l).time = s.time := rfl
@[simp] theorem setShared_win : (s.setShared l).win = s.win := rfl
@[simp] theorem setShared_harvest : (s.setShared l).harvest = s.harvest := rfl
@[simp] theorem setShared_prior : (s.setShared l).prior = s.prior := rfl
@[simp] theorem setShared_net : (s.setShared l).net = s.net := rfl
@[simp] theorem setShared_rst : (s.setShared l).rst = s.rst := rfl
@[simp] theorem setShared_slanes : (s.setShared l).slanes = s.slanes := rfl
@[simp] theorem setShared_graft : (s.setShared l).graft = s.graft := rfl
@[simp] theorem setShared_runner : (s.setShared l).runner = s.runner := rfl
@[simp] theorem setShared_cores : (s.setShared l).cores = s.cores := rfl
@[simp] theorem setShared_power : (s.setShared l).power = s.power := rfl
@[simp] theorem setShared_root : (s.setShared l).root = s.root := rfl
@[simp] theorem setShared_pending : (s.setShared l).pending = s.pending := rfl
@[simp] theorem setShared_shared : (s.setShared l).shared = l := rfl

end setShared

/-! ## setEventSeq -/

section setEventSeq
variable (s : State) (n : BitVec 32)

@[simp] theorem setEventSeq_ctl : (s.setEventSeq n).ctl = s.ctl := rfl
@[simp] theorem setEventSeq_now : (s.setEventSeq n).now = s.now := rfl
@[simp] theorem setEventSeq_regs : (s.setEventSeq n).regs = s.regs := rfl
@[simp] theorem setEventSeq_active : (s.setEventSeq n).active = s.active := rfl
@[simp] theorem setEventSeq_shadow : (s.setEventSeq n).shadow = s.shadow := rfl
@[simp] theorem setEventSeq_rings : (s.setEventSeq n).rings = s.rings := rfl
@[simp] theorem setEventSeq_sessions : (s.setEventSeq n).sessions = s.sessions := rfl
@[simp] theorem setEventSeq_coreReq : (s.setEventSeq n).coreReq = s.coreReq := rfl
@[simp] theorem setEventSeq_sent : (s.setEventSeq n).sent = s.sent := rfl
@[simp] theorem setEventSeq_draws : (s.setEventSeq n).draws = s.draws := rfl
@[simp] theorem setEventSeq_sieve : (s.setEventSeq n).sieve = s.sieve := rfl
@[simp] theorem setEventSeq_engines : (s.setEventSeq n).engines = s.engines := rfl
@[simp] theorem setEventSeq_gf : (s.setEventSeq n).gf = s.gf := rfl
@[simp] theorem setEventSeq_ride : (s.setEventSeq n).ride = s.ride := rfl
@[simp] theorem setEventSeq_sounder : (s.setEventSeq n).sounder = s.sounder := rfl
@[simp] theorem setEventSeq_furrows : (s.setEventSeq n).furrows = s.furrows := rfl
@[simp] theorem setEventSeq_pairs : (s.setEventSeq n).pairs = s.pairs := rfl
@[simp] theorem setEventSeq_pwm : (s.setEventSeq n).pwm = s.pwm := rfl
@[simp] theorem setEventSeq_fltActive : (s.setEventSeq n).fltActive = s.fltActive := rfl
@[simp] theorem setEventSeq_lanes : (s.setEventSeq n).lanes = s.lanes := rfl
@[simp] theorem setEventSeq_nodes : (s.setEventSeq n).nodes = s.nodes := rfl
@[simp] theorem setEventSeq_remotes : (s.setEventSeq n).remotes = s.remotes := rfl
@[simp] theorem setEventSeq_arms : (s.setEventSeq n).arms = s.arms := rfl
@[simp] theorem setEventSeq_shears : (s.setEventSeq n).shears = s.shears := rfl
@[simp] theorem setEventSeq_cloche : (s.setEventSeq n).cloche = s.cloche := rfl
@[simp] theorem setEventSeq_time : (s.setEventSeq n).time = s.time := rfl
@[simp] theorem setEventSeq_win : (s.setEventSeq n).win = s.win := rfl
@[simp] theorem setEventSeq_harvest : (s.setEventSeq n).harvest = s.harvest := rfl
@[simp] theorem setEventSeq_shared : (s.setEventSeq n).shared = s.shared := rfl
@[simp] theorem setEventSeq_prior : (s.setEventSeq n).prior = s.prior := rfl
@[simp] theorem setEventSeq_net : (s.setEventSeq n).net = s.net := rfl
@[simp] theorem setEventSeq_rst : (s.setEventSeq n).rst = s.rst := rfl
@[simp] theorem setEventSeq_slanes : (s.setEventSeq n).slanes = s.slanes := rfl
@[simp] theorem setEventSeq_graft : (s.setEventSeq n).graft = s.graft := rfl
@[simp] theorem setEventSeq_runner : (s.setEventSeq n).runner = s.runner := rfl
@[simp] theorem setEventSeq_cores : (s.setEventSeq n).cores = s.cores := rfl
@[simp] theorem setEventSeq_power : (s.setEventSeq n).power = s.power := rfl
@[simp] theorem setEventSeq_root : (s.setEventSeq n).root = s.root := rfl
@[simp] theorem setEventSeq_pending : (s.setEventSeq n).pending = s.pending := rfl
@[simp] theorem setEventSeq_eventSeq : (s.setEventSeq n).eventSeq = n := rfl

end setEventSeq

/-! ## setSent -/

section setSent
variable (s : State) (l : List Sent)

@[simp] theorem setSent_ctl : (s.setSent l).ctl = s.ctl := rfl
@[simp] theorem setSent_now : (s.setSent l).now = s.now := rfl
@[simp] theorem setSent_regs : (s.setSent l).regs = s.regs := rfl
@[simp] theorem setSent_active : (s.setSent l).active = s.active := rfl
@[simp] theorem setSent_shadow : (s.setSent l).shadow = s.shadow := rfl
@[simp] theorem setSent_rings : (s.setSent l).rings = s.rings := rfl
@[simp] theorem setSent_eventSeq : (s.setSent l).eventSeq = s.eventSeq := rfl
@[simp] theorem setSent_sessions : (s.setSent l).sessions = s.sessions := rfl
@[simp] theorem setSent_coreReq : (s.setSent l).coreReq = s.coreReq := rfl
@[simp] theorem setSent_draws : (s.setSent l).draws = s.draws := rfl
@[simp] theorem setSent_sieve : (s.setSent l).sieve = s.sieve := rfl
@[simp] theorem setSent_engines : (s.setSent l).engines = s.engines := rfl
@[simp] theorem setSent_gf : (s.setSent l).gf = s.gf := rfl
@[simp] theorem setSent_ride : (s.setSent l).ride = s.ride := rfl
@[simp] theorem setSent_sounder : (s.setSent l).sounder = s.sounder := rfl
@[simp] theorem setSent_furrows : (s.setSent l).furrows = s.furrows := rfl
@[simp] theorem setSent_pairs : (s.setSent l).pairs = s.pairs := rfl
@[simp] theorem setSent_pwm : (s.setSent l).pwm = s.pwm := rfl
@[simp] theorem setSent_fltActive : (s.setSent l).fltActive = s.fltActive := rfl
@[simp] theorem setSent_lanes : (s.setSent l).lanes = s.lanes := rfl
@[simp] theorem setSent_nodes : (s.setSent l).nodes = s.nodes := rfl
@[simp] theorem setSent_remotes : (s.setSent l).remotes = s.remotes := rfl
@[simp] theorem setSent_arms : (s.setSent l).arms = s.arms := rfl
@[simp] theorem setSent_shears : (s.setSent l).shears = s.shears := rfl
@[simp] theorem setSent_cloche : (s.setSent l).cloche = s.cloche := rfl
@[simp] theorem setSent_time : (s.setSent l).time = s.time := rfl
@[simp] theorem setSent_win : (s.setSent l).win = s.win := rfl
@[simp] theorem setSent_harvest : (s.setSent l).harvest = s.harvest := rfl
@[simp] theorem setSent_shared : (s.setSent l).shared = s.shared := rfl
@[simp] theorem setSent_prior : (s.setSent l).prior = s.prior := rfl
@[simp] theorem setSent_net : (s.setSent l).net = s.net := rfl
@[simp] theorem setSent_rst : (s.setSent l).rst = s.rst := rfl
@[simp] theorem setSent_slanes : (s.setSent l).slanes = s.slanes := rfl
@[simp] theorem setSent_graft : (s.setSent l).graft = s.graft := rfl
@[simp] theorem setSent_runner : (s.setSent l).runner = s.runner := rfl
@[simp] theorem setSent_cores : (s.setSent l).cores = s.cores := rfl
@[simp] theorem setSent_power : (s.setSent l).power = s.power := rfl
@[simp] theorem setSent_root : (s.setSent l).root = s.root := rfl
@[simp] theorem setSent_pending : (s.setSent l).pending = s.pending := rfl
@[simp] theorem setSent_sent : (s.setSent l).sent = l := rfl

end setSent

/-! ## skipDraws -/

section skipDraws
variable (s : State) (n : Nat)

@[simp] theorem skipDraws_ctl : (s.skipDraws n).ctl = s.ctl := rfl
@[simp] theorem skipDraws_now : (s.skipDraws n).now = s.now := rfl
@[simp] theorem skipDraws_regs : (s.skipDraws n).regs = s.regs := rfl
@[simp] theorem skipDraws_active : (s.skipDraws n).active = s.active := rfl
@[simp] theorem skipDraws_shadow : (s.skipDraws n).shadow = s.shadow := rfl
@[simp] theorem skipDraws_rings : (s.skipDraws n).rings = s.rings := rfl
@[simp] theorem skipDraws_eventSeq : (s.skipDraws n).eventSeq = s.eventSeq := rfl
@[simp] theorem skipDraws_sessions : (s.skipDraws n).sessions = s.sessions := rfl
@[simp] theorem skipDraws_coreReq : (s.skipDraws n).coreReq = s.coreReq := rfl
@[simp] theorem skipDraws_sent : (s.skipDraws n).sent = s.sent := rfl
@[simp] theorem skipDraws_sieve : (s.skipDraws n).sieve = s.sieve := rfl
@[simp] theorem skipDraws_engines : (s.skipDraws n).engines = s.engines := rfl
@[simp] theorem skipDraws_gf : (s.skipDraws n).gf = s.gf := rfl
@[simp] theorem skipDraws_ride : (s.skipDraws n).ride = s.ride := rfl
@[simp] theorem skipDraws_sounder : (s.skipDraws n).sounder = s.sounder := rfl
@[simp] theorem skipDraws_furrows : (s.skipDraws n).furrows = s.furrows := rfl
@[simp] theorem skipDraws_pairs : (s.skipDraws n).pairs = s.pairs := rfl
@[simp] theorem skipDraws_pwm : (s.skipDraws n).pwm = s.pwm := rfl
@[simp] theorem skipDraws_fltActive : (s.skipDraws n).fltActive = s.fltActive := rfl
@[simp] theorem skipDraws_lanes : (s.skipDraws n).lanes = s.lanes := rfl
@[simp] theorem skipDraws_nodes : (s.skipDraws n).nodes = s.nodes := rfl
@[simp] theorem skipDraws_remotes : (s.skipDraws n).remotes = s.remotes := rfl
@[simp] theorem skipDraws_arms : (s.skipDraws n).arms = s.arms := rfl
@[simp] theorem skipDraws_shears : (s.skipDraws n).shears = s.shears := rfl
@[simp] theorem skipDraws_cloche : (s.skipDraws n).cloche = s.cloche := rfl
@[simp] theorem skipDraws_time : (s.skipDraws n).time = s.time := rfl
@[simp] theorem skipDraws_win : (s.skipDraws n).win = s.win := rfl
@[simp] theorem skipDraws_harvest : (s.skipDraws n).harvest = s.harvest := rfl
@[simp] theorem skipDraws_shared : (s.skipDraws n).shared = s.shared := rfl
@[simp] theorem skipDraws_prior : (s.skipDraws n).prior = s.prior := rfl
@[simp] theorem skipDraws_net : (s.skipDraws n).net = s.net := rfl
@[simp] theorem skipDraws_rst : (s.skipDraws n).rst = s.rst := rfl
@[simp] theorem skipDraws_slanes : (s.skipDraws n).slanes = s.slanes := rfl
@[simp] theorem skipDraws_graft : (s.skipDraws n).graft = s.graft := rfl
@[simp] theorem skipDraws_runner : (s.skipDraws n).runner = s.runner := rfl
@[simp] theorem skipDraws_cores : (s.skipDraws n).cores = s.cores := rfl
@[simp] theorem skipDraws_power : (s.skipDraws n).power = s.power := rfl
@[simp] theorem skipDraws_root : (s.skipDraws n).root = s.root := rfl
@[simp] theorem skipDraws_pending : (s.skipDraws n).pending = s.pending := rfl
@[simp] theorem skipDraws_draws : (s.skipDraws n).draws = s.draws + n := rfl

end skipDraws

/-! ## modPrior -/

section modPrior
variable (s : State) (g : Prior → Prior)

@[simp] theorem modPrior_ctl : (s.modPrior g).ctl = s.ctl := rfl
@[simp] theorem modPrior_now : (s.modPrior g).now = s.now := rfl
@[simp] theorem modPrior_regs : (s.modPrior g).regs = s.regs := rfl
@[simp] theorem modPrior_active : (s.modPrior g).active = s.active := rfl
@[simp] theorem modPrior_shadow : (s.modPrior g).shadow = s.shadow := rfl
@[simp] theorem modPrior_rings : (s.modPrior g).rings = s.rings := rfl
@[simp] theorem modPrior_eventSeq : (s.modPrior g).eventSeq = s.eventSeq := rfl
@[simp] theorem modPrior_sessions : (s.modPrior g).sessions = s.sessions := rfl
@[simp] theorem modPrior_coreReq : (s.modPrior g).coreReq = s.coreReq := rfl
@[simp] theorem modPrior_sent : (s.modPrior g).sent = s.sent := rfl
@[simp] theorem modPrior_draws : (s.modPrior g).draws = s.draws := rfl
@[simp] theorem modPrior_sieve : (s.modPrior g).sieve = s.sieve := rfl
@[simp] theorem modPrior_engines : (s.modPrior g).engines = s.engines := rfl
@[simp] theorem modPrior_gf : (s.modPrior g).gf = s.gf := rfl
@[simp] theorem modPrior_ride : (s.modPrior g).ride = s.ride := rfl
@[simp] theorem modPrior_sounder : (s.modPrior g).sounder = s.sounder := rfl
@[simp] theorem modPrior_furrows : (s.modPrior g).furrows = s.furrows := rfl
@[simp] theorem modPrior_pairs : (s.modPrior g).pairs = s.pairs := rfl
@[simp] theorem modPrior_pwm : (s.modPrior g).pwm = s.pwm := rfl
@[simp] theorem modPrior_fltActive : (s.modPrior g).fltActive = s.fltActive := rfl
@[simp] theorem modPrior_lanes : (s.modPrior g).lanes = s.lanes := rfl
@[simp] theorem modPrior_nodes : (s.modPrior g).nodes = s.nodes := rfl
@[simp] theorem modPrior_remotes : (s.modPrior g).remotes = s.remotes := rfl
@[simp] theorem modPrior_arms : (s.modPrior g).arms = s.arms := rfl
@[simp] theorem modPrior_shears : (s.modPrior g).shears = s.shears := rfl
@[simp] theorem modPrior_cloche : (s.modPrior g).cloche = s.cloche := rfl
@[simp] theorem modPrior_time : (s.modPrior g).time = s.time := rfl
@[simp] theorem modPrior_win : (s.modPrior g).win = s.win := rfl
@[simp] theorem modPrior_harvest : (s.modPrior g).harvest = s.harvest := rfl
@[simp] theorem modPrior_shared : (s.modPrior g).shared = s.shared := rfl
@[simp] theorem modPrior_net : (s.modPrior g).net = s.net := rfl
@[simp] theorem modPrior_rst : (s.modPrior g).rst = s.rst := rfl
@[simp] theorem modPrior_slanes : (s.modPrior g).slanes = s.slanes := rfl
@[simp] theorem modPrior_graft : (s.modPrior g).graft = s.graft := rfl
@[simp] theorem modPrior_runner : (s.modPrior g).runner = s.runner := rfl
@[simp] theorem modPrior_cores : (s.modPrior g).cores = s.cores := rfl
@[simp] theorem modPrior_power : (s.modPrior g).power = s.power := rfl
@[simp] theorem modPrior_root : (s.modPrior g).root = s.root := rfl
@[simp] theorem modPrior_pending : (s.modPrior g).pending = s.pending := rfl
@[simp] theorem modPrior_prior : (s.modPrior g).prior = g s.prior := rfl

end modPrior

/-! ## setActive -/

section setActive
variable (s : State) (bed : Store)

@[simp] theorem setActive_ctl : (s.setActive bed).ctl = s.ctl := rfl
@[simp] theorem setActive_now : (s.setActive bed).now = s.now := rfl
@[simp] theorem setActive_regs : (s.setActive bed).regs = s.regs := rfl
@[simp] theorem setActive_shadow : (s.setActive bed).shadow = s.shadow := rfl
@[simp] theorem setActive_rings : (s.setActive bed).rings = s.rings := rfl
@[simp] theorem setActive_eventSeq : (s.setActive bed).eventSeq = s.eventSeq := rfl
@[simp] theorem setActive_sessions : (s.setActive bed).sessions = s.sessions := rfl
@[simp] theorem setActive_coreReq : (s.setActive bed).coreReq = s.coreReq := rfl
@[simp] theorem setActive_sent : (s.setActive bed).sent = s.sent := rfl
@[simp] theorem setActive_draws : (s.setActive bed).draws = s.draws := rfl
@[simp] theorem setActive_sieve : (s.setActive bed).sieve = s.sieve := rfl
@[simp] theorem setActive_engines : (s.setActive bed).engines = s.engines := rfl
@[simp] theorem setActive_gf : (s.setActive bed).gf = s.gf := rfl
@[simp] theorem setActive_ride : (s.setActive bed).ride = s.ride := rfl
@[simp] theorem setActive_sounder : (s.setActive bed).sounder = s.sounder := rfl
@[simp] theorem setActive_furrows : (s.setActive bed).furrows = s.furrows := rfl
@[simp] theorem setActive_pairs : (s.setActive bed).pairs = s.pairs := rfl
@[simp] theorem setActive_pwm : (s.setActive bed).pwm = s.pwm := rfl
@[simp] theorem setActive_fltActive : (s.setActive bed).fltActive = s.fltActive := rfl
@[simp] theorem setActive_lanes : (s.setActive bed).lanes = s.lanes := rfl
@[simp] theorem setActive_nodes : (s.setActive bed).nodes = s.nodes := rfl
@[simp] theorem setActive_remotes : (s.setActive bed).remotes = s.remotes := rfl
@[simp] theorem setActive_arms : (s.setActive bed).arms = s.arms := rfl
@[simp] theorem setActive_shears : (s.setActive bed).shears = s.shears := rfl
@[simp] theorem setActive_cloche : (s.setActive bed).cloche = s.cloche := rfl
@[simp] theorem setActive_time : (s.setActive bed).time = s.time := rfl
@[simp] theorem setActive_win : (s.setActive bed).win = s.win := rfl
@[simp] theorem setActive_harvest : (s.setActive bed).harvest = s.harvest := rfl
@[simp] theorem setActive_shared : (s.setActive bed).shared = s.shared := rfl
@[simp] theorem setActive_prior : (s.setActive bed).prior = s.prior := rfl
@[simp] theorem setActive_net : (s.setActive bed).net = s.net := rfl
@[simp] theorem setActive_rst : (s.setActive bed).rst = s.rst := rfl
@[simp] theorem setActive_slanes : (s.setActive bed).slanes = s.slanes := rfl
@[simp] theorem setActive_graft : (s.setActive bed).graft = s.graft := rfl
@[simp] theorem setActive_runner : (s.setActive bed).runner = s.runner := rfl
@[simp] theorem setActive_cores : (s.setActive bed).cores = s.cores := rfl
@[simp] theorem setActive_power : (s.setActive bed).power = s.power := rfl
@[simp] theorem setActive_root : (s.setActive bed).root = s.root := rfl
@[simp] theorem setActive_pending : (s.setActive bed).pending = s.pending := rfl
@[simp] theorem setActive_active : (s.setActive bed).active = bed := rfl

end setActive

end Sys2Proof.Machine.State
end

