-- ==== Sys2Proof/Laws/Store.lean ====
section
/-! SUPPORT. The laws of the sparse lists: a key reads what was set at it, every other key reads as before, and every
operation keeps the canonical form (keys strictly rising, no entry that equals what an unlisted key reads as). -/

namespace Sys2Proof.Machine

/-! ## Reading after setting -/

section Lists
variable {α : Type}

theorem look_ins_same (k : Nat) (v : α) (l : List (Nat × α)) : look k (ins k v l) = some v := by
  induction l with
  | nil => simp [ins, look]
  | cons e r ih =>
    obtain ⟨j, w⟩ := e
    unfold ins
    split
    · simp [look]
    · split
      · simp [look]
      · rename_i h _
        simp [look, h, ih]

theorem look_ins_other {j k : Nat} (h : j ≠ k) (v : α) (l : List (Nat × α)) : look j (ins k v l) = look j l := by
  have h' : ¬ k = j := fun e => h e.symm
  induction l with
  | nil => simp [ins, look, h']
  | cons e r ih =>
    obtain ⟨i, w⟩ := e
    unfold ins
    split
    · rename_i hi
      subst hi
      simp [look, h']
    · split
      · simp [look, h']
      · simp only [look, ih]

theorem look_del_same (k : Nat) (l : List (Nat × α)) : look k (del k l) = none := by
  induction l with
  | nil => rfl
  | cons e r ih =>
    unfold del at ih ⊢
    rw [List.filter_cons]
    split
    · rename_i h
      exact (if_neg (of_decide_eq_true h)).trans ih
    · exact ih

theorem look_del_other {j k : Nat} (h : j ≠ k) (l : List (Nat × α)) : look j (del k l) = look j l := by
  induction l with
  | nil => rfl
  | cons e r ih =>
    unfold del at ih ⊢
    rw [List.filter_cons]
    split
    · simp only [look, ih]
    · rename_i hi
      have hk : e.1 = k := Classical.not_not.mp (fun n => hi (decide_eq_true n))
      rw [ih]
      exact (if_neg fun x : e.1 = j => h (x.symm.trans hk)).symm

end Lists

/-! ## The dictionary's stores -/

theorem storeGet_put_same (st : Store) (k : Nat) (v : DVal) : storeGet (storePut st k v) k = v := by
  unfold storeGet storePut
  split
  · rename_i h
    simp [look_del_same, h]
  · simp [look_ins_same]

theorem storeGet_put_other {j k : Nat} (h : j ≠ k) (st : Store) (v : DVal) :
    storeGet (storePut st k v) j = storeGet st j := by
  unfold storeGet storePut
  split
  · simp [look_del_other h]
  · simp [look_ins_other h]

/-! ## Sparse word memories -/

theorem peek_poke_same (a : Nat) (w : BitVec 32) (m : List (Nat × BitVec 32)) : peek a (poke a w m) = w := by
  unfold peek poke
  split
  · rename_i h
    simp [look_del_same, h]
  · simp [look_ins_same]

theorem peek_poke_other {a b : Nat} (h : a ≠ b) (w : BitVec 32) (m : List (Nat × BitVec 32)) :
    peek a (poke b w m) = peek a m := by
  unfold peek poke
  split
  · simp [look_del_other h]
  · simp [look_ins_other h]

/-! ## The canonical form -/

/-- Keys strictly rise. -/
def Rising {α : Type} : List (Nat × α) → Bool
  | [] => true
  | [_] => true
  | (j, _) :: (k, w) :: r => decide (j < k) && Rising ((k, w) :: r)

/-- Every key of a list lies above a bound. -/
def Above {α : Type} (b : Nat) (l : List (Nat × α)) : Prop := ∀ e ∈ l, b < e.1

theorem rising_iff {α : Type} (j : Nat) (v : α) (r : List (Nat × α)) :
    Rising ((j, v) :: r) = true ↔ Above j r ∧ Rising r = true := by
  induction r generalizing j v with
  | nil => simp [Rising, Above]
  | cons e r ih =>
    obtain ⟨k, w⟩ := e
    simp only [Rising, Bool.and_eq_true, decide_eq_true_eq]
    constructor
    · rintro ⟨h, hr⟩
      refine ⟨fun e he => ?_, hr⟩
      rcases List.mem_cons.mp he with rfl | he
      · exact h
      · exact Nat.lt_trans h (((ih k w).mp hr).1 e he)
    · rintro ⟨h, hr⟩
      exact ⟨h (k, w) (List.mem_cons_self ..), hr⟩

theorem mem_ins {α : Type} {k : Nat} {v : α} {l : List (Nat × α)} {e : Nat × α} (h : e ∈ ins k v l) :
    e = (k, v) ∨ e ∈ l := by
  induction l with
  | nil => exact .inl (List.mem_singleton.mp h)
  | cons f r ih =>
    obtain ⟨j, w⟩ := f
    unfold ins at h
    split at h
    · rcases List.mem_cons.mp h with h | h
      · exact .inl h
      · exact .inr (List.mem_cons_of_mem _ h)
    · split at h
      · rcases List.mem_cons.mp h with h | h
        · exact .inl h
        · exact .inr h
      · rcases List.mem_cons.mp h with h | h
        · exact .inr (h ▸ List.mem_cons_self ..)
        · rcases ih h with h | h
          · exact .inl h
          · exact .inr (List.mem_cons_of_mem _ h)

/-- Setting a key keeps the keys rising. -/
theorem rising_ins {α : Type} (k : Nat) (v : α) {l : List (Nat × α)} (h : Rising l = true) : Rising (ins k v l) = true := by
  induction l with
  | nil => rfl
  | cons f r ih =>
    obtain ⟨j, w⟩ := f
    have hr := (rising_iff j w r).mp h
    unfold ins
    split
    · rename_i e
      subst e
      exact (rising_iff ..).mpr hr
    · split
      · rename_i hk
        refine (rising_iff ..).mpr ⟨fun e he => ?_, h⟩
        rcases List.mem_cons.mp he with rfl | he
        · exact hk
        · exact Nat.lt_trans hk (hr.1 e he)
      · rename_i hj hk
        refine (rising_iff ..).mpr ⟨fun e he => ?_, ih hr.2⟩
        rcases mem_ins he with rfl | he
        · exact Nat.lt_of_le_of_ne (Nat.le_of_not_lt hk) hj
        · exact hr.1 e he

/-- Removing a key keeps the keys rising. -/
theorem rising_del {α : Type} (k : Nat) {l : List (Nat × α)} (h : Rising l = true) : Rising (del k l) = true := by
  induction l with
  | nil => rfl
  | cons f r ih =>
    obtain ⟨j, w⟩ := f
    have hr := (rising_iff j w r).mp h
    unfold del
    rw [List.filter_cons]
    split
    · exact (rising_iff ..).mpr ⟨fun e he => hr.1 e (List.mem_filter.mp he).1, ih hr.2⟩
    · exact ih hr.2

/-- A dictionary store in canonical form: keys rise, and no entry holds the dictionary's default. -/
def Store.wf (st : Store) : Bool := Rising st && st.all fun e => decide (Dict.default? e.1 ≠ some e.2)

/-- A sparse word memory in canonical form: addresses rise, and no word is zero. -/
def wordsWf (m : List (Nat × BitVec 32)) : Bool := Rising m && m.all fun e => decide (e.2 ≠ 0#32)

/-- A write keeps a store's canonical form. -/
theorem storePut_wf {st : Store} (h : Store.wf st = true) (k : Nat) (v : DVal) : Store.wf (storePut st k v) = true := by
  obtain ⟨hr, hd⟩ := Bool.and_eq_true_iff.mp h
  unfold storePut
  split
  · refine Bool.and_eq_true_iff.mpr ⟨rising_del k hr, List.all_eq_true.mpr fun e he => ?_⟩
    exact List.all_eq_true.mp hd e (List.mem_filter.mp he).1
  · rename_i hv
    refine Bool.and_eq_true_iff.mpr ⟨rising_ins k v hr, List.all_eq_true.mpr fun e he => ?_⟩
    rcases mem_ins he with rfl | he
    · exact decide_eq_true hv
    · exact List.all_eq_true.mp hd e he

/-- A write keeps a word memory's canonical form. -/
theorem poke_wf {m : List (Nat × BitVec 32)} (h : wordsWf m = true) (a : Nat) (w : BitVec 32) :
    wordsWf (poke a w m) = true := by
  obtain ⟨hr, hd⟩ := Bool.and_eq_true_iff.mp h
  unfold poke
  split
  · refine Bool.and_eq_true_iff.mpr ⟨rising_del a hr, List.all_eq_true.mpr fun e he => ?_⟩
    exact List.all_eq_true.mp hd e (List.mem_filter.mp he).1
  · rename_i hv
    refine Bool.and_eq_true_iff.mpr ⟨rising_ins a w hr, List.all_eq_true.mpr fun e he => ?_⟩
    rcases mem_ins he with rfl | he
    · exact decide_eq_true hv
    · exact List.all_eq_true.mp hd e he

/-- The stores of the machine after reset are canonical. -/
theorem reset_stores_wf :
    Store.wf State.reset.regs = true ∧ Store.wf State.reset.active = true ∧ Store.wf State.reset.shadow = true :=
  ⟨rfl, rfl, rfl⟩

end Sys2Proof.Machine
end

