-- ==== Sys2Proof/Laws/Ops.lean ====
section
/-! SUPPORT. One law per shared operation: what registers read after a write, what an event, an answer and a checked write
do, and what they leave. -/

namespace Sys2Proof.Machine

/-! ## Fixed arrays -/

theorem vget_vmod_same {α : Type} {n : Nat} (v : Vector α n) (i : Nat) (f : α → α) (d : α) (h : i < n) :
    vget (vmod v i f) i d = f (vget v i d) := by
  simp [vget, vmod, h]

theorem vget_vmod_other {α : Type} {n : Nat} (v : Vector α n) (i j : Nat) (f : α → α) (d : α) (h : i ≠ j) :
    vget (vmod v i f) j d = vget v j d := by
  unfold vget vmod
  by_cases hi : i < n
  · by_cases hj : j < n
    · simp [hi, hj, Vector.getElem_set, h]
    · simp [hi, hj]
  · simp [hi]

/-! ## Registers -/

namespace State

theorem reg_put (s : State) (i k : Nat) (v : Int) (j m : Nat) :
    (s.put i k v).reg j m = if Dict.key j m = Dict.key i k then v else s.reg j m := by
  unfold reg put
  split
  · rename_i h
    simp [h, storeGet_put_same, numOf]
  · rename_i h
    simp [storeGet_put_other h]

@[simp] theorem reg_put_same (s : State) (i k : Nat) (v : Int) : (s.put i k v).reg i k = v := by simp [reg_put]

theorem reg_put_other (s : State) (i k : Nat) (v : Int) {j m : Nat} (h : Dict.key j m ≠ Dict.key i k) :
    (s.put i k v).reg j m = s.reg j m := by simp [reg_put, h]

theorem reg_putT (s : State) (i k : Nat) (t : ST64) (j m : Nat) :
    (s.putT i k t).reg j m = if Dict.key j m = Dict.key i k then (t.toNat : Int) else s.reg j m := reg_put ..

theorem regT_putT_same (s : State) (i k : Nat) (t : ST64) : (s.putT i k t).regT i k = t := by
  simp [regT, putT]

theorem reg_putB_other (s : State) (i k : Nat) (b : Bytes) {j m : Nat} (h : Dict.key j m ≠ Dict.key i k) :
    (s.putB i k b).reg j m = s.reg j m := by
  unfold reg putB
  simp [storeGet_put_other h]

@[simp] theorem regB_putB_same (s : State) (i k : Nat) (b : Bytes) : (s.putB i k b).regB i k = b := by
  simp [regB, putB, storeGet_put_same, bytesOf]

theorem reg_count (s : State) (i k j m : Nat) :
    (s.count i k).reg j m = if Dict.key j m = Dict.key i k then satU 32 (s.reg i k + 1) else s.reg j m := reg_put ..

theorem reg_flag_other (s : State) (i k b : Nat) {j m : Nat} (h : Dict.key j m ≠ Dict.key i k) :
    (s.flag i k b).reg j m = s.reg j m := reg_put_other _ _ _ _ h

theorem cfg_putCfg_same (s : State) (i k : Nat) (v : Int) : (s.putCfg i k v).cfg i k = v := by
  simp [cfg, putCfg, storeGet_put_same, numOf]

theorem cfg_putCfg_other (s : State) (i k : Nat) (v : Int) {j m : Nat} (h : Dict.key j m ≠ Dict.key i k) :
    (s.putCfg i k v).cfg j m = s.cfg j m := by
  unfold cfg putCfg
  simp [storeGet_put_other h]

/-! ## Answers -/

/-- An answer sends at most one thing, and touches the window record alone beside it (R32, R498). -/
theorem answer_eq (s : State) (req : Requester) (i k abort : Nat) :
    s.answer req i k abort =
      { s with win := (s.answer req i k abort).win, sent := (s.answer req i k abort).sent } := by
  unfold answer
  split
  · split <;> rfl
  · rfl

/-- A session's or a queue's request is answered by one RESPONSE (R32). -/
theorem answer_response (s : State) (req : Requester) (i k abort : Nat) (h : ∀ c, req ≠ .window c) :
    s.answer req i k abort = s.send (.response req i k abort) := by
  unfold answer
  split
  · rename_i c
    exact absurd rfl (h c)
  · rfl

/-- An accepted window access leaves no record (R498). -/
theorem answer_window_ok (s : State) (c : Fin 4) (i k : Nat) : s.answer (.window c) i k 0 = s := rfl

/-! ## Events -/

/-- An event touches the ring registers, the rings, EVENT_SEQ and what is sent, and nothing else (R514, R518, R520). -/
theorem eventAt_eq (s : State) (code : Nat) (fields : List Int) (t : ST64) :
    s.eventAt code fields t =
      { s with regs := (s.eventAt code fields t).regs, rings := (s.eventAt code fields t).rings
               eventSeq := (s.eventAt code fields t).eventSeq, sent := (s.eventAt code fields t).sent } := by
  unfold eventAt
  dsimp only
  split
  · unfold ringAppend
    dsimp only
    split <;> split <;> rfl
  · rfl

/-- EVENT_SEQ advances with every event, also with one that Q3 cannot take (R11, R520). -/
theorem eventAt_seq (s : State) (code : Nat) (fields : List Int) (t : ST64) :
    (s.eventAt code fields t).eventSeq = nextSeq s.eventSeq := by
  unfold eventAt
  dsimp only
  split
  · unfold ringAppend
    dsimp only
    split <;> split <;> rfl
  · rfl

end State

/-! ## Checked writes -/

/-- A write that passes every check of R30 has its effect and is answered with 0. -/
theorem guarded_pass {req : Requester} {i k : Nat} {who : Writers} {inRange modeOk : Bool} {own : Nat}
    {act : State → State} {s : State} (hp : s.present req = true) (hw : mayWrite s req who = true)
    (hr : inRange = true) (hm : modeOk = true) (ho : own = 0) :
    guarded req i k who inRange modeOk own act s = (act s).answer req i k 0 := by
  simp [guarded, hp, hw, hr, hm, ho]

/-- A requester outside the writers is refused with 0x0201, and nothing else happens (R30, R31). -/
theorem guarded_role {req : Requester} {i k : Nat} {who : Writers} {inRange modeOk : Bool} {own : Nat}
    {act : State → State} {s : State} (hp : s.present req = true) (hw : mayWrite s req who = false) :
    guarded req i k who inRange modeOk own act s = s.answer req i k 0x0201 := by
  simp [guarded, hp, hw]

/-- A request of a session that is not open has no effect at all (log entry 6). -/
theorem guarded_absent {req : Requester} {i k : Nat} {who : Writers} {inRange modeOk : Bool} {own : Nat}
    {act : State → State} {s : State} (hp : s.present req = false) :
    guarded req i k who inRange modeOk own act s = s := by
  simp [guarded, hp]

/-- A write of a row that exists and is writable, whose value has its type and range, is a checked write. -/
theorem guardedWrite_row {req : Requester} {i k : Nat} {who : Writers} {modeOk : Bool} {own : Nat} {v : DVal}
    {act : State → State} {s : State} {r : Row} (hi : s.hasEntry i = true) (hf : Dict.find i k = some r)
    (ha : r.acc = .rw ∨ r.acc = .wo) (ht : windowless req r.ty = false) (hv : typeOk r v = true)
    (hr : rangeOk r.rng v = true) (hp : s.present req = true) (hw : mayWrite s req who = true) :
    guardedWrite req i k who modeOk own v act s = guarded req i k who true modeOk own act s := by
  have ha' : ¬ (r.acc ≠ .rw ∧ r.acc ≠ .wo) := fun h => ha.elim h.1 h.2
  simp [guardedWrite, hp, hi, hf, hw, ha', ht, hv, hr]

end Sys2Proof.Machine
end

