-- ==== Sys2Proof/Tests/Slice0.lean ====
section
/-! SUPPORT. Tests: ill-formed commands, worked examples of the spec, and for each statement with hypotheses a state and
operands that meet them. -/

namespace Sys2Proof.Tests
open Sys2Proof Sys2Proof.Machine

/-- After reset, but in a mode. -/
def at_ (m : Mode) : State :=
  { State.reset with ctl := { Ctl.reset with mode := m, bootComplete := true, guard := .satisfied } }
/-- With entries of the active bed set. -/
def bed (l : List (Nat × Nat × Int)) (s : State) : State := l.foldl (fun s e => s.putCfg e.1 e.2.1 e.2.2) s
/-- With entries outside the beds set. -/
def regs_ (l : List (Nat × Nat × Int)) (s : State) : State := l.foldl (fun s e => s.put e.1 e.2.1 e.2.2) s
/-- With session 1 open for a role. -/
def as_ (r : Role) (s : State) : State :=
  { s with sessions := vmod s.sessions 0 fun x => { x with state := .open, role := r } }

/-! ## Ill-formed commands: one for each check of WellFormed -/

def hdr : EthHeader := ⟨0, 5, 7, none, 100, none, 9#64⟩
def xh : XdpHead := ⟨0, 5, 9, true⟩
def who : Requester := .session 0
def hello : HelloMsg :=
  ⟨1, 1, 1, 1, List.replicate 16 0#8, 1, 0, [], ⟨0, [], false, false, false, [], [], none, []⟩⟩
def master : MasterInfo := ⟨0, 0, 0, 0, 0, 0, 0, 0⟩
def sv : SvFrame := ⟨0, [], 0, false, []⟩
def goose : GooseFrame := ⟨0, [], 0, false, 0, 0, 0, []⟩
def head : RunnerHead := ⟨0, 0, 0, 0, 0⟩

theorem wf_entries : [Instr.paramWrite who 0 0 256 (.num 0), .paramWrite who 0 0 0 (.num (2 ^ 80)),
    .shadowWrite who 65536 1 (.num 0), .shadowWrite who 1 256 (.num 0), .dictWrite who 1 1 8 (.num 0),
    .dictWrite who 1 1 0 (.num (-(2 ^ 63) - 1)), .clocheConfigWrite who 65536 1 (.num 0), .budgetWrite who 256 0,
    .budgetWrite who 1 (2 ^ 64), .windowLoad 0 (2 ^ 32) 8, .windowLoad 0 0x40000000 9].all (fun c => !c.wf) = true := by decide

theorem wf_words : [Instr.beatOriginWrite who (2 ^ 64), .sounderModeWrite who (2 ^ 64), .pwmShadowWrite who (.period 0) (2 ^ 64),
    .faultClear who 0 (2 ^ 64), .timeSet who (2 ^ 80), .timeSourceWrite who (2 ^ 64), .ringRelease who 0 (2 ^ 64),
    .ringEntriesWrite who 0 false (2 ^ 64), .loopbackWrite who 0 (2 ^ 64), .inject who 0 (2 ^ 64), .commit who 0 (2 ^ 32),
    .ringPost who 0 [[]], .slotProgramDone []].all (fun c => !c.wf) = true := by decide

theorem wf_headers : [{ hdr with src := 2 ^ 48 }, { hdr with dst := 2 ^ 48 }, { hdr with size := 65536 },
    { hdr with vid := some 4096 }, { hdr with trailer := some (65536, 0) }, { hdr with trailer := some (0, 16) }].all
      (fun h => !h.wf && !(Instr.prpSupervisionRx h).wf && !(Instr.ethFrameDiscard h .unsupported).wf &&
        !(Instr.safeFrameRx h []).wf && !(Instr.arpRequest h 0 0).wf && !(Instr.icmpEcho h 0 0 []).wf) = true := by decide

theorem wf_frames : [Instr.arpRequest hdr (2 ^ 32) 0, .arpRequest hdr 0 (2 ^ 32), .icmpEcho hdr (2 ^ 32) 0 [],
    .icmpEcho hdr 0 (2 ^ 32) [], .icmpEcho hdr 0 0 (List.replicate 1501 0#8), .safeFrameRx hdr (List.replicate 1501 0#8),
    .prpEntryForget (2 ^ 48) 0, .prpEntryForget 0 65536, .prpNodeForget (2 ^ 48), .netLinkChange 0 65536 true,
    .ptpSyncRx 0 256 0#64 0].all (fun c => !c.wf) = true := by decide +kernel

theorem wf_sessions : [Instr.xdpRead { xh with psn := 2 ^ 32 } ⟨0, 0, 0, 0, 0⟩, .xdpKeepalive { xh with reqId := 65536 },
    .xdpClose { xh with reqId := 65536 }, .xdpProve xh [], .xdpProve { xh with psn := 2 ^ 32 } (List.replicate 384 0#8),
    .xdpRead xh ⟨65536, 0, 0, 0, 0⟩, .xdpRead xh ⟨0, 0, 2 ^ 32, 0, 0⟩, .xdpRead xh ⟨0, 0, 0, 65536, 0⟩,
    .xdpRead xh ⟨0, 0, 0, 0, 65536⟩, .xdpUnsubscribe xh 65536, .xdpUnsubscribe { xh with psn := 2 ^ 32 } 0,
    .xdpSnapshotExpiry none 65536, .xdpNotify 0 65536].all (fun c => !c.wf) = true := by decide +kernel

theorem wf_writes : [Instr.xdpWrite xh ⟨65536, 0, 0, 0, 0, []⟩, .xdpWrite xh ⟨0, 0, 256, 0, 0, []⟩,
    .xdpWrite xh ⟨0, 0, 0, 2 ^ 32, 0, []⟩, .xdpWrite xh ⟨0, 0, 0, 0, 2 ^ 32, []⟩,
    .xdpWrite xh ⟨0, 0, 0, 0, 0, List.replicate 1409 0#8⟩, .xdpSubscribe xh ⟨65536, 0, 1, 1, 0, 0⟩,
    .xdpSubscribe xh ⟨0, 0, 256, 1, 0, 0⟩, .xdpSubscribe xh ⟨0, 0, 1, 2 ^ 32, 0, 0⟩,
    .xdpSubscribe xh ⟨0, 0, 1, 1, 65536, 0⟩, .xdpSubscribe xh ⟨0, 0, 1, 1, 0, 65536⟩].all (fun c => !c.wf) = true := by decide +kernel

theorem wf_hello : [{ hello with addr := 2 ^ 32 }, { hello with port := 65536 }, { hello with psn := 2 ^ 32 },
    { hello with reqId := 65536 }, { hello with nonce := [] }, { hello with total := 65536 },
    { hello with offset := 65536 }, { hello with part := List.replicate 1421 0#8 }].all (fun h => !(Instr.xdpHello h).wf) =
      true := by decide +kernel

theorem wf_announce : [{ master with priority1 := 256 }, { master with clockClass := 256 }, { master with accuracy := 256 },
    { master with variance := 65536 }, { master with priority2 := 256 }, { master with identity := 2 ^ 64 },
    { master with stepsRemoved := 65536 }, { master with utcOffset := 2 ^ 15 }].all
      (fun m => !(Instr.ptpAnnounceRx 0 0 m).wf) && !(Instr.ptpAnnounceRx 0 256 master).wf = true := by decide

theorem wf_samples : [{ sv with appid := 65536 }, { sv with confRev := 2 ^ 32 }, { sv with asdus := [⟨65536, 0, []⟩] },
    { sv with asdus := [⟨0, 256, []⟩] }, { sv with asdus := [⟨0, 0, [(2 ^ 31, 0)]⟩] },
    { sv with asdus := [⟨0, 0, [(0, 2 ^ 32)]⟩] }].all (fun f => !(Instr.svFrameRx hdr f).wf) = true := by decide

theorem wf_goose : [{ goose with appid := 65536 }, { goose with confRev := 2 ^ 32 }, { goose with stNum := 2 ^ 32 },
    { goose with sqNum := 2 ^ 32 }, { goose with tal := 2 ^ 32 }].all (fun f => !(Instr.gooseFrameRx hdr f).wf) = true := by
  decide

theorem wf_nodes : [Instr.nodeMgmtResponse 0 0 (.frame []), .nodeMgmtResponse 0 0 (.frame (List.replicate 10 0#8)),
    .nodeMgmtResponse 0 0 (.echoReply (2 ^ 32)), .statusFrame 0 [] 0#64,
    .shareReportRx 0 ⟨0, 0, 0#64⟩ (List.replicate 65 0) [], .shareReportRx 0 ⟨0, 0, 0#64⟩ [65536] [],
    .shareReportRx 0 ⟨0, 0, 0#64⟩ [] (List.replicate 65 true), .sarScanRound [65536], .sarHandoverSlot [65536] [],
    .sarHandoverSlot [] [65536]].all (fun c => !c.wf) = true := by decide

theorem wf_lanes : [Instr.transactionTimeout (.window 0 65536 0) 0, .transactionTimeout (.request 0 0 256) 0,
    .berWindowEnd 0 1 2, .patternCheckerSync 0 false 1 2, .laneFrameRx 0 true true (some (2049, 0)) [],
    .laneFrameRx 0 true true (some (0, 2049)) [], .laneFrameRx 0 true true none [{ head with type := 256 }],
    .laneFrameRx 0 true true none [{ head with src := 8 }], .laneFrameRx 0 true true none [{ head with dst := 8 }],
    .laneFrameRx 0 true true none [{ head with seq := 65536 }], .laneFrameRx 0 true true none [{ head with hops := 256 }]].all
      (fun c => !c.wf) = true := by decide

theorem wf_array : [Instr.topologyRx 0 256 0 0 0 0, .topologyRx 0 0 256 0 0 0, .topologyRx 0 0 0 256 0 0,
    .topologyRx 0 0 0 0 65536 0, .topologyRx 0 0 0 0 0 (2 ^ 32), .samplesRx 0 0#64 0 [], .samplesRx 0 0#64 63 [0#32, 0#32],
    .samplesRx 0 0#64 0 (List.replicate 55 0#32), .graftProposeRx 0#64 [], .graftVoteRx 0 0#64 65536,
    .graftDecideRx 0#64 true 65536, .joinRx 0 (2 ^ 32) 0 false, .joinRx 0 0 (2 ^ 32) false, .bedDataRx 0 (2 ^ 32) [],
    .bedDataRx 0 300 (List.replicate 217 0#8), .bedDataRx 1 0 [], .userMsgRx 0 0 (List.replicate 241 0#8)].all
      (fun c => !c.wf) = true := by decide +kernel

/-! ## Examples of the spec -/

/-- R14: IDENTITY. -/
theorem test_identity : State.reset.dictRead (.queue 0) 0x1000 0x01 =
    .ok (⟨0x1000, 0x1000, 0x01, 0x01, "IDENTITY", .u32, .cst, 1678904629, .any⟩, .num 0x64120D35) := rfl

/-- The table gives no row bits. -/
theorem test_no_bits : decodeTableWord 16 0 = none := rfl

/-- Worked example of the modes chapter: STOP meets a voltage dip. RIDE is entered first, and STOP is refused there. -/
def dip : State := { (as_ .operator (at_ .form)) with ride := { RideState.reset with entry := some (1, 0, 0#64) } }
theorem test_stop_meets_dip :
    let t := modeCommand (.session 0) 5 (fun s => decide (s.ctl.mode = .form)) (fun _ => 0) id dip
    t.ctl.mode = .ride ∧ t.reg 0x1101 0x03 = 0x0401 ∧ t.reg 0x1102 1 = 1 ∧ t.reg 0x1100 9 = 1 := by decide +kernel

/-- Worked example of the modes chapter: a clear meets a new cause. -/
def cleared : State := (at_ .halt).raiseCause .safetyInput
theorem test_clear_meets_cause : ∃ t, exec (.clearHalt (.queue 0)) cleared = .next t ∧ t.ctl.mode = .halt ∧
    t.reg 0x1101 0x03 = 0x0C12 ∧ t.ctl.guard = .pendingOpen ∧ t.reg 0x1100 9 = 0 := ⟨_, rfl, by decide +kernel⟩

/-- Worked example of the queues chapter: one event, read from Q3. -/
theorem test_event_entry : State.eventEntry 0x0111 0x0A2C 0x3B9ACA0000#64 [5, 5, 2] =
    [0x11#8, 0x01#8, 0x03#8, 0#8, 0x2C#8, 0x0A#8, 0#8, 0#8, 0#8, 0#8, 0xCA#8, 0x9A#8, 0x3B#8, 0#8, 0#8, 0#8,
     5#8, 0#8, 0#8, 0#8, 5#8, 0#8, 0#8, 0#8, 2#8, 0#8, 0#8, 0#8] ++ List.replicate 36 0#8 := by decide +kernel

/-- Worked example of the Gate-Link chapter: H of pair 5 on at 0x009F_C800. -/
theorem test_edge_command : edgeBytes true 10 0x009FC800#32 0x1A2B =
    [0x8A#8, 0x00#8, 0x9F#8, 0xC8#8, 0x00#8, 0x1A#8, 0x2B#8, 0x52#8] := by decide +kernel

/-- Worked example of the Sundial chapter: conversion to TAI nanoseconds and back. -/
def mapped : State := (State.reset.putT 0x1400 0x06 0x0000010000000000#64).put 0x1400 0x07 (nsT80 1700000000250000000)
theorem test_conversion : mapped.taiNs 0x0000010280000080#64 = 1700000000291943041 ∧
    mapped.ofTaiNs 1700000000291943041 = 0x0000010280000100#64 := by decide +kernel

/-- Worked example of the reset chapter: the reading of code 3 straps position 3 in a normal boot. -/
theorem test_dibber : ∃ t, exec (.dibberMeasureEnd 24) State.reset = .next t ∧ t.position = 3 ∧ t.reg 0x1202 0x02 = 0 :=
  ⟨_, rfl, by decide +kernel⟩

/-- Worked example of the ride-through chapter: the third UV point, and the curve between two points. -/
theorem test_curve : curvePoints ([0xC0#8, 0xC6#8, 0x2D#8, 0x00#8, 0x9A#8, 0x99#8, 0xD9#8, 0x00#8]) =
    [(3000000, 0x00D9999A)] := by decide +kernel

/-- R12: a counter stops at all ones. -/
theorem test_counter_stops : ((State.reset.put 0x1100 9 0xFFFFFFFF).count 0x1100 9).reg 0x1100 9 = 0xFFFFFFFF := by
  decide +kernel

/-- R11: a sequence number passes from all ones to 1. -/
theorem test_sequence : nextSeq 0xFFFFFFFF#32 = 1#32 ∧ nextSeq 0#32 = 1#32 := by decide

/-- R527: the queue is first in, first out. -/
theorem test_queue_front : ∃ t, step { at_ .watch with pending := [.xdpMalformed, .rotationDecision] } = .next t ∧
    t.pending = [.rotationDecision] ∧ t.reg 0x1504 0x05 = 1 := ⟨_, rfl, rfl, by decide +kernel⟩

/-! ## What each statement asks of a state can be met -/

theorem meets_StepTakesTheFrontCommand :
    (∃ (s : State), ∃ (c : Instr), ∃ (rest : List Instr), s.pending = c :: rest) ∧
    (∃ (s : State), s.pending = []) :=
  ⟨⟨({ State.reset with pending := [Instr.rotationDecision] }), (Instr.rotationDecision), ([]), by decide⟩,
   ⟨(State.reset), by decide⟩⟩

theorem meets_ResetState : (∃ n, n < 17) :=
  ⟨(0), by decide⟩

theorem meets_EachCommandChangesOnlyItsParts :
    (∃ (c : Instr), ∃ (s : State), ∃ (t : State), exec c s = .next t ∧ (s.swapDue = false ∨ swapGoesAhead c = false)) ∧
    (∃ (c : Instr), ∃ (s : State), ∃ (t : State), exec c s = .next t) :=
  ⟨⟨(Instr.xdpMalformed), (State.reset), ((State.reset.count 0x1504 0x05)), rfl, by decide⟩,
   ⟨(Instr.xdpMalformed), (State.reset), ((State.reset.count 0x1504 0x05)), rfl⟩⟩

theorem meets_SubStateStaysInItsMode : (∃ (s : State), ∃ (t : State), s.SubInMode ∧ step s = .next t) :=
  ⟨(State.reset), (State.reset.tick), rfl, rfl⟩

theorem meets_RolesThatCommandTheModes :
    (∃ (req : Requester), ∃ (s : State), ∃ (r : State), ∃ (c : Instr), ∃ (n : Nat), s.present req = true ∧
      (c, n, r) ∈ [(Instr.goWatch req, 1, s.atCommand), (.energize req, 2, s.atCommand), (.connect req, 3, s.atCommand),
        (.cancelConnect req, 4, s.atCommand), (.stop req, 5, s.atCommand), (.toDormant req, 6, s.atCommand),
        (.halt req, 7, s.atHalt), (.clearHalt req, 8, s.atCommand)] ∧
          (isCore req = true ∨ s.roleOf req ∈ [some .operator, some .engineer, some .safety])) ∧
    (∃ (req : Requester), ∃ (s : State), ∃ (r : State), ∃ (c : Instr), ∃ (n : Nat), s.present req = true ∧
      (c, n, r) ∈ [(Instr.goWatch req, 1, s.atCommand), (.energize req, 2, s.atCommand), (.connect req, 3, s.atCommand),
        (.cancelConnect req, 4, s.atCommand), (.stop req, 5, s.atCommand), (.toDormant req, 6, s.atCommand),
        (.halt req, 7, s.atHalt), (.clearHalt req, 8, s.atCommand)] ∧
          isCore req = false ∧ s.roleOf req ∉ [some .operator, some .engineer, some .safety]) :=
  ⟨⟨(.session 0), (as_ .safety (at_ .form)), ((as_ .safety (at_ .form)).atHalt), (Instr.halt (.session 0)), (7),
    by decide, (by simp), by decide⟩,
   ⟨(.session 0), (as_ .viewer (at_ .watch)), ((as_ .viewer (at_ .watch)).atCommand), (Instr.stop (.session 0)), (5),
     by decide, (by simp), by decide, by decide⟩⟩

theorem meets_CommandsRefusedInAMode :
    (∃ (req : Requester), ∃ (s : State), ∃ (r : State), ∃ (c : Instr), ∃ (n : Nat), ∃ (m : Mode), r = s.atCommand ∧
      s.present req = true ∧ mayWrite s req operators = true ∧ (c, n, m) ∈ [(Instr.goWatch req, 1, Mode.dormant),
        (.energize req, 2, .watch), (.connect req, 3, .watch), (.cancelConnect req, 4, .watch), (.stop req, 5, .form),
          (.toDormant req, 6, .watch), (.clearHalt req, 8, .halt)] ∧ (r.ctl.mode ≠ m ∨ m = .dormant ∧
            r.ctl.recoveryBoot = true)) ∧
    (∃ (req : Requester), ∃ (s : State), ∃ (r : State), ∃ (c : Instr), ∃ (n : Nat), ∃ (m : Mode), r = s.atCommand ∧
      s.present req = true ∧ mayWrite s req operators = true ∧ (c, n, m) ∈ [(Instr.goWatch req, 1, Mode.dormant),
        (.energize req, 2, .watch), (.connect req, 3, .watch), (.cancelConnect req, 4, .watch), (.stop req, 5, .form),
          (.toDormant req, 6, .watch), (.clearHalt req, 8, .halt)] ∧ r.ctl.mode = m ∧ (¬ (m = .dormant ∧
            r.ctl.recoveryBoot = true))) :=
  ⟨⟨(.session 0), (as_ .safety (at_ .watch)), _, (Instr.stop (.session 0)), (5), (.form), rfl, by decide, by decide,
    by decide, by decide⟩,
   ⟨(.session 0), (as_ .safety (at_ .watch)), _, (Instr.connect (.session 0)), (3), (.watch), rfl, by decide,
     by decide, by decide, by decide, by decide⟩⟩

theorem meets_HaltCausesInDormant :
    (∃ (s : State), s.ctl.mode = .dormant) ∧
    (∃ (s : State), s.ctl.mode = .dormant ∧ s.ctl.causes ≠ []) ∧
    (∃ (s : State), s.ctl.mode = .dormant ∧ s.ctl.causes ≠ [] ∧ s.ctl.bootComplete = true ∧
      s.ctl.recoveryBoot = false) ∧
    (∃ (s : State), ∃ (req : Requester), s.ctl.mode = .dormant ∧ s.ctl.causes ≠ [] ∧ s.present req = true ∧
      mayWrite s req operators = true ∧ s.ctl.bootComplete = true ∧ s.ctl.recoveryBoot = false) :=
  ⟨⟨(at_ .dormant), by decide⟩,
   ⟨((at_ .dormant).raiseCause .thermal), by decide, by decide⟩,
   ⟨((at_ .dormant).raiseCause .thermal), by decide, by decide, by decide, by decide⟩,
   ⟨((at_ .dormant).raiseCause .thermal), (.queue 0), by decide, by decide, by decide, by decide, by decide, by decide⟩⟩

theorem meets_CopyFillsTheShadowBed : (∃ (req : Requester), ∃ (s : State), May s req engineers ∧ s.graftBusy = false) :=
  ⟨(.session 0), (bed [(0x4001, 0x02, 3)] (as_ .engineer (at_ .form))), ⟨by decide, by decide⟩, by decide⟩

theorem meets_SlotsAndFusesInTheirModes :
    (∃ (req : Requester), ∃ (s : State), s.present req = true ∧ s.programming = false ∧
      mayWrite s req (rootWriters s false) = true ∧
        (s.ctl.mode = .energize ∨ s.ctl.mode = .form ∨ s.ctl.mode = .ride)) ∧
    (∃ (req : Requester), ∃ (s : State), s.present req = true ∧ s.programming = false ∧
      mayWrite s req (rootWriters s false) = true ∧
        (s.ctl.mode = .energize ∨ s.ctl.mode = .form ∨ s.ctl.mode = .ride)) ∧
    (∃ (req : Requester), ∃ (s : State), ∃ (hash : Bytes), s.present req = true ∧ s.programming = false ∧
      mayWrite s req (rootWriters s false) = true ∧
        (s.ctl.mode = .energize ∨ s.ctl.mode = .form ∨ s.ctl.mode = .ride) ∧ hash.length = 32) ∧
    (∃ (req : Requester), ∃ (s : State), s.present req = true ∧ s.programming = false ∧
      mayWrite s req (rootWriters s false) = true ∧
        (s.ctl.mode = .dormant ∨ s.ctl.mode = .watch ∨ s.ctl.mode = .halt) ∧ s.activeSlots = []) ∧
    (∃ (req : Requester), ∃ (s : State), s.present req = true ∧ s.programming = false ∧
      mayWrite s req (rootWriters s false) = true ∧
        (s.ctl.mode = .dormant ∨ s.ctl.mode = .watch ∨ s.ctl.mode = .halt) ∧ s.activeSlots ≠ []) ∧
    (∃ (req : Requester), ∃ (s : State), s.present req = true ∧ s.programming = false ∧
      mayWrite s req (rootWriters s false) = true ∧
        (s.ctl.mode = .dormant ∨ s.ctl.mode = .watch ∨ s.ctl.mode = .halt)) ∧
    (∃ (req : Requester), ∃ (s : State), ∃ (hash : Bytes), s.present req = true ∧ s.programming = false ∧
      mayWrite s req (rootWriters s false) = true ∧
        (s.ctl.mode = .dormant ∨ s.ctl.mode = .watch ∨ s.ctl.mode = .halt) ∧ hash.length = 32) :=
  ⟨⟨(.session 0), (regs_ [(0x1900, 0x01, 1)] (as_ .security (at_ .form))), by decide, by decide, by decide, by decide⟩,
   ⟨(.session 0), (regs_ [(0x1900, 0x01, 1)] (as_ .security (at_ .form))), by decide, by decide, by decide, by decide⟩,
   ⟨(.session 0), (regs_ [(0x1900, 0x01, 1)] (as_ .security (at_ .form))), (List.replicate 32 0#8), by decide,
     by decide, by decide, by decide, by decide⟩,
   ⟨(.session 0), (regs_ [(0x1900, 0x01, 1)] (as_ .security (at_ .watch))), by decide, by decide, by decide,
     by decide, by decide⟩,
   ⟨(.session 0), (regs_ [(0x1900, 0x01, 1), (0x1900, 0x02, 1)] (as_ .security (at_ .watch))), by decide, by decide,
     by decide, by decide, by decide⟩,
   ⟨(.session 0), (regs_ [(0x1900, 0x01, 1)] (as_ .security (at_ .watch))), by decide, by decide, by decide, by decide⟩,
   ⟨(.session 0), (regs_ [(0x1900, 0x01, 1)] (as_ .security (at_ .watch))), (List.replicate 32 0#8), by decide,
     by decide, by decide, by decide, by decide⟩⟩

theorem meets_ModeCommandsComplete :
    (∃ (req : Requester), ∃ (s : State), ∃ (r : State), ∃ (h : State), r = s.atCommand ∧ h = s.atHalt ∧
      s.present req = true ∧ mayWrite r req operators = true ∧ mayWrite h req operators = true ∧ r.ctl.mode = .dormant ∧ r.ctl.recoveryBoot = false ∧
        r.ctl.bootComplete = true) ∧
    (∃ (req : Requester), ∃ (s : State), ∃ (r : State), ∃ (h : State), r = s.atCommand ∧ h = s.atHalt ∧
      s.present req = true ∧ mayWrite r req operators = true ∧ mayWrite h req operators = true ∧ r.ctl.mode = .watch ∧ r.ctl.sub ≠ .connectPending ∧
        r.cfgN 0x4001 0x02 ≠ 0xFFFF ∧ r.graft.remaps = false ∧ r.ctl.guard = .satisfied ∧ r.gf.deadbus = 2) ∧
    (∃ (req : Requester), ∃ (s : State), ∃ (r : State), ∃ (h : State), r = s.atCommand ∧ h = s.atHalt ∧
      s.present req = true ∧ mayWrite r req operators = true ∧ mayWrite h req operators = true ∧ r.ctl.mode = .watch ∧ r.cfgN 0x4001 0x03 ≠ 0xFFFF ∧ r.graft.remaps = false ∧
        r.ctl.guard = .satisfied ∧ r.gf.deadbus ≠ 2) ∧
    (∃ (req : Requester), ∃ (s : State), ∃ (r : State), ∃ (h : State), r = s.atCommand ∧ h = s.atHalt ∧
      s.present req = true ∧ mayWrite r req operators = true ∧ mayWrite h req operators = true ∧ r.ctl.mode = .watch) ∧
    (∃ (req : Requester), ∃ (s : State), ∃ (r : State), ∃ (h : State), r = s.atCommand ∧ h = s.atHalt ∧
      s.present req = true ∧ mayWrite r req operators = true ∧ mayWrite h req operators = true ∧ r.ctl.mode = .form) ∧
    (∃ (req : Requester), ∃ (s : State), ∃ (r : State), ∃ (h : State), r = s.atCommand ∧ h = s.atHalt ∧
      s.present req = true ∧ mayWrite r req operators = true ∧ mayWrite h req operators = true ∧ r.ctl.mode = .watch) ∧
    (∃ (req : Requester), ∃ (s : State), ∃ (r : State), ∃ (h : State), r = s.atCommand ∧ h = s.atHalt ∧
      s.present req = true ∧ mayWrite r req operators = true ∧ mayWrite h req operators = true) ∧
    (∃ (req : Requester), ∃ (s : State), ∃ (r : State), ∃ (h : State), r = s.atCommand ∧ h = s.atHalt ∧
      s.present req = true ∧ mayWrite r req operators = true ∧ mayWrite h req operators = true ∧ r.ctl.mode = .halt ∧ ((∀ c ∈ r.ctl.causes, c = .command)) ∧
        r.ctl.guard = .satisfied) :=
  ⟨⟨(.queue 0), (at_ .dormant), _, _, rfl, rfl, by decide, by decide, by decide, by decide, by decide, by decide⟩,
   ⟨(.queue 0), ({ bed [(0x4001,2,1)] (at_ .watch) with gf := { State.reset.gf with deadbus := 2 } }), _, _, rfl, rfl,
     by decide, by decide, by decide, by decide, by decide, by decide, by decide, by decide, by decide⟩,
   ⟨(.queue 0), (bed [(0x4001,3,1)] (at_ .watch)), _, _, rfl, rfl, by decide, by decide, by decide, by decide, by decide, by decide,
     by decide, by decide⟩,
   ⟨(.queue 0), (at_ .watch), _, _, rfl, rfl, by decide, by decide, by decide, by decide⟩,
   ⟨(.queue 0), (at_ .form), _, _, rfl, rfl, by decide, by decide, by decide, by decide⟩,
   ⟨(.queue 0), (at_ .watch), _, _, rfl, rfl, by decide, by decide, by decide, by decide⟩,
   ⟨(.queue 0), (at_ .form), _, _, rfl, rfl, by decide, by decide, by decide⟩,
   ⟨(.queue 0), (at_ .halt), _, _, rfl, rfl, by decide, by decide, by decide, by decide, by decide, by decide⟩⟩

theorem meets_ModeTransitionsComplete :
    (∃ (s : State), s.ctl.mode = .dormant ∧ s.ctl.bootComplete = true ∧ s.ctl.recoveryBoot = false) ∧
    (∃ (s : State), ∃ r, r = s.takeCauses ∧ r.gf.syncPass = true ∧ r.ctl.mode = .watch ∧ r.ctl.sub = .connectPending) ∧
    (∃ (s : State), ∃ r, r = s.takeCauses.takeSync ∧ r.ctl.mode = .watch ∧ r.ctl.sub = .connectPending) ∧
    (∃ (s : State), ∃ r, r = s.takeCauses ∧ r.gf.rampDone = true ∧ r.ctl.mode = .energize) ∧
    (∃ (s : State), ∃ r, r = s.takeCauses.takeRide ∧ r.ctl.mode = .form ∧ r.ctl.sub = .stopping) ∧
    (∃ (s : State), ∃ r, r = s.takeCauses ∧ r.ride.entry.isSome = true ∧ r.ctl.mode = .form) ∧
    (∃ (s : State), ∃ r, r = s.takeCauses.takeExit ∧ r.ride.recovery = true ∧ r.ctl.mode = .ride) ∧
    (∃ (s : State), ∃ r, r = s.takeCauses.takeRide ∧ r.ctl.mode = .form ∧ r.ctl.sub = .recovering) ∧
    (∃ (s : State), ∃ r, r = s.takeCauses ∧ r.ride.exit.isSome = true ∧ r.ctl.mode = .ride) ∧
    (∃ (s : State), ∃ c, c ∈ s.ctl.pendingCauses) ∧
    (∃ (s : State), ∃ (k : Fin 8), s.breakerPulse k = true) :=
  ⟨⟨(at_ .dormant), by decide, by decide, by decide⟩,
   ⟨({ (at_ .watch).modCtl (fun c => { c with sub := .connectPending }) with gf := { State.reset.gf with syncPass := true } }),
     _, rfl, by decide, by decide, by decide⟩,
   ⟨((at_ .watch).modCtl (fun c => { c with sub := .connectPending })), _, rfl, by decide, by decide⟩,
   ⟨({ at_ .energize with gf := { State.reset.gf with rampDone := true } }), _, rfl, by decide, by decide⟩,
   ⟨((at_ .form).modCtl (fun c => { c with sub := .stopping })), _, rfl, by decide, by decide⟩,
   ⟨((at_ .form).modRide (fun r => { r with entry := some (1, 5, 9#64) })), _, rfl, by decide, by decide⟩,
   ⟨((at_ .ride).modRide (fun r => { r with recovery := true, episode := some 9#64 })), _, rfl, by decide, by decide⟩,
   ⟨((at_ .form).modCtl (fun c => { c with sub := .recovering })), _, rfl, by decide, by decide⟩,
   ⟨((at_ .ride).modRide (fun r => { r with exit := some 2 })), _, rfl, by decide, by decide⟩,
   ⟨((at_ .form).raiseCause .thermal), (HaltCause.thermal), by decide⟩,
   ⟨((at_ .watch).modGf fun g => { g with pulse := [(2, 9#64)] }), (2), by decide⟩⟩

theorem meets_SieveChannelsComplete :
    (∃ (ch : Fin 48), ∃ (s : State), ∃ first, ∃ b, ∃ r, exec (.sieveOutput ch first b) s = .next r) ∧
    (∃ (ch : Fin 48), ∃ (s : State), ∃ b, ∃ c, (s.chan ch).status ≠ .off ∧
      c = sincBit (phaseStart (s.chan ch)) (s.chanClock ch) b ∧ c.sincPhase < s.cfgN (0x2000 + ch) 0x03) ∧
    (∃ (ch : Fin 48), ∃ (s : State), ∃ b, ∃ c, (s.chan ch).status ≠ .off ∧
      c = sincBit (phaseStart (s.chan ch)) (s.chanClock ch) b ∧ s.cfgN (0x2000 + ch) 0x03 ≤ c.sincPhase ∧
        c.firPhase + 1 < s.cfgN (0x2000 + ch) 0x05) ∧
    (∃ (ch : Fin 48), ∃ (s : State), ∃ b, ∃ c, (s.chan ch).status ≠ .off ∧
      c = sincBit (phaseStart (s.chan ch)) (s.chanClock ch) b ∧ s.cfgN (0x2000 + ch) 0x03 ≤ c.sincPhase ∧
        s.cfgN (0x2000 + ch) 0x05 ≤ c.firPhase + 1 ∧ s.cfgN (0x2000 + ch) 0x11 = 0) ∧
    (∃ (ch : Fin 48), ∃ (s : State), ∃ stuck, ∃ missing, (s.chan ch).status ≠ .off ∧ (s.chan ch).status ≠ .supvFault ∧
      ((stuck = true ∨ missing = true))) ∧
    (∃ (ch : Fin 48), ∃ (s : State), (s.chan ch).status = .supvFault) ∧
    (∃ (ch : Fin 48), ∃ (s : State), (s.chan ch).status = .settling ∧ (s.chan ch).settleLeft = 0) ∧
    (∃ (ch : Fin 48), ∃ (s : State), ∃ high, ∃ (bits : List Bool), (s.chan ch).status ≠ .off ∧
      s.qpBeyond ch high (s.qpValue ch bits) = true ∧ s.qpOwn ch high = false) ∧
    (∃ (ch : Fin 48), ∃ (s : State), ∃ high, ∃ (bits : List Bool), (s.chan ch).status ≠ .off ∧
      s.qpBack ch high (s.qpValue ch bits) = true) ∧
    (∃ (ch : Fin 48), ∃ (s : State), (s.chan ch).status ≠ .off ∧ s.cfg (0x2000 + ch) 0x01 = 2) :=
  ⟨⟨(3), ((at_ .watch).startChan 3), ([some true]), (none), _, rfl⟩,
   ⟨(3), ((at_ .watch).startChan 3), (some true), _, by decide, rfl, by decide⟩,
   ⟨(3), (bed [(0x2003,0x03,16), (0x2003,0x05,2)] (((at_ .watch).startChan 3).modChan 3 fun c => { c with sincPhase := 15 })),
     (some true), _, by decide, rfl, by decide, by decide⟩,
   ⟨(3), (bed [(0x2003,0x03,16), (0x2003,0x05,1)] (((at_ .watch).startChan 3).modChan 3 fun c => { c with sincPhase := 15 })),
     (some true), _, by decide, rfl, by decide, by decide, by decide⟩,
   ⟨(3), ((at_ .watch).startChan 3), (true), (false), by decide, by decide, by decide⟩,
   ⟨(3), (((at_ .watch).startChan 3).modChan 3 (fun c => { c with status := .supvFault, faultFlags := 1 })), by decide⟩,
   ⟨(3), (((at_ .watch).startChan 3).modChan 3 (fun c => { c with status := .settling, settleLeft := 0 })), by decide,
     by decide⟩,
   ⟨(3), (bed [(0x2003,0x0B,100)] ((at_ .watch).startChan 3)), (true), ((List.replicate 96 true)), by decide,
     by decide, by decide⟩,
   ⟨(3), (bed [(0x2003,0x0B,100)] (((at_ .watch).startChan 3).modChan 3 (fun c => { c with qpHigh := true }))),
     (true), ((List.replicate 96 false)), by decide, by decide⟩,
   ⟨(3), (bed [(0x2003,1,2)] ((at_ .watch).startChan 3)), by decide, by decide⟩⟩

theorem meets_SieveSynchronisationComplete :
    (∃ (s : State), ∃ (rising : Bool), s.regN 0x2100 0x03 = (if rising = true then 1 else 2) ∧ ((∀ l,
      s.sieve.lastSyncAt = some l → ¬ (0 ≤ sdiff (later s.now 12800) l ∧
        sdiff (later s.now 12800) l < s.syncPeriod)))) ∧
    (∃ (s : State), ∃ (req : Requester), ∃ value, May s req engineers ∧ (value = 0#64 ∨ (2560000 ≤ sdiff value s.now ∧
      sdiff value s.now ≤ 256000000000))) ∧
    (∃ (s : State), ∃ (at0 : ST64), ∃ source, ∃ r, s.sieve.syncs = (at0, source) :: r) ∧
    (∃ (s : State), ∃ (t0 : BitVec 64), s.inArray = true ∧ ((∀ l,
      s.sieve.lastSyncAt = some l → ¬ (0 ≤ sdiff (s.fromArray t0) l ∧ sdiff (s.fromArray t0) l < s.syncPeriod)))) :=
  ⟨⟨(regs_ [(0x2100,0x03,1)] (bed [(0x2100,0x03,1)] (at_ .watch))), (true), by decide, (by intro l h; cases h)⟩,
   ⟨(at_ .watch), ((.queue 0 : Requester)), (2560000#64), ⟨by decide, by decide⟩, by decide⟩,
   ⟨((at_ .watch).modSieve (fun v => { v with syncs := [(5#64, 2)] })), (5#64), (2), (([] : List (ST64 × Nat))),
     by decide⟩,
   ⟨((at_ .watch).put 0x1700 0x21 2), (99000#64), by decide, (by intro l h; cases h)⟩⟩

theorem meets_AuxiliaryConvertersComplete :
    (∃ (s : State), s.ctl.mode ≠ .dormant) ∧
    (∃ (s : State), ∃ (incoming : List Nat), ∃ (outgoing : List Nat), s.ctl.mode ≠ .dormant ∧
      s.sieve.sarReady = true ∧ ((∀ k < 8,
        ((incoming.getD k 0 : Int) - (outgoing.getD k 0 : Nat)).natAbs ≤ s.regN 0x2100 0x06))) :=
  ⟨⟨(bed [(0x2031,1,1)] (at_ .watch)), by decide⟩,
   ⟨((at_ .watch).modSieve (fun v => { v with sarReady := true })), ([7, 8]), ([7, 9]), by decide, by decide,
     by decide⟩⟩

theorem meets_ComparatorsComplete :
    (∃ (n : Fin 16), ∃ (s : State), ∃ level, s.cfg (0x20C0 + n) 0x01 = 1 ∧
      (if s.cfg (0x20C0 + n) 0x03 = 1 then State.cmpScale level < (s.cmpLine n).1 else (s.cmpLine n).1 < State.cmpScale level)) ∧
    (∃ (n : Fin 16), ∃ (s : State), ∃ level, s.cfg (0x20C0 + n) 0x01 = 1 ∧
      (if s.cfg (0x20C0 + n) 0x03 = 1 then (s.cmpLine n).1 + State.cmpScale (cmpHystMv (s.cfgN (0x20C0 + n) 0x04) * 1000) < State.cmpScale level else State.cmpScale level < (s.cmpLine n).1 - State.cmpScale (cmpHystMv (s.cfgN (0x20C0 + n) 0x04) * 1000))) :=
  ⟨⟨(2), (bed [(0x20C2,1,1), (0x20C2,2,600)] (at_ .watch)), (3000000), by decide, by decide⟩,
   ⟨(2), (bed [(0x20C2,1,1),
     (0x20C2,2,600)] ((at_ .watch).modSieve (fun v => { v with cmpOwn := vmod v.cmpOwn 2 fun _ => true }))), (0),
       by decide, by decide⟩⟩

theorem meets_EnginePeriodsComplete :
    (∃ (s : State), ∃ (e : Fin 16), s.swapDue = false ∧ s.engineActive e = true ∧ s.heldOff e = false) ∧
    (∃ (s : State), ∃ (e : Fin 16), (s.engine e).inPeriod = true) ∧
    (∃ (s : State), s.ctl.fastClocks = true) ∧
    (∃ (s : State), ∃ (req : Requester), ∃ (value : Nat), value < 2 ^ 64 ∧ May s req engineers ∧
      (s.ctl.mode = .dormant ∨ s.ctl.mode = .watch) ∧ s.reg 0x1700 0x20 = 0) ∧
    (∃ (s : State), s.inArray = true) :=
  ⟨⟨(bed [(0x31FF,1,1),(0x31FF,5,1)] (at_ .watch)), (1), by decide, by decide, by decide⟩,
   ⟨((at_ .form).modEngine 1 fun n => { n with inPeriod := true, regionOut := [(3, 5#32)] }), (1), by decide⟩,
   ⟨((at_ .energize).modCtl fun c => { c with fastClocks := true }), by decide⟩,
   ⟨(at_ .watch), ((.queue 0 : Requester)), (77), by decide, ⟨by decide, by decide⟩, by decide, by decide⟩,
   ⟨((at_ .watch).put 0x1700 0x21 2), by decide⟩⟩

theorem meets_LoopCommandsComplete :
    (∃ (e : Fin 16), ∃ (l : Fin 8), ∃ (req : Requester), ∃ (s : State), May s req engineers ∧
      s.engineActive e = true ∧ (s.slot e l).state ≠ .unused) ∧
    (∃ (e : Fin 16), ∃ (l : Fin 8), ∃ (req : Requester), ∃ (s : State), May s req engineers ∧
      s.engineActive e = true ∧ s.graft.hold.contains (e.val, l.val) = false ∧
        ((s.slot e l).state = .closed ∨ (s.slot e l).state = .tracking ∨ ((s.slot e l).state = .openL ∧
          s.closeConsistent e l = true))) :=
  ⟨⟨(1), (2), (.queue 0),
    ((bed [(0x31FF,1,1),(0x31FF,5,1)] (at_ .watch)).modSlot 1 2 fun w => { w with state := .closed }), ⟨by decide,
      by decide⟩, by decide, by decide⟩,
   ⟨(1), (2), (.queue 0),
     ((bed [(0x31FF,1,1),(0x31FF,5,1)] (at_ .watch)).modSlot 1 2 fun w => { w with state := .closed }), ⟨by decide,
       by decide⟩, by decide, by decide, by decide⟩⟩

theorem meets_OpenLoopParameterIsWritten : (∃ (e : Fin 16), ∃ (b : Fin 240), ∃ (sub : Nat), ∃ (l : Nat), ∃ (v : DVal),
  ∃ (r : Row), ∃ (req : Requester), ∃ (s : State), May s req engineers ∧
    Dict.findParam (Bed.type s.active e b) sub = some r ∧ (s.adapting && State.soundTarget s.active e b sub) = false ∧
      Bed.loop s.active e b = some l ∧ (s.slot e l).state = .openL ∧ typeOk r v = true ∧ rangeOk r.rng v = true ∧
        State.tapFits s.active e b sub v = true) :=
  ⟨(1), (4), (0x10), (2), (.num 5), ((Dict.findParam 2 0x10).getD ⟨0, 0, 0, 0, "", .u8, .ro, 0, .any⟩), (.queue 0),
    ((bed [(0x31FF,1,1),(0x31FF,5,1),(0x3104,1,2),(0x3104,0x0B,2)] (at_ .watch)).modSlot 1 2 fun w => { w with state := .openL }),
      ⟨by decide, by decide⟩, by decide, by decide, by decide, by decide, by decide, by decide, by decide⟩

theorem meets_DictionaryAccessesComplete :
    (∃ (req : Requester), ∃ (i : Nat), ∃ (k : Nat), ∃ (byte : Nat), ∃ (v : DVal), ∃ (w : DVal), ∃ (r : Row),
      ∃ (s : State), w = storeValue req r byte v ∧ 0 < k ∧ k < 0x80 ∧ s.present req = true ∧ s.rowOf req i k = .ok r ∧
        (isInstance i && decide (0x10 ≤ k) && decide (k < 0x50)) = false ∧ mayWrite s req (writersOf s i k) = true ∧
          accessCode s req i k = 0 ∧ (r.acc = .rw ∨ r.acc = .wo) ∧ typeOk r w = true ∧ rangeOk r.rng w = true ∧
            plainRange s i k w = true ∧ commandWrite req i k w s = none ∧ plainMode s i k = true ∧
              plainOwn s i k w = 0 ∧ Dict.key i k ≠ Dict.key 0x1803 0x04 ∧ Dict.key i k ≠ Dict.key 0x1700 0x01) ∧
    (∃ (req : Requester), ∃ (i : Nat), ∃ (k : Nat), ∃ (byte : Nat), ∃ (v : DVal), ∃ (w : DVal), ∃ (r : Row),
      ∃ (s : State), w = storeValue req r byte v ∧ May s req engineers ∧ typeOk r w = true ∧ rangeOk r.rng w = true ∧
        byte = 0 ∧ (∀ c, req ≠ .window c) ∧ i = 0x1803 ∧ k = 0x04 ∧ Dict.find i k = some r) ∧
    (∃ (req : Requester), ∃ (i : Nat), ∃ (k : Nat), ∃ (byte : Nat), ∃ (v : DVal), ∃ (w : DVal), ∃ (r : Row),
      ∃ (s : State), w = storeValue req r byte v ∧ May s req engineers ∧ typeOk r w = true ∧ rangeOk r.rng w = true ∧
        byte = 0 ∧ (∀ c, req ≠ .window c) ∧ i = 0x1700 ∧ k = 0x01 ∧ Dict.find i k = some r ∧ dwh s.ctl.mode = true) ∧
    (∃ (req : Requester), ∃ (i : Nat), ∃ (k : Nat), ∃ (byte : Nat), ∃ (v : DVal), ∃ (w : DVal), ∃ (r : Row),
      ∃ (s : State), w = storeValue req r byte v ∧ 0 < k ∧ k < 0x80 ∧ s.present req = true ∧ s.rowOf req i k = .ok r ∧
        (isInstance i && decide (0x10 ≤ k) && decide (k < 0x50)) = false ∧ mayWrite s req (writersOf s i k) = true ∧
          accessCode s req i k = 0 ∧ r.acc = .w1c ∧ typeOk r w = true) ∧
    (∃ (req : Requester), ∃ (i : Nat), ∃ (k : Nat), ∃ (byte : Nat), ∃ (v : DVal), ∃ (w : DVal), ∃ (r : Row),
      ∃ (s : State), w = storeValue req r byte v ∧ byte = 0 ∧ May s req engineers ∧ i ≠ 0 ∧ s.hasEntry i = true ∧
        bedRow (Bed.nat s.shadow i 0x01) i k = some r ∧ typeOk r w = true ∧ rangeOk r.rng w = true ∧
          shadowFits s i k w = true ∧ s.graftBusy = false) ∧
    (∃ (req : Requester), ∃ (i : Nat), ∃ (k : Nat), ∃ (byte : Nat), ∃ (v : DVal), ∃ (w : DVal), ∃ (r : Row),
      ∃ (s : State), ∃ (core : Fin 4), ∃ address, ∃ (bits : Nat), w = storeValue req r byte v ∧ 0x40000000 ≤ address ∧
        address < 0x48000000 ∧ i = (address - 0x40000000) / 0x800 ∧ k = address % 0x800 / 8 ∧
          s.dictRead (.window core) i k = .ok (r, w) ∧ address % 8 = 0 ∧ bits ∈ [8, 16, 32, 64]) ∧
    (∃ (req : Requester), ∃ (i : Nat), ∃ (k : Nat), ∃ (byte : Nat), ∃ (v : DVal), ∃ (w : DVal), ∃ (r : Row),
      ∃ (s : State), ∃ (core : Fin 4), ∃ address, ∃ code, ∃ type, w = storeValue req r byte v ∧ 0x40000000 ≤ address ∧
        address < 0x48000000 ∧ i = (address - 0x40000000) / 0x800 ∧ k = address % 0x800 / 8 ∧
          s.dictRead (.window core) i k = .error (code, type) ∧ code ≠ 0) :=
  ⟨⟨(.queue 0), (0x1803), (2), (0), (.num 100), _, ((Dict.find 0x1803 2).getD ⟨0, 0, 0, 0, "", .u8, .ro, 0, .any⟩),
    (at_ .watch), rfl, by decide, by decide, by decide, rfl, by decide, by decide, by decide, by decide, by decide,
      by decide, by decide, by decide, by decide, by decide, by decide, by decide⟩,
   ⟨(.queue 0), (0x1803), (4), (0), (.num 1), _, ((Dict.find 0x1803 4).getD ⟨0, 0, 0, 0, "", .u8, .ro, 0, .any⟩),
     ((at_ .watch).put 0x1803 0x20 2), rfl, ⟨by decide, by decide⟩, by decide, by decide, by decide,
       (by intro c h; cases h), by decide, by decide, by decide⟩,
   ⟨(.queue 0), (0x1700), (1), (0), (.num 1), _, ((Dict.find 0x1700 1).getD ⟨0, 0, 0, 0, "", .u8, .ro, 0, .any⟩),
     (at_ .watch), rfl, ⟨by decide, by decide⟩, by decide, by decide, by decide, (by intro c h; cases h), by decide,
       by decide, by decide, by decide⟩,
   ⟨(.queue 0), (0x1300), (0x0A), (0), (.num 3), _, ((Dict.find 0x1300 0x0A).getD ⟨0, 0, 0, 0, "", .u8, .ro, 0,
     .any⟩), ((at_ .watch).put 0x1300 0x0A 5), rfl, by decide, by decide, by decide, rfl, by decide, by decide,
       by decide, by decide, by decide⟩,
   ⟨(.queue 0), (0x2003), (3), (0), (.num 64), _, ((Dict.find 0x2003 3).getD ⟨0, 0, 0, 0, "", .u8, .ro, 0, .any⟩),
     (at_ .watch), rfl, by decide, ⟨by decide, by decide⟩, by decide, by decide, by decide, by decide, by decide,
       by decide, by decide⟩,
   ⟨(.queue 0), (0x1803), (2), (0), (.num 600), _, ((Dict.find 0x1803 2).getD ⟨0, 0, 0, 0, "", .u8, .ro, 0, .any⟩),
     (at_ .watch), (1), (0x40C01810), (32), rfl, by decide, by decide, by decide, by decide, rfl, by decide, by decide⟩,
   ⟨(.queue 0), (1), (0), (0), (.num 600), _, ((Dict.find 0x1803 2).getD ⟨0, 0, 0, 0, "", .u8, .ro, 0, .any⟩),
     (at_ .watch), (1), (0x40000800), ((0x0101 : Nat)), ((0 : Nat)), rfl, by decide, by decide, by decide, by decide,
       rfl, by decide⟩⟩

theorem meets_CommandEntryWritesAreTheCommands : (∃ (req : Requester), ∃ (s : State), ∃ c, ∃ n, May s req operators ∧
  (c, n) ∈ [(Instr.goWatch req, 1), (.energize req, 2), (.connect req, 3), (.cancelConnect req, 4), (.stop req, 5),
    (.toDormant req, 6), (.halt req, 7), (.clearHalt req, 8)]) :=
  ⟨(.queue 0), (at_ .watch), (Instr.goWatch (.queue 0)), (1), ⟨by decide, by decide⟩, by decide⟩

theorem meets_SounderCommandsComplete :
    (∃ (s : State), ∃ e, ∃ b, Bed.probe s.active = some (e, b) ∧ s.sounder.active = false ∧ s.pauseBits = 0) ∧
    (∃ (s : State), ∃ (e : Fin 16), ∃ b, Bed.probe s.active = some (e.val, b) ∧ s.sounder.active = true ∧
      s.sounder.sampled = Bed.estPeriods s.active) ∧
    (∃ (s : State), ∃ (req : Requester), ∃ (value : Nat), value ≤ 3 ∧ May s req engineers ∧ s.soundModeOwn value = 0) ∧
    (∃ (s : State), ∃ m, s.sounder.modePending = some m ∧ ((s.sounder.modeKept = false ∨ s.soundModeOwn m = 0))) ∧
    (∃ (s : State), s.reg 0x4022 0x02 = 1) :=
  ⟨⟨(regs_ [(0x1311,0x21,10),(0x4021,2,1)] (bed [(0x4020,1,0x0104),(0x3104,1,8)] (at_ .form))), (1), (4), by decide,
    by decide, by decide⟩,
   ⟨((bed [(0x4020,1,0x0104),(0x3104,1,8)] (at_ .form)).modSounder fun n =>
     { n with active := true, sampled := Bed.estPeriods (bed [(0x4020,1,0x0104),(0x3104,1,8)] (at_ .form)).active }),
     (1), (4), by decide, by decide, rfl⟩,
   ⟨(at_ .form), ((.queue 0 : Requester)), (0), by decide, ⟨by decide, by decide⟩, by decide⟩,
   ⟨((at_ .form).modSounder fun n => { n with modePending := some 0 }), (0), by decide, by decide⟩,
   ⟨((at_ .form).put 0x4022 2 1), by decide⟩⟩

theorem meets_FurrowCommandsComplete :
    (∃ (f : Fin 12), ∃ (s : State), ∃ atPeriod, (s.furrow f).running = true ∧ s.swapDue = false ∧
      s.isReload f atPeriod = true ∧ (s.furrow f).newSettings = false) ∧
    (∃ (f : Fin 12), ∃ (s : State), (s.furrow f).running = true) ∧
    (∃ (f : Fin 12), ∃ (s : State), ∃ (req : Requester), ∃ mask, (s.furrow f).running = true ∧ May s req engineers ∧
      mask < 2 ^ 25 ∧ ((∀ p < 24, bitOf mask p = true → s.cfgN (0x5020 + p) 0x02 = f.val)) ∧
        s.pcfg (0x5000 + f) 0x07 = 0) :=
  ⟨⟨(1), ((at_ .form).modFurrow 1 fun g => { g with running := true }), (true), by decide, by decide,
    by decide, by decide⟩,
   ⟨(1), ((at_ .form).modFurrow 1 fun g => { g with running := true }), by decide⟩,
   ⟨(1), ((at_ .form).modFurrow 1 fun g => { g with running := true }), ((.queue 0 : Requester)), (0x1000000),
     by decide, ⟨by decide, by decide⟩, by decide, by decide, by decide⟩⟩

theorem meets_PwmShadowWritesComplete :
    (∃ (req : Requester), ∃ (s : State), ∃ (f : Fin 12), ∃ (value : Nat), May s req engineers ∧ 16 ≤ value ∧
      value ≤ 16777215 ∧ s.cfg (0x5000 + f) 0x05 ≠ 1) ∧
    (∃ (req : Requester), ∃ (s : State), ∃ (p : Fin 24), ∃ isB, ∃ (value : Nat), May s req engineers ∧
      value ≤ 0x3FFFFFFF ∧ ((isB = false → (Bed.mod2l s.active false 0 p) = none))) ∧
    (∃ (req : Requester), ∃ (s : State), ∃ (l : Fin 8), ∃ (p : Fin 24), ∃ isB, ∃ (value : Nat), May s req engineers ∧
      value ≤ 0x3FFFFFFF ∧ ((isB = false → (Bed.mod2l s.active true l p) = none))) :=
  ⟨⟨(.queue 0), (bed [(0x5001,5,0)] (at_ .watch)), (1), (100), ⟨by decide, by decide⟩, by decide, by decide, by decide⟩,
   ⟨(.queue 0), (bed [(0x5001,5,0)] (at_ .watch)), (2), (true), (100), ⟨by decide, by decide⟩, by decide, by decide⟩,
   ⟨(.queue 0), (bed [(0x5001,5,0)] (at_ .watch)), (3), (2), (true), (100), ⟨by decide, by decide⟩, by decide,
     by decide⟩⟩

theorem meets_PairCommandsComplete :
    (∃ (p : Fin 24), ∃ (s : State), ∃ (low : Bool), ∃ atT, ∃ r, s.pcfg (0x5020 + p) 0x01 = 1 ∧
      (s.furrow (s.pcfg (0x5020 + p) 0x02)).running = true ∧ (s.pair p).patternOn = true ∧
        r = turnOn (s.carrier (s.pcfg (0x5020 + p) 0x02)) (decide (s.pcfg (0x5020 + p) 0x03 = 1)) (s.liveA p) (s.liveB p) (s.pcfg (0x5020 + p) 0x04 * 10) (s.pcfg (0x5020 + p) 0x05 * 10) low (if low then (s.pair p).l else (s.pair p).h) (if low then (s.pair p).h else (s.pair p).l) atT) ∧
    (∃ (p : Fin 24), ∃ (s : State), s.ctl.fastClocks = true ∧ s.pcfg (0x5020 + p) 0x01 = 1) ∧
    (∃ (p : Fin 24), ∃ (s : State), s.ctl.fastClocks = true ∧ s.pcfg (0x5020 + p) 0x01 = 1) ∧
    (∃ (s : State), ∃ (n : Fin 8), n.val ∉ s.fltActive) ∧
    (∃ (p : Fin 24), ∃ (s : State), ∃ (req : Requester), May s req engineers ∧ (s.pair p).sources = [] ∧
      (s.pair p).fault = true) :=
  ⟨⟨(2), ({ (bed [] (at_ .form)).modFurrow 0 (fun g => { g with running := true }) with pwm := (bed [(0x5022,1,1)] (at_ .form)).active, pairs := vmod (at_ .form).pairs 2 fun q => { q with patternOn := true } }),
    (false), (500#64), _, by decide, by decide, by decide, rfl⟩,
   ⟨(2), ({ (at_ .form).modCtl (fun c => { c with fastClocks := true }) with pwm := (bed [(0x5022,1,1)] (at_ .form)).active }),
     by decide, by decide⟩,
   ⟨(2), ({ (at_ .form).modCtl (fun c => { c with fastClocks := true }) with pwm := (bed [(0x5022,1,1)] (at_ .form)).active }),
     by decide, by decide⟩,
   ⟨(at_ .watch), (3), by decide⟩,
   ⟨(2), ((at_ .watch).modPair 2 fun q => { q with fault := true }), ((.queue 0 : Requester)), ⟨by decide, by decide⟩,
     by decide, by decide⟩⟩

theorem meets_GateLinkTrafficCompletes :
    (∃ (s : State), s.ctl.haltLaneDeadline ≠ none ∧ s.ctl.mode = .halt) ∧
    (∃ (l : Fin 8), ∃ (s : State), ∃ c, ∃ r, (s.lane l).queue = c :: r ∧ s.pulsing = true ∧
      (s.lane l).inhibit = false) ∧
    (∃ (l : Fin 8), ∃ (s : State), ∃ c, ∃ r, (s.lane l).queue = c :: r ∧ s.pulsing = true ∧
      (s.lane l).inhibit = false) ∧
    (∃ (l : Fin 8), ∃ (s : State), s.laneEnabled l = true ∧ s.ctl.mode ≠ .dormant ∧ (s.lane l).noData = false) ∧
    (∃ (l : Fin 8), ∃ (s : State), ∃ (data : Bytes), data.length = 8 ∧
      crc8 (slice data 0 7) = leNat (slice data 7 1) ∧ (s.node l (leNat (slice data 0 1) / 8)).present = true) :=
  ⟨⟨((at_ .halt).modCtl fun c => { c with haltLaneDeadline := some 5#64 }), by decide, by decide⟩,
   ⟨(1), (((at_ .form).modCtl fun c => { c with permission := true }).modLane 1 fun g => { g with queue := [⟨3, true, 9#32, none, false⟩], inhibit := false }),
     ((⟨3, true, 9#32, none, false⟩ : EdgeCmd)), (([] : List EdgeCmd)), by decide, by decide, by decide⟩,
   ⟨(1), (((at_ .form).modCtl fun c => { c with permission := true }).modLane 1 fun g => { g with queue := [⟨3, true, 9#32, none, false⟩], inhibit := false }),
     ((⟨3, true, 9#32, none, false⟩ : EdgeCmd)), (([] : List EdgeCmd)), by decide, by decide, by decide⟩,
   ⟨(1), (bed [(0x6001,1,1),(0x6001,2,1)] (at_ .watch)), by decide, by decide, by decide⟩,
   ⟨(1), ((at_ .watch).modNode 1 0 (fun n => { n with present := true })),
     ((List.replicate 7 0#8 ++ toLe 1 (crc8 (List.replicate 7 0#8) : Nat))), by decide, by decide +kernel, by decide⟩⟩

/-- A management frame of node 2 with the given data bytes (R312). -/
def mgmtFrame (d : Bytes) : Bytes := d ++ toLe 1 (crc8 d : Nat)
theorem meets_ChainProceduresComplete :
    (∃ (l : Fin 8), ∃ (s : State), ∃ (n : Fin 24), ∃ (b : Bytes), ∃ c, (s.lane l).chain = some c ∧ b.length = 9 ∧
      crc8 (slice b 0 8) = leNat (slice b 8 1) ∧ leNat (slice b 0 1) = n.val ∧ leNat (slice b 1 1) = 0x89 ∧
        c.kind = 1 ∧ leNat (slice b 2 1) = n.val) ∧
    (∃ (l : Fin 8), ∃ (s : State), ∃ (n : Fin 24), ∃ (b : Bytes), ∃ c, (s.lane l).chain = some c ∧ b.length = 9 ∧
      crc8 (slice b 0 8) = leNat (slice b 8 1) ∧ leNat (slice b 0 1) = n.val ∧ leNat (slice b 1 1) = 0x88 ∧
        c.step = 2 ∧ (s.node l n).present = true) ∧
    (∃ (l : Fin 8), ∃ (s : State), ∃ (n : Fin 24), ∃ c, (s.lane l).chain = some c ∧ c.step = 3 ∧
      (s.node l n).present = true) ∧
    (∃ (s : State), ∃ (req : Requester), May s req engineers ∧ (s.ctl.mode = .watch ∨ s.ctl.mode = .halt)) ∧
    (∃ (l : Fin 8), ∃ (s : State), ∃ (refused : Bool), ∃ (late : Bool), ∃ c, (s.lane l).chain = some c ∧ c.kind ≠ 3 ∧
      ((refused = true ∨ late = true ∨ s.chainDone l c = true))) ∧
    (∃ (l : Fin 8), ∃ (s : State), ∃ (n : Fin 24), ∃ (req : Requester), May s req engineers ∧
      (s.node l n).present = true) ∧
    (∃ (l : Fin 8), ∃ (s : State), ∃ (n : Fin 24), ∃ (req : Requester), May s req engineers ∧
      (s.node l n).present = true ∧ (s.ctl.mode = .watch ∨ s.ctl.mode = .halt)) :=
  ⟨⟨(1), ((at_ .watch).modLane 1 fun g => { g with chain := some ⟨1, 1, []⟩ }), (2),
    (mgmtFrame [2#8, 0x89#8, 2#8, 0#8, 0#8, 0#8, 0#8, 0#8]), (⟨1, 1, []⟩), by decide, by decide, by decide +kernel,
      by decide, by decide, by decide, by decide⟩,
   ⟨(1), (((at_ .watch).modLane 1 fun g => { g with chain := some ⟨2, 2, [2]⟩ }).modNode 1 2 fun n => { n with present := true }),
     (2), (mgmtFrame [2#8, 0x88#8, 1#8, 0#8, 9#8, 5#8, 0#8, 4#8]), (⟨2, 2, [2]⟩), by decide, by decide,
       by decide +kernel, by decide, by decide, by decide, by decide⟩,
   ⟨(1), (((at_ .watch).modLane 1 fun g => { g with chain := some ⟨2, 3, [2]⟩ }).modNode 1 2 fun n => { n with present := true }),
     (2), (⟨2, 3, [2]⟩), by decide, by decide, by decide⟩,
   ⟨(at_ .watch), ((.queue 0 : Requester)), ⟨by decide, by decide⟩, by decide⟩,
   ⟨(1), ((at_ .watch).modLane 1 fun g => { g with chain := some ⟨1, 5, []⟩ }), (false), (false), (⟨1, 5, []⟩),
     by decide, by decide, by decide⟩,
   ⟨(1), ((at_ .watch).modNode 1 2 fun n => { n with present := true }), (2), ((.queue 0 : Requester)), ⟨by decide,
     by decide⟩, by decide⟩,
   ⟨(1), ((at_ .watch).modNode 1 2 fun n => { n with present := true }), (2), ((.queue 0 : Requester)), ⟨by decide,
     by decide⟩, by decide, by decide⟩⟩

theorem meets_ShareGroupsComplete :
    (∃ (a : Fin 6), ∃ (s : State), ∃ (shareId : Fin 16), s.cfg (0x6300 + a) 0x01 = 1 ∧
      s.cfgN (0x6300 + a) 0x06 = shareId.val ∧ (Bed.nlc s.active a).isSome = true) ∧
    (∃ (a : Fin 6), ∃ (s : State), ∃ (shareId : Fin 16), s.cfg (0x6300 + a) 0x01 = 1 ∧
      s.cfgN (0x6300 + a) 0x06 = shareId.val ∧ Bed.nlc s.active a = none) ∧
    (∃ (a : Fin 6), ∃ (s : State), s.cfg (0x6300 + a) 0x01 = 1 ∧ s.cfgN (0x6300 + a) 0x06 < 16 ∧
      Bed.nlc s.active a = none) ∧
    (∃ (a : Fin 6), ∃ (s : State), s.cfg (0x6300 + a) 0x01 = 1 ∧ s.inArray = true ∧ s.cfgN (0x6300 + a) 0x06 < 16) :=
  ⟨⟨(1), ((fun x : State => { x with active := storePut x.active (Dict.key 0x30FF 4) (.bytes [5#8, 0#8, 0xFF#8]) }) (bed [(0x6301,1,1),(0x6301,6,3),(0x30FF,1,1),(0x3005,1,29),(0x3005,0x10,16777216)] (at_ .form))),
    (3), by decide, by decide, by decide⟩,
   ⟨(1), (bed [(0x6301,1,1),(0x6301,6,3)] (at_ .form)), (3), by decide, by decide, by decide⟩,
   ⟨(1), (bed [(0x6301,1,1),(0x6301,6,3)] (at_ .form)), by decide, by decide, by decide⟩,
   ⟨(1), ((bed [(0x6301,1,1),(0x6301,6,3)] (at_ .form)).put 0x1700 0x21 2), by decide, by decide, by decide⟩⟩

theorem meets_LegAndGroupCommandsComplete :
    (∃ (s : State), ∃ (n : Fin 216), (s.leg n).bypassDue ≠ none) ∧
    (∃ (s : State), ∃ (n : Fin 216), ∃ (low : Bool), (s.legPending n low).isSome = true) ∧
    (∃ (s : State), ∃ (n : Fin 216), ∃ (req : Requester), ∃ pairEntry, ∃ i,
      i = (if pairEntry && decide (24 ≤ n.val) then State.remoteEntry (State.legLane n) (State.legPair n) else 0x7100 + n.val) ∧
        May s req operators ∧ s.legHeldBack n = 0) ∧
    (∃ (s : State), ∃ (g : Fin 16), ∃ (req : Requester), May s req operators ∧
      ((s.sgroup g).sources.any fun x => s.srcActive x.1 x.2) = false) ∧
    (∃ (s : State), ∃ (req : Requester), May s req operators ∧
      (State.allSources.any fun x => s.srcActive x.1 x.2 && decide (s.srcClass x.1 x.2 ≠ 0)) = false) :=
  ⟨⟨((at_ .form).modLeg 30 (fun g => { g with bypassDue := some 7#64 })), (30), by decide⟩,
   ⟨((at_ .form).modLeg 30 (fun g => { g with hPending := some 5#64 })), (30), (false), by decide⟩,
   ⟨((at_ .watch).modLeg 30 (fun g => { g with hStopped := true })), (30), ((.queue 0 : Requester)), (true), _, rfl,
     ⟨by decide, by decide⟩, by decide⟩,
   ⟨((at_ .watch).modSgroup 3 (fun g => { g with tripped := true })), (3), ((.queue 0 : Requester)), ⟨by decide,
     by decide⟩, by decide⟩,
   ⟨((at_ .watch).modShears (fun h => { h with allActive := true })), ((.queue 0 : Requester)), ⟨by decide,
     by decide⟩, by decide +kernel⟩⟩

theorem meets_SelfTestsComplete :
    (∃ (s : State), ∃ (n : Fin 16), ∃ (req : Requester), May s req engineers ∧
      (s.ctl.mode = .watch ∨ s.ctl.mode = .halt) ∧ s.shears.test = none ∧ s.cfg (0x20C0 + n) 0x01 = 1) ∧
    (∃ (s : State), ∃ (n : Fin 16), ∃ (at0 : ST64), s.shears.test = some (.comparator n, at0)) ∧
    (∃ (s : State), ∃ (v : BitVec 32), ∃ l, ∃ n, ∃ (req : Requester), l = v.toNat / 0x10000 % 256 ∧
      n = v.toNat / 0x100 % 256 ∧ May s req engineers ∧ (s.ctl.mode = .watch ∨ s.ctl.mode = .halt) ∧
        s.shears.test = none ∧ v.toNat < 0x1000000 ∧ l < 8 ∧ n < 24 ∧ (s.node l n).present = true) ∧
    (∃ (s : State), ∃ l, ∃ n, ∃ c, ∃ (at0 : ST64), s.shears.test = some (.node l n c, at0)) :=
  ⟨⟨(bed [(0x20C2,1,1)] (at_ .watch)), (2), ((.queue 0 : Requester)), ⟨by decide, by decide⟩, by decide, by decide,
    by decide⟩,
   ⟨((at_ .watch).modShears (fun h => { h with test := some (.comparator 2, 5#64) })), (2), (5#64), by decide⟩,
   ⟨((at_ .watch).modNode 1 2 (fun n => { n with present := true })), (0x010205#32), _, _, ((.queue 0 : Requester)),
     rfl, rfl, ⟨by decide, by decide⟩, by decide, by decide, by decide, by decide, by decide, by decide⟩,
   ⟨((at_ .watch).modShears (fun h => { h with test := some (.node 1 2 5, 5#64) })), (1), (2), (5), (5#64), by decide⟩⟩

theorem meets_SafetyInputsAndOutputsComplete :
    (∃ (s : State), ∃ (n : Fin 8), s.siEvaluable n = true) ∧
    (∃ (s : State), ∃ (k : Fin 8), s.soFunction k = 3 ∧ s.soTestable k = true ∧ s.sourceInputs k ≠ []) ∧
    (∃ (s : State), ∃ (k : Fin 8), s.soFunction k = 3) ∧
    (∃ (s : State), ∃ (k : Fin 8), (s.soFunction k = 1 ∨ s.soFunction k = 2) ∧ s.reg (0x8020 + k) 0x03 = 1 ∧
      s.soTestable k = true) ∧
    (∃ (s : State), ∃ (k : Fin 8), (s.sout k).fault = false ∧ (s.sout k).clearTest = none ∧
      ((s.sout k).pulse = true ∨ s.soFunction k = 3)) ∧
    (∃ (s : State), ∃ (k : Fin 8), (s.sout k).fault = false ∧ (s.sout k).clearTest = none ∧
      ((s.sout k).pulse = true ∨ s.soFunction k = 3)) ∧
    (∃ (s : State), ∃ (k : Fin 8), (s.sout k).fault = false ∧ (s.sout k).clearTest = none ∧
      ((s.sout k).pulse = true ∨ s.soFunction k = 3)) ∧
    (∃ (s : State), ∃ (k : Fin 8), (s.sout k).fault = false ∧ (s.sout k).clearTest = none ∧
      ((s.sout k).pulse = true ∨ s.soFunction k = 3) ∧ s.soCommanded k = some true) ∧
    (∃ (s : State), ∃ (k : Fin 8), ∃ v, s.soCommanded k = some v ∧ (s.sout k).fault = false) ∧
    (∃ (s : State), s.cloche.state ≠ .boot ∧ s.cloche.penFault = false) :=
  ⟨⟨(at_ .watch), (2), by decide⟩,
   ⟨(regs_ [(0x8021,1,3),(0x8012,1,1),(0x8012,3,1)] ((at_ .watch).modCloche fun c => { c with state := .running })),
     (1), by decide, by decide, by decide⟩,
   ⟨(regs_ [(0x8021,1,3),(0x8012,1,1),(0x8012,3,1)] ((at_ .watch).modCloche fun c => { c with state := .running })),
     (1), by decide⟩,
   ⟨(regs_ [(0x8021,1,1),(0x8021,3,1)] ((at_ .form).modCtl fun c => { c with permission := true })), (1), by decide,
     by decide, by decide⟩,
   ⟨((regs_ [(0x8021,1,1),(0x8021,3,1)] ((at_ .form).modCtl fun c => { c with permission := true })).modSo 1 fun o => { o with pulse := true }),
     (1), by decide, by decide, by decide⟩,
   ⟨((regs_ [(0x8021,1,1),(0x8021,3,1)] ((at_ .form).modCtl fun c => { c with permission := true })).modSo 1 fun o => { o with pulse := true }),
     (1), by decide, by decide, by decide⟩,
   ⟨((regs_ [(0x8021,1,1),(0x8021,3,1)] ((at_ .form).modCtl fun c => { c with permission := true })).modSo 1 fun o => { o with pulse := true }),
     (1), by decide, by decide, by decide⟩,
   ⟨((regs_ [(0x8021,1,1),(0x8021,3,1)] ((at_ .form).modCtl fun c => { c with permission := true })).modSo 1 fun o => { o with pulse := true }),
     (1), by decide, by decide, by decide, by decide⟩,
   ⟨(regs_ [(0x8021,1,1),(0x8021,3,1)] ((at_ .form).modCtl fun c => { c with permission := true })), (1), (true),
     by decide, by decide⟩,
   ⟨((at_ .form).modCloche fun c => { c with state := .running }), by decide, by decide⟩⟩

theorem meets_SafetyClearsComplete :
    (∃ (s : State), ∃ (k : Fin 8), ∃ (req : Requester), May s req safetyOnly ∧ s.ctl.mode = .halt ∧
      (s.sout k).clearTest = none) ∧
    (∃ (s : State), ∃ (req : Requester), May s req safetyOnly ∧ s.ctl.mode = .halt) ∧
    (∃ (s : State), ∃ (k : Fin 8), ∃ (req : Requester), ∃ pulsed, (s.sout k).clearTest = some (req, pulsed) ∧
      s.present req = true) ∧
    (∃ (s : State), ∃ (k : Fin 8), ∃ (req : Requester), ∃ pulsed, (s.sout k).clearTest = some (req, pulsed) ∧
      s.present req = true) ∧
    (∃ (s : State), s.cloche.clockFault = false) ∧
    (∃ (s : State), s.cloche.clockFault = false) ∧
    (∃ (s : State), s.cloche.clockFault = true) :=
  ⟨⟨(as_ .safety (at_ .halt)), (1), ((.session 0 : Requester)), ⟨by decide, by decide⟩, by decide, by decide⟩,
   ⟨(as_ .safety (at_ .halt)), ((.session 0 : Requester)), ⟨by decide, by decide⟩, by decide⟩,
   ⟨((as_ .safety (at_ .halt)).modSo 1 (fun o => { o with clearTest := some (.session 0, true), fault := true })),
     (1), ((.session 0 : Requester)), (true), by decide, by decide⟩,
   ⟨((as_ .safety (at_ .halt)).modSo 1 (fun o => { o with clearTest := some (.session 0, true), fault := true })),
     (1), ((.session 0 : Requester)), (true), by decide, by decide⟩,
   ⟨(as_ .safety (at_ .halt)), by decide⟩,
   ⟨(as_ .safety (at_ .halt)), by decide⟩,
   ⟨((at_ .watch).modCloche fun c => { c with clockFault := true }), by decide⟩⟩

theorem meets_SafeFramesComplete :
    (∃ (s : State), ∃ (c : Fin 4), s.reg (0x8030 + c) 0x01 = 1 ∧ s.ctl.mode ≠ .dormant) ∧
    (∃ (s : State), ∃ (h : EthHeader), ∃ (pdu : Bytes), ∃ (c : Nat), ∃ (q : Nat), c < 8 ∧ q = beNat (slice pdu 4 4) ∧
      (s.screen h).1 = true ∧ s.ctl.mode ≠ .dormant ∧ s.cloche.state ≠ .updatePause ∧ pdu.length = 28 ∧
        s.rxEnabled c = true ∧ s.regN (0x8040 + c) 0x02 = beNat (slice pdu 0 2) ∧
          beNat (s.regB (0x8040 + c) 0x03) = h.src ∧ slice pdu 2 1 = [0x01#8] ∧
            beNat (slice pdu 24 4) = (crc32c (slice pdu 0 24)).toNat ∧ s.rxFollows c q = true ∧
              vget (s.srx c).held (1 - h.port.val) none = none) ∧
    (∃ (s : State), ∃ (h : EthHeader), ∃ (pdu : Bytes), ∃ (c : Nat), ∃ (q : Nat), c < 8 ∧ q = beNat (slice pdu 4 4) ∧
      (s.screen h).1 = true ∧ s.ctl.mode ≠ .dormant ∧ s.cloche.state ≠ .updatePause ∧ pdu.length = 28 ∧
        s.rxEnabled c = true ∧ s.regN (0x8040 + c) 0x02 = beNat (slice pdu 0 2) ∧
          beNat (s.regB (0x8040 + c) 0x03) = h.src ∧ slice pdu 2 1 = [0x01#8] ∧
            beNat (slice pdu 24 4) = (crc32c (slice pdu 0 24)).toNat ∧ s.rxFollows c q = true ∧
              vget (s.srx c).held (1 - h.port.val) none = some (q, pdu)) ∧
    (∃ (s : State), ∃ (h : EthHeader), ∃ (pdu : Bytes), ∃ (c : Nat), ∃ (q : Nat), ∃ other, c < 8 ∧
      q = beNat (slice pdu 4 4) ∧ (s.screen h).1 = true ∧ s.ctl.mode ≠ .dormant ∧ s.cloche.state ≠ .updatePause ∧
        pdu.length = 28 ∧ s.rxEnabled c = true ∧ s.regN (0x8040 + c) 0x02 = beNat (slice pdu 0 2) ∧
          beNat (s.regB (0x8040 + c) 0x03) = h.src ∧ slice pdu 2 1 = [0x01#8] ∧
            beNat (slice pdu 24 4) = (crc32c (slice pdu 0 24)).toNat ∧ s.rxFollows c q = true ∧
              vget (s.srx c).held (1 - h.port.val) none = some (q, other) ∧ other ≠ pdu) ∧
    (∃ (s : State), ∃ (c : Fin 8), s.rxEnabled c = true ∧ s.ctl.mode ≠ .dormant ∧ s.cloche.state ≠ .updatePause ∧
      (s.srx c).fault = false ∧ (s.srx c).mismatch ≠ some s.now) :=
  ⟨⟨((at_ .watch).put 0x8032 1 1), (2), by decide, by decide⟩,
   ⟨((regs_ [(0x1501,0x20,2),(0x8042,1,1),(0x8042,2,5)] ((at_ .form).putB 0x8042 3 (toBe 6 5)))), (⟨0, 5, 7, none,
     100, none, 9#64⟩), ((toBe 2 5 ++ [1#8,
       0#8] ++ toBe 4 9 ++ List.replicate 16 0#8) ++ toBe 4 (crc32c (toBe 2 5 ++ [1#8,
         0#8] ++ toBe 4 9 ++ List.replicate 16 0#8)).toNat), (2), (9), by decide, by decide, by decide, by decide,
           by decide, by decide, by decide, by decide, by decide, by decide, by decide +kernel, by decide, by decide⟩,
   ⟨((regs_ [(0x1501,0x20,2),(0x8042,1,1),(0x8042,2,5)] ((at_ .form).putB 0x8042 3 (toBe 6 5))).modRx 2 fun r => { r with held := vmod r.held 1 fun _ => some (9, (toBe 2 5 ++ [1#8, 0#8] ++ toBe 4 9 ++ List.replicate 16 0#8) ++ toBe 4 (crc32c (toBe 2 5 ++ [1#8, 0#8] ++ toBe 4 9 ++ List.replicate 16 0#8)).toNat) }),
     (⟨0, 5, 7, none, 100, none, 9#64⟩), ((toBe 2 5 ++ [1#8,
       0#8] ++ toBe 4 9 ++ List.replicate 16 0#8) ++ toBe 4 (crc32c (toBe 2 5 ++ [1#8,
         0#8] ++ toBe 4 9 ++ List.replicate 16 0#8)).toNat), (2), (9), by decide, by decide, by decide, by decide,
           by decide, by decide, by decide, by decide, by decide, by decide, by decide +kernel, by decide,
             by decide +kernel⟩,
   ⟨((regs_ [(0x1501,0x20,2),(0x8042,1,1),(0x8042,2,5)] ((at_ .form).putB 0x8042 3 (toBe 6 5))).modRx 2 fun r => { r with held := vmod r.held 1 fun _ => some (9, []) }),
     (⟨0, 5, 7, none, 100, none, 9#64⟩), ((toBe 2 5 ++ [1#8,
       0#8] ++ toBe 4 9 ++ List.replicate 16 0#8) ++ toBe 4 (crc32c (toBe 2 5 ++ [1#8,
         0#8] ++ toBe 4 9 ++ List.replicate 16 0#8)).toNat), (2), (9), (([] : Bytes)), by decide, by decide,
           by decide, by decide, by decide, by decide, by decide, by decide, by decide, by decide, by decide +kernel,
             by decide, by decide +kernel, by decide +kernel⟩,
   ⟨((at_ .form).put 0x8042 1 1), (2), by decide, by decide, by decide, by decide, by decide⟩⟩

theorem meets_ClocheFaultsAndConfigurationComplete :
    (∃ (s : State), ∃ (kind : Fin 6), s.cloche.fault = false ∧ kind ≠ 0) ∧
    (∃ (s : State), s.cloche.fault = false) ∧
    (∃ (s : State), ∃ (req : Requester), ∃ i, ∃ k, ∃ v, ∃ r, May s req safetyOnly ∧ State.clocheConfig i k = true ∧
      Dict.hasEntry i = true ∧ Dict.find i k = some r ∧ (r.acc = .rw ∨ r.acc = .wo) ∧ windowless req r.ty = false ∧
        typeOk r v = true ∧ rangeOk r.rng v = true ∧ ((0x8010 ≤ i → i ≤ 0x8017 → k = 2 → numOf v % 10 = 0)) ∧
          dwh s.ctl.mode = true ∧ (((s.putV i k v).clocheBad.all fun b => s.clocheBad.contains b) = true)) :=
  ⟨⟨(at_ .form), (2), by decide, by decide⟩,
   ⟨(at_ .form), by decide⟩,
   ⟨(as_ .safety (at_ .watch)), ((.session 0 : Requester)), (0x8012), (2), ((.num 200 : DVal)),
     ((Dict.find 0x8012 2).getD ⟨0, 0, 0, 0, "", .u8, .ro, 0, .any⟩), ⟨by decide, by decide⟩, by decide, by decide,
       by decide, by decide, by decide, by decide, by decide, by decide, by decide, by decide⟩⟩

theorem meets_ClocheUpdateCompletes :
    (∃ (s : State), ∃ (req : Requester), May s req safetyOnly ∧ s.clocheMoment = true ∧ s.stageState = 3 ∧
      s.graft.verified = some 3 ∧ s.reg 0x8060 0x02 ≠ 1 ∧ s.reg 0x8060 0x02 ≠ 2) ∧
    (∃ (s : State), ∃ (req : Requester), ∃ (at0 : ST64), May s req safetyOnly ∧ s.cloche.updateAt = some at0) ∧
    (∃ (s : State), ∃ (at0 : ST64), s.cloche.updateAt = some at0 ∧ s.clocheMoment = true ∧ s.cloche.state = .running) ∧
    (∃ (s : State), ∃ (at0 : ST64), s.cloche.pauseAt = some at0) ∧
    (∃ (s : State), ∃ (at0 : ST64), s.cloche.pauseAt = some at0) ∧
    (∃ (s : State), ∃ (at0 : ST64), s.cloche.updateAt = some at0) :=
  ⟨⟨(((as_ .safety (at_ .watch)).put 0x1801 0x20 3).modGraft fun g => { g with verified := some 3 }),
    ((.session 0 : Requester)), ⟨by decide, by decide⟩, by decide, by decide, by decide, by decide, by decide⟩,
   ⟨((as_ .safety (at_ .watch)).modCloche fun c => { c with updateAt := some 5#64 }), ((.session 0 : Requester)),
     (5#64), ⟨by decide, by decide⟩, by decide⟩,
   ⟨((at_ .watch).modCloche fun c => { c with updateAt := some 5#64, state := .running }), (5#64), by decide,
     by decide, by decide⟩,
   ⟨((at_ .watch).modCloche fun c => { c with pauseAt := some 5#64, state := .updatePause }), (5#64), by decide⟩,
   ⟨((at_ .watch).modCloche fun c => { c with pauseAt := some 5#64, state := .updatePause }), (5#64), by decide⟩,
   ⟨((at_ .watch).modCloche fun c => { c with updateAt := some 5#64, state := .running }), (5#64), by decide⟩⟩

theorem meets_PtpMessagesComplete :
    (∃ (p : Fin 2), ∃ (s : State), s.netLive p = true ∧ (s.portMaster p).isSome = true) ∧
    (∃ (p : Fin 2), ∃ (s : State), s.netLive p = true ∧ (s.ptpPort p).master = none) ∧
    (∃ (p : Fin 2), ∃ (s : State), s.netLive p = true) ∧
    (∃ (p : Fin 2), ∃ (s : State), ∃ stamp, ∃ turnaround, ∃ sentAt, ∃ d, s.netLive p = true ∧
      (s.ptpPort p).reqAt = some sentAt ∧
        d = (max 0 (roundDiv (sdiff (later stamp (-(s.rxDelay p : Int))) sentAt - 256 * turnaround) 512)).toNat) ∧
    (∃ (p : Fin 2), ∃ (s : State), s.netLive p = true ∧ s.portState p = 6) ∧
    (∃ (p : Fin 2), ∃ (s : State), s.netLive p = true) :=
  ⟨⟨(1), (((at_ .watch).put 0x1502 0x20 2).modPort 1 fun q => { q with master := some ⟨1, 6, 0x21, 0, 1, 7, 0⟩ }),
    by decide, by decide⟩,
   ⟨(1), ((at_ .watch).put 0x1502 0x20 2), by decide, by decide⟩,
   ⟨(1), ((at_ .watch).put 0x1502 0x20 2), by decide⟩,
   ⟨(1), (((at_ .watch).put 0x1502 0x20 2).modPort 1 fun q => { q with reqAt := some 40#64 }), (640000#64),
     ((100 : Int)), (40#64), _, by decide, by decide, rfl⟩,
   ⟨(1), ((regs_ [(0x1502,0x20,2),(0x1401,4,1)] (bed [(0x1401,4,1)] (at_ .watch)))), by decide, by decide⟩,
   ⟨(1), ((at_ .watch).put 0x1502 0x20 2), by decide⟩⟩

theorem meets_TimeSourcesComplete :
    (∃ (s : State), s.reg 0x1400 0x04 = 2) ∧
    (∃ (s : State), s.reg 0x1400 0x04 = 2 ∧ s.time.ppsLost = false) ∧
    (∃ (s : State), ∃ (req : Requester), ∃ value, May s req engineers ∧ windowless req .time80 = false ∧
      t80Ok value = true ∧ s.reg 0x1400 0x04 ≠ 1 ∧ s.timeState ≠ 4 ∧ s.time.lockedAt ≠ some s.now) ∧
    (∃ (s : State), ∃ (req : Requester), ∃ (value : Nat), May s req engineers ∧ value ≤ 2 ∧ dwh s.ctl.mode = true ∧
      s.reg 0x1700 0x20 = 0) ∧
    (∃ (s : State), s.time.ref10m = true) ∧
    (∃ (s : State), s.time.ref10m = false) ∧
    (∃ (s : State), s.time.lref = true) ∧
    (∃ (s : State), s.time.lref = false) :=
  ⟨⟨(regs_ [(0x1400,4,2)] (at_ .watch)), by decide⟩,
   ⟨(regs_ [(0x1400,4,2)] (at_ .watch)), by decide, by decide⟩,
   ⟨(regs_ [(0x1400,4,0)] (at_ .watch)), ((.queue 0 : Requester)), ((5 * p2 48 : Int)), ⟨by decide, by decide⟩,
     by decide, by decide, by decide, by decide, by decide⟩,
   ⟨(at_ .watch), ((.queue 0 : Requester)), (2), ⟨by decide, by decide⟩, by decide, by decide, by decide⟩,
   ⟨(at_ .watch), by decide⟩,
   ⟨((at_ .watch).modTime fun t => { t with ref10m := false }), by decide⟩,
   ⟨(at_ .watch), by decide⟩,
   ⟨((at_ .watch).modTime fun t => { t with lref := false }), by decide⟩⟩

theorem meets_TimedPinsAndClocksComplete :
    (∃ (s : State), ∃ (o : Fin 5), ∃ (req : Requester), May s req engineers ∧ s.armCheck o = 0) ∧
    (∃ (s : State), ∃ (o : Fin 5), (s.tout o).active = true) ∧
    (∃ (s : State), ∃ (o : Fin 5), (s.tout o).active = false ∧ (s.tout o).armed = true ∧
      ((s.tout o).mode ≠ 3 ∨ s.mapValid = true)) ∧
    (∃ (s : State), ∃ (n : Fin 4), ∃ (rising : Bool), ∃ stamp,
      bitOf (s.regN (0x1420 + n) 0x01) (if rising then 0 else 1) = true ∧ ((∀ e, (vget s.time.caps n ⟨none,
        []⟩).lastEdge = some e → (5120 : Int) ≤ sdiff stamp e))) ∧
    (∃ (s : State), ∃ (req : Requester), May s req engineers ∧ s.time.update = none ∧ s.clockCode s.clockCopy = 0) ∧
    (∃ (s : State), ∃ c, s.swapDue = false ∧ s.time.update = some c) ∧
    (∃ (s : State), s.time.aligner = true) ∧
    (∃ (s : State), s.time.aligner = false) :=
  ⟨⟨(regs_ [(0x1411,1,1),(0x1411,2,25600000),(0x1411,4,25600000)] (at_ .watch)), (1), ((.queue 0 : Requester)),
    ⟨by decide, by decide⟩, by decide⟩,
   ⟨((at_ .watch).modOut 1 fun x => { x with active := true, armed := true, mode := 1 }), (1), by decide⟩,
   ⟨((at_ .watch).modOut 1 fun x => { x with armed := true, mode := 1 }), (1), by decide, by decide, by decide⟩,
   ⟨(regs_ [(0x1422,1,3)] (at_ .watch)), (2), (true), (99999#64), by decide, (by intro e h; cases h)⟩,
   ⟨(at_ .watch), ((.queue 0 : Requester)), ⟨by decide, by decide⟩, by decide, by decide⟩,
   ⟨((at_ .watch).modTime fun t => { t with update := some ((at_ .watch).clockCopy) }), ((at_ .watch).clockCopy),
     by decide, by decide⟩,
   ⟨(at_ .watch), by decide⟩,
   ⟨((at_ .watch).modTime fun t => { t with aligner := false }), by decide⟩⟩

theorem meets_HarvestCommandsComplete :
    (∃ (u : Fin 4), ∃ (s : State), ∃ (req : Requester), May s req harvestWriters ∧ s.ctl.mode ≠ .dormant ∧
      s.harvestArmCheck u = 0) ∧
    (∃ (s : State), ∃ (req : Requester), May s req harvestWriters) ∧
    (∃ (u : Fin 4), ∃ (s : State), ∃ (req : Requester), May s req harvestWriters ∧ (s.hunit u).state ≠ .idle) ∧
    (∃ (u : Fin 4), ∃ (s : State), ∃ (req : Requester), ∃ value, May s req engineers ∧
      (value = 0#64 ∨ (s.hbusy u = false ∧ (s.hunit u).armAt = none ∧ s.reg 0x1700 0x20 = 0 ∧
        s.cfg (0x9000 + u) 0x0E = 1 ∧ (s.cfg (0x9000 + u) 0x0D = 1 → s.harvestGroup.head? = some u.val) ∧
          2560000 ≤ sdiff value s.now ∧ sdiff value s.now ≤ 256000000000))) ∧
    (∃ (u : Fin 4), ∃ (s : State), ∃ (at0 : ST64), (s.hunit u).armAt = some at0) ∧
    (∃ (u : Fin 4), ∃ (s : State), s.hbusy u = true) ∧
    (∃ (u : Fin 4), ∃ (s : State), s.duty 4 ≠ 0 ∧ s.hset u 0x0F = 1 ∧ (s.hunit u).state = .done ∧ s.ringFill 11 < s.ringSize 11 ∧
      (s.hunit u).streamNext < (s.recordBytes u).length) ∧
    (∃ (u : Fin 4), ∃ (s : State), ∃ f, s.duty 4 ≠ 0 ∧ s.hset u 0x0F = 2 ∧
      (s.hunit u).frames.reverse[(s.hunit u).streamNext - (s.hwritten u - (s.hunit u).frames.length)]? = some f ∧
        s.ringFill 11 + (f.2.length + 47) / 48 ≤ s.ringSize 11 ∧ 0 < s.ringSize 11) ∧
    (∃ (u : Fin 4), ∃ (s : State), s.cfg (0x9000 + u) 0x0E = 1 ∧ s.cfg (0x9000 + u) 0x01 = 1 ∧
      s.cfg (0x9000 + u) 0x0D ≠ 1) ∧
    (∃ (u : Fin 4), ∃ (s : State), s.hset u 0x0E = 1 ∧ (s.hunit u).state = .ready) :=
  ⟨⟨(1), (bed [(0x9001,1,1)] (at_ .watch)), ((.queue 0 : Requester)), ⟨by decide, by decide⟩, by decide, by decide⟩,
   ⟨(at_ .watch), ((.queue 0 : Requester)), ⟨by decide, by decide⟩⟩,
   ⟨(1), ((at_ .watch).modHunit 1 fun h => { h with state := .ready }), ((.queue 0 : Requester)), ⟨by decide,
     by decide⟩, by decide⟩,
   ⟨(1), (at_ .watch), ((.queue 0 : Requester)), (0#64), ⟨by decide, by decide⟩, by decide⟩,
   ⟨(1), ((at_ .watch).modHunit 1 fun h => { h with armAt := some 5#64 }), (5#64), by decide⟩,
   ⟨(1), ((at_ .watch).modHunit 1 fun h => { h with state := .filling }), by decide⟩,
   ⟨(1), (((regs_ [(0x1314,0x21,10)] ((at_ .watch).modHunit 1 fun h => { h with state := .done, settings := [(Dict.key 0x9001 0x0F, .num 1)] }))).putB 0x9021 9 [1#8,
     2#8]), by decide, by decide, by decide, by decide, by decide⟩,
   ⟨(1), (regs_ [(0x1314,0x21,10),(0x9021,6,1)] ((at_ .watch).modHunit 1 fun h => { h with state := .done, settings := [(Dict.key 0x9001 0x0F, .num 2)], frames := [(5#64, [7#8])] })),
     (((5#64, [7#8]) : ST64 × Bytes)), by decide, by decide, by decide, by decide, by decide⟩,
   ⟨(1), (bed [(0x9001,0x0E,1),(0x9001,1,1)] (at_ .watch)), by decide, by decide, by decide⟩,
   ⟨(1), ((at_ .watch).modHunit 1 (fun h => { h with state := .ready, settings := [(Dict.key 0x9001 0x0E, .num 1)] })),
     by decide, by decide⟩⟩

theorem meets_StationFramesComplete :
    (∃ (s : State), ∃ (h : EthHeader), ∃ f, ∃ a, ∃ n, (s.receive h).1 = true ∧ s.ctl.mode ≠ .dormant ∧
      f.secured = false ∧ f.asdus = [a] ∧ s.svMatch h f = some n ∧ s.cfgN (0x1510 + n) 0x06 = f.confRev ∧
        (vget s.net.svs n ⟨none, none⟩).lastCnt = none) ∧
    (∃ (s : State), ∃ (h : EthHeader), ∃ (f : GooseFrame), ∃ (n : Nat), n < 32 ∧ (s.receive h).1 = true ∧
      s.ctl.mode ≠ .dormant ∧ ((∀ m < n, s.cfg (0x1560 + m) 0x01 ≠ 1)) ∧ s.cfg (0x1560 + n) 0x01 = 1 ∧
        beNat (s.cfgB (0x1560 + n) 0x02) = h.dst ∧ s.cfgN (0x1560 + n) 0x03 = f.appid ∧
          s.cfgB (0x1560 + n) 0x04 = f.gocbRef ∧ State.macMatches (s.cfgB (0x1560 + n) 0x06) h.src = true ∧
            s.cfgN (0x1560 + n) 0x05 = f.confRev ∧ ((f.sim = false ∨ s.cfg (0x1560 + n) 0x07 = 1)) ∧
              (vget s.net.subs n ⟨none, 0#64⟩).last ≠ some (f.stNum, f.sqNum)) ∧
    (∃ (s : State), ∃ (h : EthHeader), (s.screen h).1 = true) ∧
    (∃ (s : State), ∃ (h : EthHeader), (s.screen h).1 = true) ∧
    (∃ (s : State), ∃ (h : EthHeader), (s.screen h).1 = true) ∧
    (∃ (s : State), ∃ (h : EthHeader), ∃ (why : DiscardReason), (s.screen h).1 = true ∧
      (why = .pause ∨ why = .screened)) ∧
    (∃ (s : State), ∃ (h : EthHeader), (s.receive h).1 = true) ∧
    (∃ (s : State), ∃ (h : EthHeader), (s.receive h).1 = true) :=
  ⟨⟨((fun x : State => { x with active := storePut x.active (Dict.key 0x1512 2) (.bytes (toBe 6 7)) }) (bed [(0x1512,1,1),(0x1512,4,0x4001),(0x1512,6,3)] (regs_ [(0x1501,0x20,2)] (at_ .watch)))),
    (⟨0, 5, 7, none, 100, none, 9#64⟩), ((⟨0x4001, [], 3, false, [⟨12, 2, []⟩]⟩ : SvFrame)), ((⟨12, 2, []⟩ : SvAsdu)),
      (2), by decide, by decide, by decide, by decide, by decide, by decide, by decide⟩,
   ⟨((fun x : State => { x with active := storePut x.active (Dict.key 0x1562 2) (.bytes (toBe 6 7)) }) (bed [(0x1562,1,1),(0x1562,3,9),(0x1562,5,3)] (regs_ [(0x1501,0x20,2)] (at_ .watch)))),
     (⟨0, 5, 7, none, 100, none, 9#64⟩), (⟨9, [], 3, false, 4, 0, 1000, []⟩), (2), by decide, by decide, by decide,
       by decide, by decide, by decide, by decide, by decide, by decide, by decide, by decide, by decide⟩,
   ⟨(regs_ [(0x1501,0x20,2)] (at_ .watch)), (⟨0, 5, 7, none, 100, none, 9#64⟩), by decide⟩,
   ⟨(regs_ [(0x1501,0x20,2)] (at_ .watch)), (⟨0, 5, 7, none, 100, none, 9#64⟩), by decide⟩,
   ⟨(regs_ [(0x1501,0x20,2)] (at_ .watch)), (⟨0, 5, 7, none, 100, none, 9#64⟩), by decide⟩,
   ⟨(regs_ [(0x1501,0x20,2)] (at_ .watch)), (⟨0, 5, 7, none, 100, none, 9#64⟩), (DiscardReason.pause), by decide,
     by decide⟩,
   ⟨(regs_ [(0x1501,0x20,2)] (at_ .watch)), (⟨0, 5, 7, none, 100, none, 9#64⟩), by decide⟩,
   ⟨(regs_ [(0x1501,0x20,2)] (at_ .watch)), (⟨0, 5, 7, none, 100, none, 9#64⟩), by decide⟩⟩

theorem meets_StationTimersAndPublicationsComplete :
    (∃ (s : State), ∃ (p : Fin 2), ∃ speed, ∃ full, ∃ link, ((link = if full = true ∧ s.regN (0x1501 + p) 0x01 ≠ 0 ∧
      (speed = 1000 ∨ (speed = 100 ∧ s.regN (0x1501 + p) 0x01 = 2)) then (if speed = 100 then 1 else 2) else 0)) ∧
        s.reg (0x1501 + p) 0x20 ≠ link) ∧
    (∃ (s : State), ∃ (n : Fin 16), s.reg (0x1510 + n) 0x20 = 2) ∧
    (∃ (s : State), ∃ (n : Fin 32), s.reg (0x1560 + n) 0x20 = 2) ∧
    (∃ (s : State), ∃ (p : Fin 16), s.pubRuns p = true ∧ (vget s.net.pubs p ⟨false, [], 0⟩).started = true) ∧
    (∃ (s : State), ∃ (p : Fin 16), ∃ (data : Bytes), ∃ (req : Requester), May s req engineers ∧ data.length = 64 ∧
      windowless req .domain = false ∧ ((∀ k < 16,
        slice data (4 * k) 4 = slice (s.regB (0x1540 + p) 0x20) (4 * k) 4 ∨ ((State.gooseMembers (s.cfgB (0x1540 + p) 0x09)).any fun m => decide (m.1 = 0xF000 + k)) = true))) ∧
    (∃ (s : State), ∃ (p : Fin 2), s.reg (0x1501 + p) 0x21 ≠ 1) :=
  ⟨⟨((at_ .watch).put 0x1502 1 1), (1), (1000), (true), (2), by decide, by decide⟩,
   ⟨((at_ .watch).put 0x1512 0x20 2), (2), by decide⟩,
   ⟨((at_ .watch).put 0x1562 0x20 2), (2), by decide⟩,
   ⟨((bed [(0x1541,1,1),(0x1541,0x0C,100)] (at_ .watch)).modNet fun n => { n with pubs := vmod n.pubs 1 fun _ => ⟨true, [], 4⟩ }),
     (1), by decide, by decide⟩,
   ⟨((at_ .watch).putB 0x1541 0x20 (List.replicate 64 3#8)), (1), (List.replicate 64 3#8), ((.queue 0 : Requester)),
     ⟨by decide, by decide⟩, by decide, by decide, by decide⟩,
   ⟨(at_ .watch), (1), by decide⟩⟩

theorem meets_SessionPacketsComplete :
    (∃ (s : State), ∃ (h : XdpHead), XdpPasses h s) ∧
    (∃ (s : State), ∃ (h : XdpHead), ∃ (w : WriteReq), ∃ row, ∃ r, XdpPasses h s ∧ w.offset = 0 ∧
      w.total = w.data.length ∧ r = ((s.taken h).modSession h.session fun x => { x with staged := none }) ∧
        r.rowOf (.session h.session) w.index w.sub = .ok row) ∧
    (∃ (s : State), ∃ (h : XdpHead), ∃ (r : SubscribeReq), ∃ row, ∃ v, XdpPasses h s ∧
      (s.taken h).dictRead (.session h.session) r.index r.sub = .ok (row, v) ∧ (r.kind = 1 ∨ r.kind = 2) ∧
        1 ≤ r.interval ∧ r.interval ≤ 60000 ∧ (s.session h.session).subs.length < 32) ∧
    (∃ (s : State), ∃ (h : XdpHead), XdpPasses h s) ∧
    (∃ (s : State), ∃ (h : XdpHead), XdpPasses h s) ∧
    (∃ (s : State), ∃ (h : XdpHead), XdpPasses h s) :=
  ⟨⟨(as_ .engineer (at_ .watch)), (⟨0, 5, 9, true⟩), ⟨by decide, by decide, by decide, by decide, by decide, by decide⟩⟩,
   ⟨(as_ .engineer (at_ .watch)), (⟨0, 5, 9, true⟩), (⟨0x1803, 2, 4, 0, 4, [100#8, 0#8, 0#8, 0#8]⟩),
     (((Dict.find 0x1803 2).getD ⟨0, 0, 0, 0, "", .u8, .ro, 0, .any⟩)), _, ⟨by decide, by decide, by decide,
       by decide, by decide, by decide⟩, by decide, by decide, rfl, rfl⟩,
   ⟨(as_ .engineer (at_ .watch)), (⟨0, 5, 9, true⟩), ((⟨0x1803, 2, 1, 10, 0, 0⟩ : SubscribeReq)),
     (((Dict.find 0x1803 2).getD ⟨0, 0, 0, 0, "", .u8, .ro, 0, .any⟩)), (DVal.num 600), ⟨by decide, by decide,
       by decide, by decide, by decide, by decide⟩, rfl, by decide, by decide, by decide, by decide⟩,
   ⟨(as_ .engineer (at_ .watch)), (⟨0, 5, 9, true⟩), ⟨by decide, by decide, by decide, by decide, by decide, by decide⟩⟩,
   ⟨(as_ .engineer (at_ .watch)), (⟨0, 5, 9, true⟩), ⟨by decide, by decide, by decide, by decide, by decide, by decide⟩⟩,
   ⟨(as_ .engineer (at_ .watch)), (⟨0, 5, 9, true⟩), ⟨by decide, by decide, by decide, by decide, by decide, by decide⟩⟩⟩

theorem meets_SessionLifeCompletes :
    (∃ (s : State), ∃ (h : HelloMsg), ∃ n, ∃ r, s.helloSession h = none ∧ s.sessionsIn .free = n :: r ∧
      (s.sessionsIn .opening).length < 2 ∧ 1 ≤ h.total ∧ h.total ≤ 8192 ∧ h.offset = 0 ∧ h.part.length < h.total) ∧
    (∃ (s : State), ∃ (h : XdpHead), (s.session h.session).state = .opening ∧ (s.session h.session).deviceNonce ≠ [] ∧
      (s.session h.session).psnIn < h.psn) ∧
    (∃ (s : State), ∃ (n : Fin 16), (s.session n).state = .opening ∧ (s.session n).deviceNonce ≠ []) ∧
    (∃ (s : State), ∃ (n : Fin 16), ∃ number, ∃ x, ∃ row, ∃ v, (s.session n).state = .open ∧
      s.subscription n number = some x ∧ x.kind = 2 ∧ s.dictRead (.session n) x.index x.sub = .ok (row, v)) ∧
    (∃ (s : State), ∃ e, ∃ r, (s.ring 0).entries = e :: r ∧ (s.ring 0).held = [] ∧ s.ringFill 1 + s.coreReq.waiting.length < s.ringSize 1 ∧
      e.kind ≠ 1 ∧ leNat (slice e.data 2 1) = 0x10) :=
  ⟨⟨(at_ .watch), (⟨1, 2, 3, 4, [5#8], 100, 0, [6#8], ⟨0, [], false, false, false, [], [], none, []⟩⟩), (0),
    (((List.range 15).map (· + 1))), by decide, by decide, by decide, by decide, by decide, by decide, by decide⟩,
   ⟨((at_ .watch).modSession 0 fun x => { x with state := .opening, deviceNonce := [1#8] }), (⟨0, 5, 9, true⟩),
     by decide, by decide, by decide⟩,
   ⟨((at_ .watch).modSession 0 fun x => { x with state := .opening, deviceNonce := [1#8] }), (0), by decide, by decide⟩,
   ⟨((as_ .engineer (at_ .watch)).modSession 0 (fun x => { x with subs := [(1, ⟨0x1803, 2, 2, 10, 0, 0, .num 0, 0#32⟩)] })),
     (0), ((1 : Nat)), ((⟨0x1803, 2, 2, 10, 0, 0, .num 0, 0#32⟩ : Subscription)), (((Dict.find 0x1803 2).getD ⟨0, 0,
       0, 0, "", .u8, .ro, 0, .any⟩)), (DVal.num 600), by decide, by decide, by decide, rfl⟩,
   ⟨((at_ .watch).modRing 0 fun r => { r with entries := [⟨0, [], toLe 2 1 ++ [0x10#8] ++ List.replicate 61 0#8, 0#64⟩] }),
     ((⟨0, [], toLe 2 1 ++ [0x10#8] ++ List.replicate 61 0#8, 0#64⟩ : RingEntry)), (([] : List RingEntry)), by decide,
       by decide, by decide, by decide, by decide⟩⟩

theorem meets_RingCommandsComplete :
    (∃ (q : Fin 32), ∃ (req : Requester), ∃ (s : State), ∃ (slots : List Bytes), May s req engineers ∧
      standbyCore s req q = false ∧ q ≠ 0 ∧ slots ≠ [] ∧ coreProduced q = true ∧
        s.ringFill q + slots.length ≤ s.ringSize q) ∧
    (∃ (req : Requester), ∃ (s : State), May s req engineers ∧ standbyCore s req 0 = false ∧
      s.ringFill 0 < s.ringSize 0 ∧ s.coreReq.outstanding < 16) ∧
    (∃ (q : Fin 32), ∃ (req : Requester), ∃ (s : State), ∃ (n : Nat), May s req engineers ∧
      standbyCore s req q = false ∧ 0 < n ∧ n < 2 ^ 16 ∧ coreConsumed q = true ∧ n ≤ (s.ring q).entries.length ∧
        (s.ring q).held = []) ∧
    (∃ (q : Fin 32), ∃ (req : Requester), ∃ (s : State), ∃ (n : Nat), May s req engineers ∧ sizeOk n = true ∧
      s.ctl.mode = .dormant ∧ (s.ring q).entries = [] ∧ (s.ring q).reserved = 0 ∧ ringSum s q n ≤ 8192) ∧
    (∃ (q : Fin 32), ∃ (req : Requester), ∃ (s : State), ∃ (c : Nat), May s req engineers ∧ userRing q = true ∧
      c ≤ 2 ∧ s.ctl.mode = .dormant ∧ (s.ring q).entries = [] ∧ (s.ring q).reserved = 0) :=
  ⟨⟨(5), (.queue 0), (at_ .watch), ([List.replicate 64 1#8]), ⟨by decide, by decide⟩, by decide, by decide, by decide,
    by decide, by decide⟩,
   ⟨(.queue 0), (at_ .watch), ⟨by decide, by decide⟩, by decide, by decide, by decide⟩,
   ⟨(27), (.queue 0), ((at_ .watch).modRing 27 fun r => { r with entries := [⟨0, [], [], 0#64⟩] }), (1), ⟨by decide,
     by decide⟩, by decide, by decide, by decide, by decide, by decide, by decide⟩,
   ⟨(27), (.queue 0), (at_ .dormant), (16), ⟨by decide, by decide⟩, by decide, by decide, by decide, by decide,
     by decide⟩,
   ⟨(27), (.queue 0), (at_ .dormant), (2), ⟨by decide, by decide⟩, by decide, by decide, by decide, by decide,
     by decide⟩⟩

theorem meets_CoreCommandsComplete :
    (∃ (c : Fin 4), ∃ (req : Requester), (req = .queue c ∨ req = .window c)) ∧
    (∃ (s : State), s.rst.reach = 0 ∧ s.reg 0x1A00 0x04 = 1 ∧ s.rst.grace = []) ∧
    (∃ (s : State), s.rst.reach = 0 ∧ s.reg 0x1A00 0x04 ≠ 1) ∧
    (∃ (s : State), ∃ (req : Requester), s.rst.reach = 0 ∧ May s req engineers) ∧
    (∃ (s : State), s.rst.reach = 0) ∧
    (∃ (s : State), ∃ (pair : Fin 2), pair.val ∈ s.cores.restarting) ∧
    (∃ (s : State), ∃ (q : Fin 32), ∃ e, ∃ r, (s.ring q).entries = e :: r ∧ q ≠ 3) :=
  ⟨⟨(0), ((.queue 0 : Requester)), by decide⟩,
   ⟨((at_ .watch).put 0x1A00 4 1), by decide, by decide, by decide⟩,
   ⟨((at_ .watch).put 0x1A00 4 2), by decide, by decide⟩,
   ⟨(at_ .watch), ((.queue 0 : Requester)), by decide, ⟨by decide, by decide⟩⟩,
   ⟨(at_ .watch), by decide⟩,
   ⟨((at_ .watch).modCores fun c => { c with restarting := [0] }), (0), by decide⟩,
   ⟨((at_ .watch).modRing 27 (fun r => { r with entries := [⟨0, [], [], 0#64⟩] })), (27), ((⟨0, [], [],
     0#64⟩ : RingEntry)), (([] : List RingEntry)), by decide, by decide⟩⟩

theorem meets_SerialLaneCommandsComplete :
    (∃ (l : Fin 16), ∃ (s : State), ∃ (req : Requester), May s req engineers ∧ (s.slane l).retrain = none) ∧
    (∃ (l : Fin 16), ∃ (s : State), ∃ (req : Requester), May s req engineers ∧ (s.slane l).retrain = none ∧
      (8 ≤ l.val ∨ s.ctl.mode = .watch ∨ s.ctl.mode = .halt ∨ (s.ctl.mode = .form ∧ s.gateLaneIdle l = true)) ∧
        ((8 ≤ l.val → l.val < 14 → s.inArray = true → s.reg (0x1600 + State.otherLane l) 0x22 ≠ 0 ∨ s.reg 0x1700 0x21 = 3))) ∧
    (∃ (l : Fin 16), ∃ (s : State), ∃ ok, (s.slane l).retrain = some 2 ∧ ok = (decide (8 ≤ l.val) || s.chainThrough l)) ∧
    (∃ (l : Fin 16), ∃ (s : State), (s.slane l).retrain = some 2) ∧
    (∃ (l : Fin 16), ∃ (s : State), ∃ (req : Requester), ∃ (value : Nat), May s req engineers ∧ 1 ≤ value ∧
      value ≤ 3 ∧ (s.ctl.mode = .watch ∨ s.ctl.mode = .halt) ∧ ((8 ≤ l.val → l.val < 14 → s.inArray = false))) ∧
    (∃ (l : Fin 16), ∃ (s : State), ∃ (req : Requester), May s req engineers ∧
      (s.ctl.mode = .watch ∨ s.ctl.mode = .halt) ∧ s.reg (0x1600 + l) 0x08 ≠ 0) :=
  ⟨⟨(1), (at_ .watch), ((.queue 0 : Requester)), ⟨by decide, by decide⟩, by decide⟩,
   ⟨(1), (at_ .watch), ((.queue 0 : Requester)), ⟨by decide, by decide⟩, by decide, by decide, by decide +kernel⟩,
   ⟨(1), ((at_ .watch).modSlane 1 fun g => { g with retrain := some 2 }), _, by decide, rfl⟩,
   ⟨(1), ((at_ .watch).modSlane 1 fun g => { g with retrain := some 2 }), by decide⟩,
   ⟨(1), (at_ .watch), ((.queue 0 : Requester)), (2), ⟨by decide, by decide⟩, by decide, by decide, by decide,
     by decide⟩,
   ⟨(1), ((at_ .watch).put 0x1601 8 1), ((.queue 0 : Requester)), ⟨by decide, by decide⟩, by decide, by decide⟩⟩

theorem meets_LaneTestsComplete :
    (∃ (l : Fin 16), ∃ (s : State), ∃ (req : Requester), ∃ (value : Nat), May s req engineers ∧ 1 ≤ value ∧
      value ≤ 255 ∧ s.patternRuns l = true) ∧
    (∃ (l : Fin 16), ∃ (s : State), s.reg (0x1600 + l) 0x08 ≠ 1 ∧ s.reg (0x1600 + l) 0x08 ≠ 2) ∧
    (∃ (s : State), s.inArray = false) ∧
    (∃ (s : State), ∃ okA, ∃ okB, ∃ (m : RunnerHead), (okA || okB) = true ∧ s.inArray = true ∧
      s.runner.seen.contains (m.src, m.seq) = false) ∧
    (∃ (port : Fin 3), ∃ (s : State), s.patternRuns (8 + 2 * port.val) = true) :=
  ⟨⟨(1), ((at_ .watch).put 0x1601 8 1), ((.queue 0 : Requester)), (3), ⟨by decide, by decide⟩, by decide, by decide,
    by decide⟩,
   ⟨(1), (at_ .watch), by decide, by decide⟩,
   ⟨(at_ .watch), by decide⟩,
   ⟨((at_ .watch).put 0x1700 0x21 2), true, false, head, by decide, by decide, by decide⟩,
   ⟨(1), ((at_ .watch).put 0x160A 8 1), by decide⟩⟩

theorem meets_ArrayCommandsComplete :
    (∃ (s : State), ∃ (req : Requester), May s req engineers ∧ s.position = 0 ∧ s.arrayState = 0 ∧
      s.reg 0x1700 0x01 = 1 ∧ (s.ctl.mode = .watch ∨ s.ctl.mode = .halt)) ∧
    (∃ (s : State), ∃ (req : Requester), May s req engineers ∧ s.position = 0 ∧ s.arrayState ≠ 0) ∧
    (∃ (s : State), ∃ (req : Requester), May s req engineers ∧ s.position = 0 ∧ s.arrayState ≠ 0) ∧
    (∃ (s : State), ∃ (req : Requester), May s req engineers ∧ s.position ≠ 0 ∧ s.arrayState ≠ 0 ∧
      (s.ctl.mode = .watch ∨ s.ctl.mode = .halt)) ∧
    (∃ (s : State), ∃ (req : Requester), ∃ (p : Fin 8), ∃ identity, ∃ revision, May s req engineers ∧ s.position = 0 ∧
      s.arrayState ≠ 0 ∧ (s.runner.waiting.find? fun w => decide (w.1 = p.val)) = some (p.val, identity, revision) ∧
        s.joinFits p identity revision = true ∧ s.joinsWait = false) ∧
    (∃ (s : State), ∃ (p : Fin 8), ∃ (beat : ST64), ∃ m, s.position = 0 ∧ s.arrayState ≠ 0 ∧
      s.runner.admits = [(p.val, beat, m)] ∧ 0 ≤ sdiff s.now beat) ∧
    (∃ (s : State), ∃ (p : Fin 8), ∃ (beat : ST64), ∃ m, s.position = 0 ∧ s.arrayState ≠ 0 ∧
      s.runner.admits = [(p.val, beat, m)] ∧ sdiff s.now beat < 0) ∧
    (∃ (s : State), s.runner.joining = true) ∧
    (∃ (s : State), s.runner.joining = false ∧ s.position = 0 ∧ s.arrayState = 1) ∧
    (∃ (s : State), s.runner.joining = false ∧ s.position = 0 ∧ s.arrayState ≠ 1) :=
  ⟨⟨(regs_ [(0x1700,1,1),(0x1700,2,5)] (at_ .watch)), ((.queue 0 : Requester)), ⟨by decide, by decide⟩, by decide,
    by decide, by decide, by decide⟩,
   ⟨(regs_ [(0x1700,0x21,2),(0x1700,0x22,5)] (at_ .watch)), ((.queue 0 : Requester)), ⟨by decide, by decide⟩,
     by decide, by decide⟩,
   ⟨(regs_ [(0x1700,0x21,2),(0x1700,0x22,5)] (at_ .watch)), ((.queue 0 : Requester)), ⟨by decide, by decide⟩,
     by decide, by decide⟩,
   ⟨(regs_ [(0x1700,0x20,2),(0x1700,0x21,2),(0x1700,0x22,5)] (at_ .watch)), ((.queue 0 : Requester)), ⟨by decide,
     by decide⟩, by decide, by decide, by decide⟩,
   ⟨((regs_ [(0x1700,2,5),(0x1700,0x21,3),(0x1700,0x22,1)] (at_ .watch)).modRunner fun r => { r with waiting := [(2, 7, 8)] }),
     ((.queue 0 : Requester)), (2), (7), (8), ⟨by decide, by decide⟩, by decide, by decide, by decide, by decide,
       by decide⟩,
   ⟨((regs_ [(0x1700,0x21,3),(0x1700,0x22,1)] (at_ .watch)).modRunner fun r => { r with admits := [(2, 0#64, 0)] }), (2),
     (0#64), (0), by decide, by decide, by decide, by decide⟩,
   ⟨((regs_ [(0x1700,0x21,3),(0x1700,0x22,1)] (at_ .watch)).modRunner fun r => { r with admits := [(2, 99#64, 0)] }), (2),
     (99#64), (0), by decide, by decide, by decide, by decide⟩,
   ⟨((at_ .watch).modRunner fun r => { r with joining := true, joinAt := some 5#64 }), by decide⟩,
   ⟨(regs_ [(0x1700,2,5),(0x1700,0x21,1),(0x1700,0x22,3)] (at_ .watch)), by decide, by decide, by decide⟩,
   ⟨(regs_ [(0x1700,2,5),(0x1700,0x21,3),(0x1700,0x22,3)] ((at_ .watch).modRunner fun r => { r with waiting := [(2, 7, 8)] })),
     by decide, by decide, by decide⟩⟩

theorem meets_RunnerPortsComplete :
    (∃ (port : Fin 3), ∃ (s : State), ∃ links,
      links = withBit (s.regN 0x1700 0x24) (s.linkBit port (s.regN (0x1701 + port.val) 0x02 % 8)) false) ∧
    (∃ (port : Fin 3), ∃ (s : State), ∃ (neighbour : Fin 8), ∃ links,
      links = withBit (s.regN 0x1700 0x24) (s.linkBit port neighbour) true) ∧
    (∃ (s : State), s.position ≠ 0 ∧ s.arrayState ≠ 0) ∧
    (∃ (s : State), s.timeState = 4) ∧
    (∃ (port : Fin 3), ∃ (s : State), vget s.runner.portUp port false = true) ∧
    (∃ (s : State), ((s.runner.joining = true ∨ s.inArray = true)) ∧ s.position ≠ 0) ∧
    (∃ (s : State), ∃ steer, steer = (if s.position = 0 then s.reg 0x1400 0x0B else s.runner.masterSteer) ∧
      s.inArray = true) ∧
    (∃ (s : State), ∃ (a : Fin 6), s.cfg (0x6300 + a.val) 0x01 = 1 ∧ s.cfgN (0x6300 + a.val) 0x06 < 16) :=
  ⟨⟨(1), (regs_ [(0x1700,0x21,2),(0x1700,0x22,3),(0x1702,2,1)] (at_ .watch)), _, rfl⟩,
   ⟨(1), (regs_ [(0x1700,0x21,3),(0x1700,0x22,3),(0x1702,2,1)] (at_ .watch)), (1), _, rfl⟩,
   ⟨(regs_ [(0x1700,0x21,2),(0x1700,0x22,5),(0x1700,0x23,5),(0x1700,0x20,2)] (at_ .watch)), by decide, by decide⟩,
   ⟨((at_ .watch).put 0x1400 3 4), by decide⟩,
   ⟨(1), ((at_ .watch).modRunner fun r => { r with portUp := vmod r.portUp 1 fun _ => true }), by decide⟩,
   ⟨(regs_ [(0x1700,0x21,2),(0x1700,0x22,5),(0x1700,0x23,5),(0x1700,0x20,2)] (at_ .watch)), by decide, by decide⟩,
   ⟨((regs_ [(0x1700,0x21,2)] (at_ .watch)).modRunner fun r => { r with portUp := Vector.replicate 3 true }), _,
     rfl, by decide⟩,
   ⟨(bed [(0x6301,1,1),(0x6301,6,3)] (at_ .watch)), (1), by decide, by decide⟩⟩

theorem meets_ArrayMessagesComplete :
    (∃ (s : State), s.position ≠ 0 ∧ s.arrayState ≠ 0) ∧
    (∃ (s : State), s.position = 0 ∧ (s.arrayState = 2 ∨ s.arrayState = 3)) ∧
    (∃ (s : State), s.inArray = true) ∧
    (∃ (s : State), s.rst.reach = 0 ∧ s.inArray = true) ∧
    (∃ (s : State), s.inArray = false ∧ s.runner.joining = true) ∧
    (∃ (p : Fin 8), ∃ (s : State), s.position = p.val ∧ p ≠ 0 ∧ s.runner.joining = true) ∧
    (∃ (p : Fin 8), ∃ (s : State), s.position = 0 ∧ s.arrayState ≠ 0 ∧ p ≠ 0) ∧
    (∃ (p : Fin 8), ∃ (s : State), ∃ identity, ∃ revision, s.position = 0 ∧ s.arrayState ≠ 0 ∧ p ≠ 0 ∧
      s.joinFits p identity revision = true ∧ (s.joinsWait = true ∨ (s.reg 0x1700 0x04 ≠ 1 ∧ s.arrayState ≠ 1))) ∧
    (∃ (p : Fin 8), ∃ (s : State), ∃ identity, ∃ revision, s.position = 0 ∧ s.arrayState ≠ 0 ∧ p ≠ 0 ∧
      s.joinFits p identity revision = true ∧ s.joinsWait = false ∧ (s.reg 0x1700 0x04 = 1 ∨ s.arrayState = 1)) ∧
    (∃ (s : State), ∃ total, ∃ (data : Bytes), s.runner.joining = true ∧ data.length < total) ∧
    (∃ (s : State), ∃ (data : Bytes), s.runner.joining = true ∧ data ≠ []) ∧
    (∃ (p : Fin 8), ∃ (s : State), ∃ (beat : ST64), ∃ mem,
      mem = withBit (if s.arrayState = 0 then 1 else s.arrayMembers) p true ∧ s.position ≠ 0 ∧ s.runner.admits = [] ∧
        sdiff s.now (s.fromArray beat) < 0) ∧
    (∃ (p : Fin 8), ∃ (s : State), ∃ (beat : ST64), ∃ mem, ∃ a, ∃ b, ∃ l,
      mem = withBit (if s.arrayState = 0 then 1 else s.arrayMembers) p true ∧ s.position ≠ 0 ∧ s.runner.admits = [] ∧
        0 ≤ sdiff s.now (s.fromArray beat) ∧ s.runner.joining = true ∧ s.position = p.val ∧ s.ctl.mode = .watch ∧
          s.runner.beds = a :: b :: l ∧ s.runner.offsetFixed = true) ∧
    (∃ (s : State), ∃ (data : List Byte), s.inArray = true ∧ data ≠ [] ∧
      s.ringFill 17 + (data.length + 47) / 48 ≤ s.ringSize 17) ∧
    (∃ (p : Fin 8), ∃ (s : State), s.inArray = true ∧ bitOf (s.regN 0x1700 0x23) p = true) :=
  ⟨⟨(regs_ [(0x1700,0x21,2),(0x1700,0x22,7),(0x1700,0x23,7),(0x1700,0x20,1)] (at_ .watch)), by decide, by decide⟩,
   ⟨(regs_ [(0x1700,0x21,2),(0x1700,0x22,7),(0x1700,0x23,7),(0x1712,1,2),(0x1700,0x24,7)] (at_ .watch)), by decide,
     by decide⟩,
   ⟨(regs_ [(0x1700,0x21,2),(0x1700,0x22,7),(0x1700,0x23,7),(0x1700,0x20,1)] (at_ .watch)), by decide⟩,
   ⟨(regs_ [(0x1700,0x21,2)] (at_ .watch)), by decide, by decide⟩,
   ⟨(regs_ [(0x1700,0x20,2)] ((at_ .watch).modRunner fun r => { r with joining := true })), by decide, by decide⟩,
   ⟨(2), (regs_ [(0x1700,0x20,2)] ((at_ .watch).modRunner fun r => { r with joining := true })), by decide, by decide,
     by decide⟩,
   ⟨(2), (regs_ [(0x1700,0x21,3),(0x1700,2,7)] (at_ .watch)), by decide, by decide, by decide⟩,
   ⟨(2), (regs_ [(0x1700,0x21,3),(0x1700,2,7),(0x1700,4,0)] (at_ .watch)), (7), (8), by decide, by decide, by decide,
     by decide, by decide⟩,
   ⟨(2), (regs_ [(0x1700,0x21,3),(0x1700,2,7),(0x1700,4,1)] (at_ .watch)), (7), (8), by decide, by decide, by decide,
     by decide, by decide, by decide⟩,
   ⟨((at_ .watch).modRunner fun r => { r with joining := true }), (10), ([1#8]), by decide, by decide⟩,
   ⟨((at_ .watch).modRunner fun r => { r with joining := true }), ([1#8]), by decide, by decide⟩,
   ⟨(2), (regs_ [(0x1700,0x20,2)] (at_ .watch)), (99#64), _, rfl, by decide, by decide, by decide⟩,
   ⟨(2), ((regs_ [(0x1700,0x20,2)] (at_ .watch)).modRunner (fun r => { r with joining := true, offsetFixed := true, beds := [([], 0, 0), ([], 0, 0)] })),
     (0#64), _, ((([], 0, 0) : Store × Nat × Nat)), ((([], 0, 0) : Store × Nat × Nat)), (([] : List (Store × Nat × Nat))),
       rfl, by decide, by decide, by decide, by decide, by decide, by decide, by decide, by decide⟩,
   ⟨(regs_ [(0x1700,0x21,2),(0x1700,0x22,7),(0x1700,0x23,7),(0x1700,0x20,1)] (at_ .watch)), ([1#8]), by decide,
     by decide, by decide⟩,
   ⟨(2), (regs_ [(0x1700,0x21,2),(0x1700,0x22,7),(0x1700,0x23,7),(0x1700,0x20,1)] (at_ .watch)), by decide, by decide⟩⟩

theorem meets_ArrayGraftComplete :
    (∃ (s : State), s.position ≠ 0 ∧ s.arrayFormed = true ∧ s.graftBusy = true) ∧
    (∃ (s : State), s.position ≠ 0 ∧ s.arrayFormed = true ∧ s.graftBusy = false ∧ s.duty 2 = 0) ∧
    (∃ (s : State), s.position ≠ 0 ∧ s.arrayFormed = true ∧ s.graftBusy = false ∧ s.duty 2 ≠ 0) ∧
    (∃ (s : State), ∃ (beat : BitVec 64), s.position = 0 ∧ s.joinsWait = true ∧ s.graftState = 2 ∧
      s.fromArray beat = s.regT 0x1800 0x23) ∧
    (∃ (s : State), ∃ (beat : BitVec 64), ∃ w, s.graft.swap = some w ∧ w.byArray = true ∧ s.graft.decided = none ∧
      s.fromArray beat = w.beat) ∧
    (∃ (s : State), ∃ (beat : BitVec 64), ∃ w, s.graft.swap = some w ∧ w.byArray = true ∧ s.graft.decided = none ∧
      s.fromArray beat = w.beat) ∧
    (∃ (s : State), s.position = 0 ∧ s.graft.decided = none ∧ s.joinsWait = true ∧ s.graftState = 2 ∧ s.voteCode = 0) ∧
    (∃ (s : State), s.position = 0 ∧ s.graft.decided = none ∧ s.joinsWait = true ∧ s.graftState = 2 ∧ s.voteCode ≠ 0) ∧
    (∃ (s : State), ∃ w, s.graft.swap = some w ∧ w.byArray = true ∧ s.graft.decided = none) :=
  ⟨⟨(regs_ [(0x1700,0x20,2),(0x1700,0x21,2),(0x1800,0x20,1)] (at_ .watch)), by decide, by decide, by decide⟩,
   ⟨(regs_ [(0x1700,0x20,2),(0x1700,0x21,2)] (at_ .watch)), by decide, by decide, by decide, by decide⟩,
   ⟨(regs_ [(0x1700,0x20,2),(0x1700,0x21,2),(0x1312,0x21,10)] (at_ .watch)), by decide, by decide, by decide, by decide⟩,
   ⟨((regs_ [(0x1700,0x21,2),(0x1800,0x20,2),(0x1800,0x23,99)] (at_ .watch)).modGraft (fun g => { g with swap := some ⟨99#64, 3, false⟩ })),
     (99#64), by decide, by decide, by decide, by decide⟩,
   ⟨((regs_ [(0x1700,0x20,2),(0x1700,0x21,2),(0x1800,0x20,2)] (at_ .watch)).modGraft (fun g => { g with swap := some ⟨99#64, 3, true⟩ })),
     (99#64), ((⟨99#64, 3, true⟩ : SwapRequest)), by decide, by decide, by decide, by decide⟩,
   ⟨((regs_ [(0x1700,0x20,2),(0x1700,0x21,2),(0x1800,0x20,2)] (at_ .watch)).modGraft (fun g => { g with swap := some ⟨99#64, 3, true⟩ })),
     (99#64), ((⟨99#64, 3, true⟩ : SwapRequest)), by decide, by decide, by decide, by decide⟩,
   ⟨((regs_ [(0x1700,0x21,2),(0x1800,0x20,2),(0x1800,0x23,99)] (at_ .watch)).modGraft (fun g => { g with swap := some ⟨99#64, 3, false⟩, members := 5, votes := [(2, 0)] })),
     by decide, by decide, by decide, by decide, by decide⟩,
   ⟨((regs_ [(0x1700,0x21,2),(0x1800,0x20,2),(0x1800,0x23,99)] (at_ .watch)).modGraft (fun g => { g with swap := some ⟨99#64, 3, false⟩, members := 5, votes := [] })),
     by decide, by decide, by decide, by decide, by decide⟩,
   ⟨((regs_ [(0x1700,0x20,2),(0x1700,0x21,2),(0x1800,0x20,2)] (at_ .watch)).modGraft (fun g => { g with swap := some ⟨99#64, 3, true⟩ })),
     ((⟨99#64, 3, true⟩ : SwapRequest)), by decide, by decide, by decide⟩⟩

theorem meets_GraftCommandsComplete :
    (∃ (s : State), ∃ (req : Requester), May s req engineers ∧ s.graftBusy = false) ∧
    (∃ (s : State), ∃ (req : Requester), May s req engineers ∧ s.graftBusy = false ∧ s.reg 0x1801 0x20 = 3 ∧
      s.graft.verified = some 1) ∧
    (∃ (s : State), ∃ (req : Requester), May s req engineers ∧ s.requestCheck false = 0) ∧
    (∃ (s : State), ∃ (req : Requester), May s req engineers ∧ s.requestCheck true = 0) ∧
    (∃ (s : State), ∃ (req : Requester), May s req engineers ∧ s.swapDue = false ∧ s.graftBusy = true ∧
      s.graft.swap.isSome = true) ∧
    (∃ (s : State), s.graftState = 1 ∧ s.graft.swap.isSome = true ∧ s.duty 2 ≠ 0 ∧ s.bedChecks.1 = 0) ∧
    (∃ (s : State), s.graftState = 1 ∧ s.graft.swap.isSome = true ∧ s.duty 2 ≠ 0 ∧ s.bedChecks.1 ≠ 0) ∧
    (∃ (s : State), s.graftState = 1 ∧ s.graft.swap.isSome = true) ∧
    (∃ (s : State), ∃ w, s.graft.swap = some w ∧ s.graftState = 2 ∧ w.kind = 3 ∧ s.graft.decided ≠ some true) ∧
    (∃ (s : State), ∃ w, s.graft.swap = some w ∧ s.graftState = 2 ∧ (w.kind ≠ 3 ∨ s.graft.decided = some true) ∧
      (s.loopsCheck ≠ 0 ∨ s.remapCheck ≠ 0 ∨ s.graft.revoked = true)) ∧
    (∃ (s : State), ∃ w, s.graft.swap = some w ∧ s.graftState = 2 ∧ (w.kind ≠ 3 ∨ s.graft.decided = some true) ∧
      s.loopsCheck = 0 ∧ s.remapCheck = 0 ∧ s.graft.revoked = false) :=
  ⟨⟨(at_ .watch), ((.queue 0 : Requester)), ⟨by decide, by decide⟩, by decide⟩,
   ⟨(((at_ .watch).put 0x1801 0x20 3).modGraft fun g => { g with verified := some 1 }), ((.queue 0 : Requester)),
     ⟨by decide, by decide⟩, by decide, by decide, by decide⟩,
   ⟨((at_ .watch).put 0x1800 2 2560000000), ((.queue 0 : Requester)), ⟨by decide, by decide⟩, by decide +kernel⟩,
   ⟨(((at_ .watch).put 0x1800 2 2560000000).put 0x1800 0x25 1), ((.queue 0 : Requester)), ⟨by decide, by decide⟩,
     by decide +kernel⟩,
   ⟨(((at_ .watch).put 0x1800 0x20 1).modGraft fun g => { g with swap := some ⟨99#64, 1, false⟩ }),
     ((.queue 0 : Requester)), ⟨by decide, by decide⟩, by decide, by decide, by decide⟩,
   ⟨((regs_ [(0x1800,0x20,1),(0x1312,0x21,10)] (at_ .watch)).modGraft (fun g => { g with swap := some ⟨99#64, 1, false⟩ })),
     by decide, by decide, by decide, by decide +kernel⟩,
   ⟨((regs_ [(0x1800,0x20,1),(0x1312,0x21,10),(0x1800,3,1)] (at_ .watch)).modGraft (fun g => { g with swap := some ⟨99#64, 1, false⟩ })),
     by decide, by decide, by decide, by decide +kernel⟩,
   ⟨((regs_ [(0x1800,0x20,1),(0x1312,0x21,10)] (at_ .watch)).modGraft (fun g => { g with swap := some ⟨99#64, 1, false⟩ })),
     by decide, by decide⟩,
   ⟨(((at_ .watch).put 0x1800 0x20 2).modGraft (fun g => { g with swap := some ⟨99#64, 3, false⟩ })), ((⟨99#64, 3,
     false⟩ : SwapRequest)), by decide, by decide, by decide, by decide⟩,
   ⟨(((at_ .watch).put 0x1800 0x20 2).modGraft (fun g => { g with swap := some ⟨99#64, 1, false⟩, revoked := true })),
     ((⟨99#64, 1, false⟩ : SwapRequest)), by decide, by decide, by decide, by decide +kernel⟩,
   ⟨(((at_ .watch).put 0x1800 0x20 2).modGraft (fun g => { g with swap := some ⟨99#64, 1, false⟩ })), ((⟨99#64, 1,
     false⟩ : SwapRequest)), by decide, by decide, by decide, by decide +kernel, by decide +kernel, by decide⟩⟩

theorem meets_StagingComplete :
    (∃ (s : State), ∃ (req : Requester), May s req engineers) ∧
    (∃ (s : State), ∃ (req : Requester), May s req engineers ∧ s.stageState ≠ 2) ∧
    (∃ (s : State), ∃ (req : Requester), ∃ (data : Bytes), May s req engineers ∧ ((∀ c, req ≠ .window c)) ∧
      1 ≤ data.length ∧ data.length ≤ 1024 ∧ s.stageState ≠ 2 ∧ s.regN 0x1801 0x01 + data.length ≤ State.stageSize) ∧
    (∃ (s : State), ∃ (firmware : Bool), ∃ e, ∃ l, s.stageState ≠ 2 ∧
      (s.ring (if firmware then 22 else 21)).entries = e :: l ∧ 1 ≤ leNat (slice e.data 4 2) ∧
        leNat (slice e.data 4 2) ≤ 56 ∧ leNat (slice e.data 0 4) + leNat (slice e.data 4 2) ≤ State.stageSize) ∧
    (∃ (s : State), s.stageState = 2 ∧ s.duty 2 ≠ 0) :=
  ⟨⟨(at_ .watch), ((.queue 0 : Requester)), ⟨by decide, by decide⟩⟩,
   ⟨((at_ .watch).modGraft fun g => { g with stage := [1#8] }), ((.queue 0 : Requester)), ⟨by decide, by decide⟩,
     by decide⟩,
   ⟨((at_ .watch).modGraft (fun g => { g with stage := [1#8, 2#8] })), ((.queue 0 : Requester)), (([7#8] : Bytes)),
     ⟨by decide, by decide⟩, (by intro c h; cases h), by decide, by decide, by decide, by decide⟩,
   ⟨((at_ .watch).modRing 21 (fun r => { r with entries := [⟨0, [], toLe 4 0 ++ toLe 2 2 ++ [3#8, 0#8] ++ [5#8, 6#8], 0#64⟩] })),
     (false), ((⟨0, [], toLe 4 0 ++ toLe 2 2 ++ [3#8, 0#8] ++ [5#8, 6#8], 0#64⟩ : RingEntry)),
       (([] : List RingEntry)), by decide, by decide, by decide, by decide, by decide⟩,
   ⟨(regs_ [(0x1801,0x20,2),(0x1312,0x21,10)] (at_ .watch)), by decide, by decide⟩⟩

theorem meets_FirmwareHandoverComplete :
    (∃ (s : State), ∃ (req : Requester), May s req engineers ∧ s.fwState = 0 ∧ s.staged 2 = true) ∧
    (∃ (s : State), ∃ (req : Requester), May s req engineers ∧ s.fwState = 1 ∧ s.reg 0x1803 0x03 = 1) ∧
    (∃ (s : State), ∃ (req : Requester), May s req engineers ∧ s.fwState = 3) ∧
    (∃ (s : State), ∃ (req : Requester), May s req engineers ∧ s.fallbackOpen = true) ∧
    (∃ (s : State), ∃ (req : Requester), May s req engineers ∧ s.fwState = 1) ∧
    (∃ (s : State), ∃ b1, s.swapDue = false ∧ s.graft.freezeAt = some b1 ∧ s.fwState = 2 ∧
      s.graft.freezeDone = false) ∧
    (∃ (s : State), s.swapDue = false ∧ s.fwState = 2 ∧ s.graft.freezeDone = true ∧
      (s.reg 0x1803 0x04 = 1 ∨ s.graft.selfBack = true)) ∧
    (∃ (s : State), s.swapDue = false ∧ s.fwState = 2 ∧ s.graft.freezeDone = true ∧ s.reg 0x1803 0x04 ≠ 1 ∧ s.graft.selfBack = false) :=
  ⟨⟨(((at_ .watch).put 0x1801 0x20 3).modGraft fun g => { g with verified := some 2 }), ((.queue 0 : Requester)),
    ⟨by decide, by decide⟩, by decide, by decide⟩,
   ⟨(regs_ [(0x1803,0x20,1),(0x1803,3,1)] (at_ .watch)), ((.queue 0 : Requester)), ⟨by decide, by decide⟩, by decide,
     by decide⟩,
   ⟨(((at_ .watch).put 0x1803 0x20 3).modGraft fun g => { g with images := vmod g.images 0 fun _ => some ⟨5, 0, 1, 9, [], [], false⟩ }),
     ((.queue 0 : Requester)), ⟨by decide, by decide⟩, by decide⟩,
   ⟨(((at_ .watch).put 0x1803 0x20 3).modGraft fun g => { g with switchedAt := some 0#64 }), ((.queue 0 : Requester)),
     ⟨by decide, by decide⟩, by decide⟩,
   ⟨((at_ .watch).put 0x1803 0x20 1), ((.queue 0 : Requester)), ⟨by decide, by decide⟩, by decide⟩,
   ⟨(((at_ .watch).put 0x1803 0x20 2).modGraft (fun g => { g with freezeAt := some 5#64 })), ((5#64 : ST64)),
     by decide, by decide, by decide, by decide⟩,
   ⟨((regs_ [(0x1803,0x20,2),(0x1803,4,1)] (at_ .watch)).modGraft (fun g => { g with freezeAt := some 5#64, freezeDone := true })),
     by decide, by decide, by decide, by decide⟩,
   ⟨((regs_ [(0x1803,0x20,2)] (at_ .watch)).modGraft (fun g => { g with freezeAt := some 5#64, freezeDone := true })),
     by decide, by decide, by decide, by decide, by decide⟩⟩

theorem meets_RootstockCommandsComplete :
    (∃ (req : Requester), ∃ (s : State), ∃ (k : Fin 4), ∃ (hash : Bytes), May s req (rootWriters s true) ∧
      dwh s.ctl.mode = true ∧ s.programming = false ∧ s.keySlot k = 0 ∧ hash.length = 32) ∧
    (∃ (s : State), ∃ (k : Fin 4), ∃ (hash : Bytes), ∃ session, s.root.program = some (k.val, hash, session)) ∧
    (∃ (req : Requester), ∃ (s : State), May s req (rootWriters s false) ∧ s.programming = false ∧
      dwh s.ctl.mode = true ∧ s.regN 0x1901 0x08 ∈ s.activeSlots ∧ s.rootSlot req ∈ s.activeSlots ∧
        s.rootSlot req ≠ s.regN 0x1901 0x08) ∧
    (∃ (req : Requester), ∃ (s : State), May s req (rootWriters s false) ∧ s.programming = false ∧
      dwh s.ctl.mode = true ∧ s.activeSlots ≠ []) ∧
    (∃ (req : Requester), ∃ (s : State), ∃ c, ∃ limit, May s req (rootWriters s false) ∧ s.programming = false ∧
      s.regN 0x1901 0x08 = c ∧ ((c = 1 ∧ limit = s.regN 0x1900 0x08) ∨ (c = 4 ∧
        s.root.ext.map Prod.fst = some limit)) ∧ s.regN 0x1901 0x09 ≤ limit ∧ s.rollbackOf c ≤ s.regN 0x1901 0x09) ∧
    (∃ (req : Requester), ∃ (s : State), May s req (rootWriters s false) ∧ s.programming = false ∧
      dwh s.ctl.mode = true ∧ s.staged 5 = true) ∧
    (∃ (req : Requester), ∃ (s : State), May s req (rootWriters s false) ∧ s.programming = false ∧
      dwh s.ctl.mode = true) ∧
    (∃ (req : Requester), ∃ (s : State), May s req (rootWriters s false) ∧ s.programming = false ∧
      s.ctl.recoveryBoot = true ∧ s.staged 2 = true) ∧
    (∃ (s : State), dwh s.ctl.mode = true) ∧
    (∃ (req : Requester), ∃ (s : State), ∃ (data : Bytes), May s req (rootWriters s false) ∧ s.programming = false ∧
      data.length = 1552 ∧ ((∀ k < 4, ownerKeyOk s data k = true))) ∧
    (∃ (req : Requester), ∃ (s : State), ∃ (nonce : Bytes), s.present req = true ∧ ((∀ c, req ≠ .window c)) ∧
      ((isCore req = true ∨ s.reg 0x1900 0x01 ≠ 0)) ∧ s.programming = false ∧ s.root.nonce = none ∧ nonce.length = 32) ∧
    (∃ (s : State), ∃ (nonce : Bytes), s.root.nonce = some nonce) :=
  ⟨⟨(.session 0), ((as_ .security (at_ .watch)).put 0x1900 1 1), (1), ((List.replicate 32 3#8 : Bytes)), ⟨by decide,
    by decide⟩, by decide, by decide, by decide, by decide⟩,
   ⟨((at_ .watch).modRoot (fun r => { r with program := some (1, [3#8], 5) })), (1), (([3#8] : Bytes)), ((5 : Nat)),
     by decide⟩,
   ⟨(.session 0), ((regs_ [(0x1900,1,1),(0x1900,2,5),(0x1901,8,1)] (as_ .security (at_ .watch)))), ⟨by decide,
     by decide⟩, by decide, by decide, by decide, by decide, by decide⟩,
   ⟨(.session 0), ((regs_ [(0x1900,1,1),(0x1900,2,5)] (as_ .security (at_ .watch)))), ⟨by decide, by decide⟩,
     by decide, by decide, by decide⟩,
   ⟨(.session 0),
     ((regs_ [(0x1900,1,1),(0x1900,2,5),(0x1901,8,1),(0x1900,8,7),(0x1901,9,6)] (as_ .security (at_ .watch)))),
       ((1 : Nat)), ((7 : Nat)), ⟨by decide, by decide⟩, by decide, by decide, by decide, by decide, by decide⟩,
   ⟨(.session 0),
     (((regs_ [(0x1900,1,1),(0x1801,0x20,3)] (as_ .security (at_ .watch)))).modGraft fun g => { g with verified := some 5 }),
       ⟨by decide, by decide⟩, by decide, by decide, by decide⟩,
   ⟨(.session 0), ((as_ .security (at_ .watch)).put 0x1900 1 1), ⟨by decide, by decide⟩, by decide, by decide⟩,
   ⟨(.session 0),
     ((((regs_ [(0x1900,1,1),(0x1801,0x20,3)] (as_ .security (at_ .watch)))).modGraft fun g => { g with verified := some 2 }).modCtl fun c => { c with recoveryBoot := true }),
       ⟨by decide, by decide⟩, by decide, by decide, by decide⟩,
   ⟨((as_ .security (at_ .watch)).put 0x1900 1 1), by decide⟩,
   ⟨(.session 0), ((as_ .security (at_ .watch)).put 0x1900 1 1), ((List.replicate 1552 0#8 : Bytes)), ⟨by decide,
     by decide⟩, by decide, by decide +kernel, by decide +kernel⟩,
   ⟨(.session 0), ((as_ .security (at_ .watch)).put 0x1900 1 1), ((List.replicate 32 3#8 : Bytes)), by decide,
     (by intro c h; cases h), by decide, by decide, by decide, by decide⟩,
   ⟨((at_ .watch).modRoot (fun r => { r with nonce := some (List.replicate 32 3#8) })),
     ((List.replicate 32 3#8 : Bytes)), by decide⟩⟩

theorem meets_LifeCommandsComplete : (∃ (s : State), s.duty 0 ≠ 0) :=
  ⟨((at_ .watch).put 0x1310 0x21 10), by decide⟩

theorem meets_RotationComplete :
    (∃ (sensors : List (Option Int)), ∃ a, ∃ l, sensors.filterMap id = a :: l) ∧
    (∃ (s : State), .thermal ∉ s.ctl.causes) ∧
    (∃ (s : State), ∃ k, ∃ power, userEntry s = some (k, 1, power) ∧ taskValid k power = true ∧
      s.taskRequested k = false) ∧
    (∃ (s : State), ∃ k, ∃ power, userEntry s = some (k, 2, power) ∧ taskValid k power = true) ∧
    (∃ (s : State), ∃ (req : Requester), ∃ k, ∃ value, ∃ r, ∃ n, May s req engineers ∧ dwh s.ctl.mode = true ∧
      Dict.find 0x1301 k = some r ∧ r.acc = .rw ∧ typeOk r (.num value) = true ∧ rangeOk r.rng (.num value) = true ∧
        n = s.put 0x1301 k value ∧ (n.reserved s.active : Int) + n.reg 0x1301 0x03 ≤ n.reg 0x1301 0x01) :=
  ⟨⟨([some 300, none, some 1200]), ((300 : Int)), (([1200] : List Int)), by decide⟩,
   ⟨(at_ .watch), by decide⟩,
   ⟨((at_ .watch).modRing 20 (fun r => { r with entries := [⟨0, [], [6#8, 1#8, 0#8, 0#8] ++ toLe 4 100, 0#64⟩] })),
     ((6 : Nat)), ((100 : Nat)), by decide, by decide, by decide⟩,
   ⟨(((at_ .watch).modRing 20 (fun r => { r with entries := [⟨0, [], [6#8, 2#8, 0#8, 0#8] ++ toLe 4 100, 0#64⟩] })).put 0x1316 0x21 10),
     ((6 : Nat)), ((100 : Nat)), by decide, by decide⟩,
   ⟨(at_ .watch), ((.queue 0 : Requester)), ((2 : Nat)), ((120 : Int)), (((Dict.find 0x1301 2).getD ⟨0, 0, 0, 0, "",
     .u8, .ro, 0, .any⟩)), _, ⟨by decide, by decide⟩, by decide, by decide, by decide, by decide, by decide, rfl,
       by decide⟩⟩

theorem meets_ResetSourcesComplete :
    (∃ (s : State), ∃ (c : Instr), ∃ bit, ((∃ low, c = .powerOnReset low ∧ bit = 0) ∨ (c = .vddaBrownout ∧
      bit = 1) ∨ (c = .resetnLong ∧ bit = 2) ∨ (c = .jtagColdReset ∧ bit = 3 ∧
        (s.reg 0x1900 0x01 = 2 → s.reg 0x1900 0x09 ≠ 0)))) ∧
    (∃ (s : State), ∃ b, ∃ l, s.rst.grace = b :: l) ∧
    (∃ (s : State), ∃ (req : Requester), ∃ r, May s req resetWriters ∧ r = s.takeCauses ∧ r.rst.reach = 0) ∧
    (∃ (s : State), s.rst.reach = 0) ∧
    (∃ (s : State), ∃ (src : Fin 16), src.val ∈ s.rst.asserted ∧ ((∃ b ∈ s.rst.asserted, b ≠ src.val))) ∧
    (∃ (s : State), ∃ (src : Fin 16), src.val ∈ s.rst.asserted ∧ ((∀ b ∈ s.rst.asserted, b = src.val))) :=
  ⟨⟨(at_ .watch), (Instr.vddaBrownout), ((1 : Nat)), (Or.inr (Or.inl ⟨rfl, rfl⟩))⟩,
   ⟨({ at_ .watch with rst := { ResetUnit.start with grace := [8, 6] } }), ((8 : Nat)), ([6]), by decide⟩,
   ⟨(as_ .safety (at_ .form)), ((.session 0 : Requester)), _, ⟨by decide, by decide⟩, rfl, by decide⟩,
   ⟨(at_ .watch), by decide⟩,
   ⟨({ at_ .watch with rst := { ResetUnit.start with asserted := [1, 4], reach := 1 } }), (4), by decide, by decide⟩,
   ⟨({ at_ .watch with rst := { ResetUnit.start with asserted := [4], reach := 2 } }), (4), by decide, by decide⟩⟩

theorem meets_BootStepsComplete :
    (∃ (s : State), ∃ (raw : Fin 31), ∃ (code : Nat), s.rst.measured = false ∧ s.rst.ambiguous = false ∧
      s.coldHeld = false ∧ raw.val = 30 - 2 * code ∧ code < 16) ∧
    (∃ (s : State), ∃ (raw : Fin 31), s.rst.measured = false ∧ s.rst.ambiguous = false ∧ s.coldHeld = false ∧
      raw.val % 2 = 1) ∧
    (∃ (s : State), ∃ flash, ∃ c, ∃ i, s.rst.booting = true ∧ s.rst.measured = true ∧ s.ctl.bootStopped = false ∧
      s.cloche.fault = false ∧ s.heldImages flash = some (c, some i) ∧ s.ctl.recoveryBoot = false) :=
  ⟨⟨({ at_ .dormant with rst := ResetUnit.start }), (26), (2), by decide, by decide, by decide, by decide, by decide⟩,
   ⟨({ at_ .dormant with rst := ResetUnit.start }), (25), by decide, by decide, by decide, by decide⟩,
   ⟨({ (at_ .dormant).put 0x1200 1 2 with rst := { ResetUnit.start with measured := true }, root := { RootUnit.reset with cloche := some ⟨5, 0, 1, 9, [], [], false⟩ }, graft := { GraftUnit.idle with images := vmod GraftUnit.idle.images 0 fun _ => some ⟨5, 0, 1, 9, [], [], false⟩ } }),
     ((⟨[], [], [], none, [], [], true⟩ : BootFlash)), ((⟨5, 0, 1, 9, [], [], false⟩ : PairImage)), ((⟨5, 0, 1, 9, [],
       [], false⟩ : PairImage)), by decide, by decide, by decide, by decide, by decide, by decide⟩⟩

theorem meets_DomainResetsComplete :
    (∃ (req : Requester), ∃ (target : BitVec 8), ∃ (s : State), May s req resetWriters ∧ s.rst.reach = 0 ∧
      s.rst.domainRuns = none ∧ target.toNat < 16 ∧
        (8 ≤ target.toNat ∨ s.ctl.mode = .watch ∨ s.ctl.mode = .halt ∨ (s.ctl.mode = .form ∧
          s.gateLaneIdle target.toNat = true)) ∧
            ((8 ≤ target.toNat → target.toNat < 14 → s.inArray = true → s.reg (0x1600 + State.otherLane target.toNat) 0x22 ≠ 0 ∨ s.arrayState = 3))) ∧
    (∃ (req : Requester), ∃ (target : BitVec 8), ∃ (s : State), May s req resetWriters ∧ s.rst.reach = 0 ∧
      s.rst.domainRuns = none ∧ target.toNat < 16 ∧ dwh s.ctl.mode = true) ∧
    (∃ (req : Requester), ∃ (target : BitVec 8), ∃ (s : State), May s req resetWriters ∧ s.rst.reach = 0 ∧
      s.rst.domainRuns = none ∧ sieveTarget s target.toNat = true) ∧
    (∃ (req : Requester), ∃ (target : BitVec 8), ∃ (s : State), May s req resetWriters ∧ s.rst.reach = 0 ∧
      s.rst.domainRuns = none ∧ target.toNat < 12 ∧ dwh s.ctl.mode = true) ∧
    (∃ (req : Requester), ∃ (target : BitVec 8), ∃ (s : State), May s req resetWriters ∧ s.rst.reach = 0 ∧
      s.rst.domainRuns = none ∧ target.toNat < 24 ∧ dwh s.ctl.mode = true) :=
  ⟨⟨(.session 0), (3#8), ((as_ .safety (at_ .watch))), ⟨by decide, by decide⟩, by decide, by decide, by decide,
    by decide, by decide +kernel⟩,
   ⟨(.session 0), (3#8), ((as_ .safety (at_ .watch))), ⟨by decide, by decide⟩, by decide, by decide, by decide,
     by decide⟩,
   ⟨(.session 0), (3#8), (bed [(0x2003,1,1)] (as_ .safety (at_ .watch))), ⟨by decide, by decide⟩, by decide,
     by decide, by decide⟩,
   ⟨(.session 0), (3#8), ((as_ .safety (at_ .watch))), ⟨by decide, by decide⟩, by decide, by decide, by decide,
     by decide⟩,
   ⟨(.session 0), (3#8), ((as_ .safety (at_ .watch))), ⟨by decide, by decide⟩, by decide, by decide, by decide,
     by decide⟩⟩

end Sys2Proof.Tests
end

/-! What a mode command records and answers whatever it meets (R29 to R33, R43), what it meets in DORMANT (R22,
R35), and the eight mode commands in one form. -/

namespace Sys2Proof.Machine

/-! ## Registers and answers -/

namespace State

@[simp] theorem answer_ctl (s : State) (req : Requester) (i k abort : Nat) : (s.answer req i k abort).ctl = s.ctl :=
  (answer_frame ..).same .ctl (by decide)

@[simp] theorem answer_regs (s : State) (req : Requester) (i k abort : Nat) : (s.answer req i k abort).regs = s.regs :=
  (answer_frame ..).same .regs (by decide)

@[simp] theorem answer_rings (s : State) (req : Requester) (i k abort : Nat) :
    (s.answer req i k abort).rings = s.rings :=
  (answer_frame ..).same .rings (by decide)

@[simp] theorem reg_answer (s : State) (req : Requester) (i k abort j m : Nat) :
    (s.answer req i k abort).reg j m = s.reg j m := by
  simp only [reg, answer_regs]

/-- Every requester gets its answer: a RESPONSE, or the record of a refused window access (R32, R498). -/
theorem answer_answered (s : State) (req : Requester) (i k abort : Nat) :
    Answered req i k abort (s.answer req i k abort) := by
  cases req with
  | session n => rfl
  | queue c => rfl
  | window c =>
    intro hne
    have hwin : (s.answer (.window c) i k abort).win = vmod s.win c.val fun w =>
        { status := abort, addr := 0x40000000 + i * 0x800 + k * 8, refused := (satU 32 (w.refused + 1)).toNat } := by
      simp only [answer, if_neg hne]
      rfl
    rw [hwin, vget_vmod_same _ _ _ _ c.isLt]

@[simp] theorem lastCommand_ctl (s : State) (code result : Nat) : (s.lastCommand code result).ctl = s.ctl := rfl

@[simp] theorem lastCommand_rings (s : State) (code result : Nat) : (s.lastCommand code result).rings = s.rings := rfl

@[simp] theorem reg_lastCommand_code (s : State) (code result : Nat) :
    (s.lastCommand code result).reg 0x1101 0x02 = code :=
  (reg_put_other _ _ _ _ (by decide)).trans (reg_put_same ..)

@[simp] theorem reg_lastCommand_result (s : State) (code result : Nat) :
    (s.lastCommand code result).reg 0x1101 0x03 = result := reg_put_same ..

/-- LAST_COMMAND and LAST_RESULT are the only values outside the beds that a recorded command changes. -/
theorem lastCommand_keepsRegs (s : State) (code result : Nat) :
    KeepsRegs [(0x1101, 0x02), (0x1101, 0x03)] s (s.lastCommand code result) := by
  intro i k h
  have hcode : Dict.key i k ≠ Dict.key 0x1101 0x02 := (h (0x1101, 0x02) (by simp)).symm
  have hresult : Dict.key i k ≠ Dict.key 0x1101 0x03 := (h (0x1101, 0x03) (by simp)).symm
  exact (storeGet_put_other hresult _ _).trans (storeGet_put_other hcode _ _)

end State

open State

/-- An answer changes no value outside the beds. -/
theorem KeepsRegs.answer {l : List (Nat × Nat)} {s t : State} (h : KeepsRegs l s t) (req : Requester)
    (i k abort : Nat) : KeepsRegs l s (t.answer req i k abort) := by
  intro j m hj
  rw [answer_regs]
  exact h j m hj

/-! ## Who may do a thing -/

/-- The rights of a requester depend on the sessions alone. -/
theorem mayWrite_of_sessions {s t : State} (h : t.sessions = s.sessions) (req : Requester) (w : Writers) :
    mayWrite t req w = mayWrite s req w := by
  unfold mayWrite roleOf
  rw [h]

/-- The operators of R29: the cores, and the roles OPERATOR, ENGINEER and SAFETY. -/
theorem mayWrite_operators_iff (s : State) (req : Requester) :
    mayWrite s req operators = true ↔
      isCore req = true ∨ s.roleOf req ∈ [some .operator, some .engineer, some .safety] := by
  unfold mayWrite
  split
  · rename_i hcore
    simp [operators, hcore]
  · rename_i hcore
    cases hr : s.roleOf req with
    | none => simp [hcore]
    | some role => simp [operators, hcore]

/-- The causes and transitions that stand presented change no session. -/
theorem State.atCommand_sessions (s : State) : s.atCommand.sessions = s.sessions :=
  ((takeAutomatic_frame _).same .sessions (by decide)).trans ((takeCauses_frame s).same .sessions (by decide))

theorem State.atHalt_sessions (s : State) : s.atHalt.sessions = s.sessions :=
  (takeCauses_frame s).same .sessions (by decide)

/-! ## Mode commands -/

section modeCommand
variable {req : Requester} {code : Nat} {legal : State → Bool} {own : State → Nat} {act : State → State} {s : State}

/-- A mode command of a requester that exists is judged after the causes and transitions that stand presented (R35). -/
theorem modeCommand_present (hp : s.present req = true) :
    modeCommand req code legal own act s = modeCommandAt req code legal own act s.atCommand := by
  simp [modeCommand, hp, atCommand]

/-- A requester outside the operators is refused with 0x0201 (R29). -/
theorem modeCommandAt_role (hw : mayWrite s req operators = false) :
    modeCommandAt req code legal own act s = s.commandRefused req code 0x0201 := by
  simp [modeCommandAt, hw]

/-- A mode command that passes its checks has its effect, is recorded and answered with success (R30, R43). -/
theorem modeCommandAt_pass (hw : mayWrite s req operators = true) (hl : legal s = true) (ho : own s = 0) :
    modeCommandAt req code legal own act s = ((act s).lastCommand code 0).answer req 0x1101 0x01 0 := by
  simp [modeCommandAt, hw, hl, ho]

/-- Whatever an operator's mode command meets, it ends with its record and the answer of one result: success, 0x0401, or
the code of its own conditions (R30, R43). -/
theorem modeCommandAt_records (hw : mayWrite s req operators = true) :
    ∃ (u : State) (result : Nat),
      modeCommandAt req code legal own act s = (u.lastCommand code result).answer req 0x1101 0x01 result ∧
        (result = 0 ∨ result = 0x0401 ∨ result = own s) := by
  unfold modeCommandAt
  rw [if_neg (by simp [hw])]
  split
  · exact ⟨s.refuseMode req code (modeCode s.ctl.mode), 0x0401, rfl, .inr (.inl rfl)⟩
  · split
    · exact ⟨s, own s, rfl, .inr (.inr rfl)⟩
    · exact ⟨act s, 0, rfl, .inl rfl⟩

end modeCommand

/-- The conditions that ENERGIZE and CONNECT share never answer with the code of a role. -/
theorem State.startOwn_ne_role (s : State) (busOk : Bool) : s.startOwn busOk ≠ 0x0201 := by
  unfold startOwn
  split
  · decide
  · split
    · decide
    · split <;> decide

/-- On s, command c is judged as the mode command of number n at state r, where every session is as it was, and its own
conditions never answer with the code of a role. -/
def IsModeCommand (req : Requester) (s r : State) (c : Instr) (n : Nat) : Prop :=
  r.sessions = s.sessions ∧
    ∃ (legal : State → Bool) (own : State → Nat) (act : State → State),
      exec c s = .next (modeCommandAt req n legal own act r) ∧ ∀ u, own u ≠ 0x0201

/-- A command that exec gives the meaning of modeCommand is judged at the state a command meets (R35). -/
theorem IsModeCommand.of_exec {req : Requester} {s : State} {c : Instr} {n : Nat} {legal : State → Bool}
    {own : State → Nat} {act : State → State} (hp : s.present req = true)
    (he : exec c s = .next (modeCommand req n legal own act s)) (ho : ∀ u, own u ≠ 0x0201) :
    IsModeCommand req s s.atCommand c n :=
  ⟨s.atCommand_sessions, legal, own, act, by rw [he, modeCommand_present hp], ho⟩

/-- The eight mode commands of a requester on s, each with its number and the state it meets. -/
def modeCommands (req : Requester) (s : State) : List (Instr × Nat × State) :=
  [(.goWatch req, 1, s.atCommand), (.energize req, 2, s.atCommand), (.connect req, 3, s.atCommand),
   (.cancelConnect req, 4, s.atCommand), (.stop req, 5, s.atCommand), (.toDormant req, 6, s.atCommand),
   (.halt req, 7, s.atHalt), (.clearHalt req, 8, s.atCommand)]

/-- The eight mode commands: HALT is judged after the causes alone, every other one after the transitions too (R35). -/
theorem isModeCommand_of_mem {req : Requester} {s r : State} {c : Instr} {n : Nat} (hp : s.present req = true)
    (h : (c, n, r) ∈ modeCommands req s) :
    IsModeCommand req s r c n := by
  simp only [modeCommands, List.mem_cons, Prod.mk.injEq, List.not_mem_nil, or_false] at h
  obtain ⟨rfl, rfl, rfl⟩ | ⟨rfl, rfl, rfl⟩ | ⟨rfl, rfl, rfl⟩ | ⟨rfl, rfl, rfl⟩ | ⟨rfl, rfl, rfl⟩ | ⟨rfl, rfl, rfl⟩ |
    ⟨rfl, rfl, rfl⟩ | ⟨rfl, rfl, rfl⟩ := h
  · -- GO_WATCH
    refine .of_exec hp rfl fun u => ?_
    split <;> decide
  · -- ENERGIZE
    refine .of_exec hp rfl fun u => ?_
    split
    · decide
    · split
      · decide
      · exact u.startOwn_ne_role _
  · -- CONNECT
    refine .of_exec hp rfl fun u => ?_
    split
    · decide
    · exact u.startOwn_ne_role _
  · -- CANCEL_CONNECT
    exact .of_exec hp rfl fun _ => by decide
  · -- STOP
    exact .of_exec hp rfl fun _ => by decide
  · -- TO_DORMANT
    exact .of_exec hp rfl fun _ => by decide
  · -- HALT, which is no modeCommand: it ranks with the causes
    exact ⟨s.atHalt_sessions, _, _, _, congrArg Host.Outcome.next (if_neg (by simp [hp])), fun _ => by decide⟩
  · -- CLEAR_HALT
    refine .of_exec hp rfl fun u => ?_
    split
    · decide
    · split <;> decide

/-! ## What is met in DORMANT -/

namespace State

theorem takeSync_of_mode {s : State} (h : s.ctl.mode ≠ .watch) : s.takeSync = s := by simp [takeSync, h]

theorem takeRamp_of_mode {s : State} (h : s.ctl.mode ≠ .energize) : s.takeRamp = s := by simp [takeRamp, h]

theorem takeExit_of_mode {s : State} (h : s.ctl.mode ≠ .ride) : s.takeExit = s := by simp [takeExit, h]

theorem takeRecovery_of_mode {s : State} (h : s.ctl.mode ≠ .ride) : s.takeRecovery = s := by simp [takeRecovery, h]

/-- Outside FORM a presented RIDE entry is discarded, and the mode controller is left (R36). -/
theorem takeRide_ctl_of_mode {s : State} (h : s.ctl.mode ≠ .form) : s.takeRide.ctl = s.ctl := by
  unfold takeRide
  split
  · simp only [if_neg h]
    rfl
  · rfl

/-- No automatic transition leaves DORMANT. -/
theorem takeAutomatic_ctl_of_dormant {s : State} (h : s.ctl.mode = .dormant) : s.takeAutomatic.ctl = s.ctl := by
  have hride : s.takeRide.ctl = s.ctl := takeRide_ctl_of_mode (by simp [h])
  unfold takeAutomatic
  rw [takeSync_of_mode (by simp [h]), takeRamp_of_mode (by simp [h]), takeExit_of_mode (by simp [hride, h]),
    takeRecovery_of_mode (by simp [hride, h]), hride]

/-- A cause taken in DORMANT is recorded only: it is no longer pending (R22). -/
theorem takeCause_of_dormant {s : State} (h : s.ctl.mode = .dormant) (c : HaltCause) :
    s.takeCause c =
      s.modCtl fun x => { x with pendingCauses := x.pendingCauses.filter fun d => decide (d ≠ c) } := by
  simp only [takeCause, h]

/-- Taking every pending cause in DORMANT changes nothing but what is pending (R22, R35). -/
theorem takeCauses_of_dormant {s : State} (h : s.ctl.mode = .dormant) :
    ∃ p, s.takeCauses = s.modCtl fun x => { x with pendingCauses := p } := by
  unfold takeCauses
  generalize s.ctl.pendingCauses = l
  induction l generalizing s with
  | nil => exact ⟨s.ctl.pendingCauses, rfl⟩
  | cons c l ih =>
    rw [List.foldl_cons]
    split
    · rw [takeCause_of_dormant h]
      obtain ⟨p, hp⟩ := ih (s := s.modCtl fun x =>
        { x with pendingCauses := x.pendingCauses.filter fun d => decide (d ≠ c) }) h
      exact ⟨p, hp⟩
    · exact ih h

/-- What a command meets in DORMANT: the mode controller as it was, but for what is pending. -/
theorem atCommand_ctl_of_dormant {s : State} (h : s.ctl.mode = .dormant) :
    ∃ p, s.atCommand.ctl = { s.ctl with pendingCauses := p } := by
  obtain ⟨p, hp⟩ := takeCauses_of_dormant h
  have hm : s.takeCauses.ctl.mode = .dormant := by rw [hp]; exact h
  exact ⟨p, by rw [atCommand, takeAutomatic_ctl_of_dormant hm, hp]; rfl⟩

/-- With a cause active, DORMANT is left for HALT (R22). -/
theorem leaveDormant_of_causes {s : State} (h : s.ctl.mode = .dormant) (hc : s.ctl.causes ≠ []) :
    s.leaveDormant.In .halt .none := by
  obtain ⟨p, hp⟩ := takeCauses_of_dormant h
  obtain ⟨c, l, hcl⟩ := List.exists_cons_of_ne_nil hc
  have hhalt : s.leaveDormant =
      ((s.takeCauses.modCtl fun x => { x with pllRunning := true }).enterHalt c).toutPins := by
    simp only [leaveDormant, hp, modCtl_ctl, hcl]
  obtain ⟨hmode, hsub⟩ : InMode .halt .none s.leaveDormant := by
    rw [hhalt]
    exact .after (toutPins_frame _) (by decide) (enterHalt_mode _ _)
  exact ⟨hmode, hsub⟩

/-! ## Causes -/

@[simp] theorem raiseCause_mode (s : State) (c : HaltCause) : (s.raiseCause c).ctl.mode = s.ctl.mode :=
  ((raiseCause_frame s c).mode (by decide)).1

@[simp] theorem raiseCause_sub (s : State) (c : HaltCause) : (s.raiseCause c).ctl.sub = s.ctl.sub :=
  ((raiseCause_frame s c).mode (by decide)).2

end State

/-- HALT causes have different bits: their declaration is in bit order (R39). -/
theorem causeBit_inj {c d : HaltCause} (h : causeBit c = causeBit d) : c = d := by
  have ofNat_causeBit (e : HaltCause) : HaltCause.ofNat (causeBit e) = e := by cases e <;> rfl
  rw [← ofNat_causeBit c, h, ofNat_causeBit]

theorem mem_causeIns (c : HaltCause) (l : List HaltCause) : c ∈ causeIns c l := by
  induction l with
  | nil => simp [causeIns]
  | cons d r ih =>
    unfold causeIns
    split
    · next heq => exact causeBit_inj heq ▸ List.mem_cons_self
    · split
      · exact List.mem_cons_self
      · exact List.mem_cons_of_mem d ih

/-- A cause that becomes active is among the active causes. -/
theorem State.mem_raiseCause (s : State) (c : HaltCause) : c ∈ (s.raiseCause c).ctl.causes := by
  unfold raiseCause
  split
  · rename_i h
    exact List.contains_iff_mem.mp h
  · exact mem_causeIns c _

/-- The bit map of a list of causes has the bits of the causes listed. -/
theorem testBit_causeMap_of_mem {c : HaltCause} {l : List HaltCause} (h : c ∈ l) :
    (causeMap l).testBit (causeBit c) = true := by
  have kept (m : Nat) (r : List HaltCause) (hm : m.testBit (causeBit c) = true) :
      (r.foldl (fun m d => m ||| (1 <<< causeBit d)) m).testBit (causeBit c) = true := by
    induction r generalizing m with
    | nil => exact hm
    | cons d r ih => exact ih _ (by simp [hm])
  obtain ⟨a, b, rfl⟩ := List.append_of_mem h
  unfold causeMap
  rw [List.foldl_append, List.foldl_cons]
  exact kept _ _ (by simp [Nat.testBit_shiftLeft])

end Sys2Proof.Machine

/-! Who may command the modes, and the HALT causes that meet DORMANT (R22, R29). -/

namespace Sys2Proof.Machine
open State

/-- Settles O6: an operator's command ends with success, 0x0401 or its own code, and any other session's is refused
ahead of every other check; the role is that of the sending, as no transition changes a session. -/
theorem rolesThatCommandTheModes : Obligations.RolesThatCommandTheModes := by
  intro req s r c n hp hmem
  obtain ⟨hsessions, legal, own, act, hexec, hown⟩ := isModeCommand_of_mem hp hmem
  have hmay : mayWrite r req operators = true ↔
      isCore req = true ∨ s.roleOf req ∈ [some .operator, some .engineer, some .safety] := by
    rw [mayWrite_of_sessions (hsessions), mayWrite_operators_iff]
  constructor
  · intro hrole
    obtain ⟨u, result, heq, hresult⟩ := modeCommandAt_records (req := req) (code := n) (legal := legal) (own := own)
      (act := act) (hmay.mpr hrole)
    refine ⟨_, hexec, ?_⟩
    have hne : result ≠ 0x0201 := by
      obtain rfl | rfl | rfl := hresult
      · decide
      · decide
      · exact hown r
    rw [heq]
    simp only [reg_answer, reg_lastCommand_code, reg_lastCommand_result]
    exact ⟨trivial, fun h => hne (Int.ofNat_inj.mp h)⟩
  · intro hcore hrole
    have hw : mayWrite r req operators = false :=
      Bool.eq_false_iff.mpr fun h => (hmay.mp h).elim (by simp [hcore]) hrole
    refine ⟨_, hexec, ?_⟩
    rw [modeCommandAt_role hw, commandRefused]
    exact ⟨by simp, by simp, by simp, by simp, .answer (lastCommand_keepsRegs _ _ _) _ _ _ _, answer_answered ..⟩

/-- Settles O8: in DORMANT the controller takes a cause by its record alone, and what leaves DORMANT enters HALT where a
cause is active; GO_WATCH meets the same causes, as nothing presented leaves DORMANT ahead of it. -/
theorem haltCausesInDormant : Obligations.HaltCausesInDormant := by
  intro s hd
  refine ⟨fun c => ⟨_, rfl, ?_⟩, fun hc => ⟨leaveDormant_of_causes hd hc, fun hboot hrec => ?_,
    fun req hp hw hboot hrec => ?_⟩⟩
  · have hbit := testBit_causeMap_of_mem (s.mem_raiseCause c)
    split
    · rw [takeCause_of_dormant (by simp [hd])]
      exact ⟨⟨by simp [hd], by simp⟩, hbit⟩
    · exact ⟨⟨by simp [hd], by simp⟩, hbit⟩
  · exact ⟨s.leaveDormant, if_pos ⟨hd, hboot, hrec⟩, leaveDormant_of_causes hd hc⟩
  · obtain ⟨p, hctl⟩ := atCommand_ctl_of_dormant hd
    refine ⟨_, rfl, ?_⟩
    rw [modeCommand_present hp, modeCommandAt_pass (by rw [mayWrite_of_sessions s.atCommand_sessions, hw])
      (by simp [hctl, hd, hrec]) (by simp [hctl, hboot])]
    have hhalt : s.atCommand.leaveDormant.In .halt .none :=
      leaveDormant_of_causes (by rw [hctl]; exact hd) (by rw [hctl]; exact hc)
    simpa [State.In] using hhalt

end Sys2Proof.Machine

/-! A written value that stands for a command is that command's step (R30), and COPY of the live update (R617). -/

namespace Sys2Proof.Machine
open State

/-! ## What a write that passes its checks is -/

/-- The row of an ordinary sub-index outside the block instances, where the dictionary has it (R486, R487). -/
theorem State.rowOf_of_find {s : State} {req : Requester} {i k : Nat} {r : Row} (hi : i ≠ 0)
    (he : s.hasEntry i = true) (hk : k ≠ 0) (hk' : k < 0x80) (hinst : isInstance i = false)
    (hf : Dict.find i k = some r) :
    s.rowOf req i k = .ok r := by
  have hlow : ¬ 0x80 ≤ k := Nat.not_le.mpr hk'
  cases req <;> simp [rowOf, portRow, hi, he, hk, hlow, hinst, hf]

/-- A number stored at byte 0 of a slot that a window store reaches is the value written (R497). -/
theorem storeValue_num {req : Requester} {r : Row} (h : windowless req r.ty = false) (n : Int) :
    storeValue req r 0 (.num n) = .num n := by
  cases req with
  | session _ => rfl
  | queue _ => rfl
  | window c =>
    obtain ⟨htime, hstring, hdomain⟩ : r.ty ≠ .time80 ∧ r.ty ≠ .string ∧ r.ty ≠ .domain := by
      simpa [windowless] using h
    -- the three types a window store does not reach are excluded, and every other type takes the number as it is
    simp [storeValue]

section
variable {req : Requester} {i k : Nat} {r : Row} {s t : State}

/-- A number written to an active sub-index outside the block instances is checked against its row. -/
theorem writeAny_num {n : Int} (hp : s.present req = true) (hk : k < 0x80) (hinst : isInstance i = false)
    (hrow : s.rowOf req i k = .ok r) (hty : windowless req r.ty = false) :
    writeAny req i k 0 (.num n) s = activeWrite req i k r (.num n) s := by
  have hlow : ¬ 0x80 ≤ k := Nat.not_le.mpr hk
  simp [writeAny, hp, hlow, hinst, hrow, storeValue_num hty]

/-- A write that passes the checks of role, access, type and range is the command that its value stands for (R30). -/
theorem activeWrite_command {v : DVal} (hw : mayWrite s req (writersOf s i k) = true) (ha : accessCode s req i k = 0)
    (hacc : r.acc = .rw ∨ r.acc = .wo) (hty : typeOk r v = true) (hrange : rangeOk r.rng v = true)
    (hplain : plainRange s i k v = true) (hc : commandWrite req i k v s = some t) :
    activeWrite req i k r v s = t := by
  obtain hacc | hacc := hacc <;> simp [activeWrite, hw, ha, hacc, hty, hrange, hplain, hc]

end

/-! ## COPY (R617) -/

/-- The row of COMMAND of entry 0x1800. -/
def graftCommandRow : Row :=
  ⟨0x1800, 0x1800, 0x01, 0x01, "COMMAND", .u8, .wo, 0, .spans [(1, 1), (2, 2), (3, 3), (4, 4), (5, 5)]⟩

theorem rowOf_graftCommand (s : State) (req : Requester) : s.rowOf req 0x1800 0x01 = .ok graftCommandRow :=
  rowOf_of_find (by decide) rfl (by decide) (by decide) (by decide) rfl

/-- A write of 1 to COMMAND by one who may write it is the step of GRAFT_COPY. -/
theorem writeAny_graftCopy {req : Requester} {s : State} (h : May s req engineers) :
    writeAny req 0x1800 0x01 0 (.num 1) s = outcomeState s (execGraftCopy req s) := by
  obtain ⟨hp, hw⟩ := h
  have hty : windowless req graftCommandRow.ty = false := by cases req <;> rfl
  rw [writeAny_num hp (by decide) (by decide) (rowOf_graftCommand s req) hty]
  exact activeWrite_command hw rfl (.inr rfl) (by decide) (by decide) rfl rfl

namespace State

/-- What COPY brings about: the shadow bed becomes the active bed, and is no bed to go back to and no signed one. -/
def copyBed (s : State) : State :=
  (((s.setShadow s.active).modGraft fun g => { g with shadowImage := none }).put 0x1800 0x25 0).put 0x1800 0x28 0

@[simp] theorem copyBed_shadow (s : State) : s.copyBed.shadow = s.active := rfl

@[simp] theorem copyBed_active (s : State) : s.copyBed.active = s.active := rfl

@[simp] theorem answer_shadow (s : State) (req : Requester) (i k abort : Nat) :
    (s.answer req i k abort).shadow = s.shadow :=
  (answer_frame ..).same .shadow (by decide)

@[simp] theorem answer_active (s : State) (req : Requester) (i k abort : Nat) :
    (s.answer req i k abort).active = s.active :=
  (answer_frame ..).same .active (by decide)

end State

/-- GRAFT_COPY of one who may write, where no swap runs, copies the bed and is answered with success. -/
theorem execGraftCopy_accepted {req : Requester} {s : State} (h : May s req engineers) (hb : s.graftBusy = false) :
    execGraftCopy req s = .next (s.copyBed.answer req 0x1800 0x01 0) := by
  obtain ⟨hp, hw⟩ := h
  exact congrArg Host.Outcome.next (guarded_pass hp hw rfl rfl (by simp [hb]))

/-- Settles O9: the write passes every check of R30 and is the row GRAFT_COPY, whose effect copies the active bed. -/
theorem copyFillsTheShadowBed : Obligations.CopyFillsTheShadowBed := by
  intro req s hmay hb
  have hcopy := execGraftCopy_accepted hmay hb
  have hwrite : writeAny req 0x1800 0x01 0 (.num 1) s = s.copyBed.answer req 0x1800 0x01 0 := by
    rw [writeAny_graftCopy hmay, hcopy]
    rfl
  refine ⟨_, congrArg Host.Outcome.next hwrite, hcopy, ?_, ?_, answer_answered ..⟩ <;> simp

end Sys2Proof.Machine

/-! Slot programming, REVOKE and OWNER_LOCK (R637 to R640): who may ask for them, what their checks of mode and
conditions answer, and what a refusal leaves. -/

namespace Sys2Proof.Machine
open State

/-! ## Values that an operation keeps -/

namespace KeepsRegs
variable {l : List (Nat × Nat)} {s t : State}

theorem refl (l : List (Nat × Nat)) (s : State) : KeepsRegs l s s := fun _ _ _ => rfl

theorem trans {u : State} (h : KeepsRegs l s t) (g : KeepsRegs l t u) : KeepsRegs l s u :=
  fun i k hk => (g i k hk).trans (h i k hk)

theorem mono {m : List (Nat × Nat)} (h : KeepsRegs l s t) (hl : l ⊆ m) : KeepsRegs m s t :=
  fun i k hk => h i k fun p hp => hk p (hl hp)

theorem put (h : KeepsRegs l s t) (i k : Nat) (v : Int) (hm : (i, k) ∈ l) : KeepsRegs l s (t.put i k v) :=
  h.trans fun _ _ hj => storeGet_put_other (hj (i, k) hm).symm _ _

theorem of_regs {u : State} (h : KeepsRegs l s t) (hu : u.regs = t.regs) : KeepsRegs l s u := by
  intro i k hk
  rw [hu]
  exact h i k hk

theorem of_frame {parts : List Part} {u : State} (h : KeepsRegs l s t) (hf : Frame parts t u)
    (hr : .regs ∉ parts) : KeepsRegs l s u :=
  h.of_regs (hf.same .regs hr)

/-- A register whose key is not among those listed reads as before. -/
theorem reg {i k : Nat} (h : KeepsRegs l s t) (hk : ∀ p ∈ l, Dict.key p.1 p.2 ≠ Dict.key i k) :
    t.reg i k = s.reg i k :=
  congrArg numOf (h i k hk)

end KeepsRegs

namespace State

/-- An entry appended to Q3 moves its PEAK_FILL at the most (R519). -/
theorem ringAppend_keepsRegs (s : State) (e : RingEntry) : KeepsRegs eventRegs s (s.ringAppend 3 e) := by
  have hpeak : KeepsRegs eventRegs s (s.put 0x1A23 0x28 ((s.ring 3).entries.length + 1 : Nat)) :=
    (KeepsRegs.refl _ s).put _ _ _ (by decide)
  unfold ringAppend
  dsimp only
  split <;> split
  · exact hpeak.of_regs rfl
  · exact hpeak.of_regs rfl
  · exact (KeepsRegs.refl _ s).of_regs rfl
  · exact (KeepsRegs.refl _ s).of_regs rfl

/-- Outside the beds an event changes the counters and the flags of Q3 alone (R518 to R520). -/
theorem event_keepsRegs (s : State) (code : Nat) (fields : List Int) :
    KeepsRegs eventRegs s (s.event code fields) := by
  have hseq (n : BitVec 32) : KeepsRegs eventRegs s (s.setEventSeq n) := .of_regs (.refl _ s) rfl
  unfold event eventAt
  dsimp only
  split
  · exact (hseq _).trans (ringAppend_keepsRegs _ _)
  · exact ((hseq _).put _ _ _ (by decide)).put _ _ _ (by decide)

end State

/-- What a refusal with 0x0401 may change outside the beds: its two counters, and what its event may (R32). -/
def refusalRegs (req : Requester) : List (Nat × Nat) := (0x1102, sessionNumber req) :: (0x1100, 0x09) :: eventRegs

namespace State

theorem refuseMode_keepsRegs (s : State) (req : Requester) (what mode : Nat) :
    KeepsRegs (refusalRegs req) s (s.refuseMode req what mode) :=
  (((KeepsRegs.refl _ s).put _ _ _ (by simp [refusalRegs])).put _ _ _ (by simp [refusalRegs])).trans
    ((event_keepsRegs _ _ _).mono fun _ hp => .tail _ (.tail _ hp))

/-- A refusal with 0x0401 leaves the values of the security entries. -/
theorem reg_refuseMode_security (s : State) (req : Requester) (what mode : Nat) {i k : Nat}
    (hi : 0x1900 ≤ i ∧ i ≤ 0x1902) (hk : k < 256) : (s.refuseMode req what mode).reg i k = s.reg i k := by
  have hn : sessionNumber req < 256 := by
    cases req with
    | session n => simp only [sessionNumber]; omega
    | queue _ => simp [sessionNumber]
    | window _ => simp [sessionNumber]
  refine (refuseMode_keepsRegs s req what mode).reg fun p hp => ?_
  simp only [refusalRegs, eventRegs, List.mem_cons, List.not_mem_nil, or_false] at hp
  obtain rfl | rfl | rfl | rfl | rfl := hp <;> simp only [Dict.key] <;> omega

@[simp] theorem refuseMode_root (s : State) (req : Requester) (what mode : Nat) :
    (s.refuseMode req what mode).root = s.root :=
  (refuseMode_frame ..).same .root (by decide)

@[simp] theorem refuseMode_sessions (s : State) (req : Requester) (what mode : Nat) :
    (s.refuseMode req what mode).sessions = s.sessions :=
  (refuseMode_frame ..).same .sessions (by decide)

@[simp] theorem answer_root (s : State) (req : Requester) (i k abort : Nat) :
    (s.answer req i k abort).root = s.root :=
  (answer_frame ..).same .root (by decide)

@[simp] theorem answer_sessions (s : State) (req : Requester) (i k abort : Nat) :
    (s.answer req i k abort).sessions = s.sessions :=
  (answer_frame ..).same .sessions (by decide)

/-- A session's request is answered with the code of its answer and no other. -/
theorem answered_session_iff (s : State) (n : Fin 16) (i k code abort : Nat) :
    Answered (.session n) i k code (s.answer (.session n) i k abort) ↔ abort = code := by
  simp [Answered, answer, send]

end State

/-! ## Checked writes by one who may ask -/

section guarded
variable {req : Requester} {i k : Nat} {who : Writers} {own : Nat} {act : State → State} {s : State}

/-- In a wrong mode a write is refused with 0x0401, ahead of its own conditions (R30, R32). -/
theorem guarded_mode (h : May s req who) :
    guarded req i k who true false own act s =
      (s.refuseMode req (Dict.key i k) (modeCode s.ctl.mode)).answer req i k 0x0401 := by
  obtain ⟨hp, hw⟩ := h
  simp [guarded, hp, hw]

/-- In a right mode a write is refused with the code of its own conditions (R30). -/
theorem guarded_own (h : May s req who) (ho : own ≠ 0) :
    guarded req i k who true true own act s = s.answer req i k own := by
  obtain ⟨hp, hw⟩ := h
  simp [guarded, hp, hw, ho]

/-- In a right mode a write, accepted or not, is answered with the code of its own conditions. -/
theorem guarded_answers (h : May s req who) :
    ∃ u, guarded req i k who true true own act s = State.answer u req i k own := by
  by_cases ho : own = 0
  · obtain ⟨hp, hw⟩ := h
    exact ⟨act s, ho ▸ guarded_pass hp hw rfl rfl rfl⟩
  · exact ⟨s, guarded_own h ho⟩

end guarded

/-! ## Who may write the security entries (R638, R659) -/

section rootWriters
variable {req : Requester} {s : State}

/-- Nobody else than a session writes the security entries. -/
theorem session_of_rootWriters {hash : Bool} (h : mayWrite s req (rootWriters s hash) = true) :
    ∃ n, req = .session n := by
  have hcores : (rootWriters s hash).cores = false := by
    unfold rootWriters
    split <;> rfl
  cases req with
  | session n => exact ⟨n, rfl⟩
  | queue _ => simp [mayWrite, isCore, hcores] at h
  | window _ => simp [mayWrite, isCore, hcores] at h

/-- In BLANK there is no writer of the security entries but the slot hashes. -/
theorem not_blank_of_rootWriters (h : mayWrite s req (rootWriters s false) = true) : s.reg 0x1900 0x01 ≠ 0 := by
  intro hblank
  obtain ⟨n, rfl⟩ := session_of_rootWriters h
  cases hrole : s.roleOf (.session n) <;> simp [mayWrite, isCore, rootWriters, hblank, hrole] at h

/-- Whoever may write the other security entries may write the slot hashes. -/
theorem mayWrite_slotHash (h : mayWrite s req (rootWriters s false) = true) :
    mayWrite s req (rootWriters s true) = true := by
  have hwho : rootWriters s true = rootWriters s false := by simp [rootWriters, not_blank_of_rootWriters h]
  rw [hwho, h]

end rootWriters

/-! ## Commands of entry 0x1901 -/

section rootCommand
variable {req : Requester} {own : Nat} {act : State → State} {s : State}

/-- Outside its modes a command of entry 0x1901 is refused with 0x0401, which CMD_RESULT keeps. -/
theorem rootCommand_mode (h : May s req (rootWriters s false)) :
    rootCommand req false own act s =
      ((s.put 0x1901 0x0A 0x0401).refuseMode req (Dict.key 0x1901 0x07) (modeCode s.ctl.mode)).answer
        req 0x1901 0x07 0x0401 := by
  obtain ⟨hp, hw⟩ := h
  simp only [rootCommand, hp, hw]
  exact guarded_mode ⟨hp, hw⟩

/-- In its modes a command of entry 0x1901 is refused with the code of its own conditions, which CMD_RESULT keeps. -/
theorem rootCommand_own (h : May s req (rootWriters s false)) (hprog : s.programming = false) (ho : own ≠ 0) :
    rootCommand req true own act s = (s.put 0x1901 0x0A own).answer req 0x1901 0x07 own := by
  obtain ⟨hp, hw⟩ := h
  simp only [rootCommand, hp, hw, hprog]
  exact guarded_own ⟨hp, hw⟩ ho

/-- A command of entry 0x1901 that passes its checks has its effect, with 0 in CMD_RESULT. -/
theorem rootCommand_pass (h : May s req (rootWriters s false)) (hprog : s.programming = false) :
    rootCommand req true 0 act s = (act (s.put 0x1901 0x0A 0)).answer req 0x1901 0x07 0 := by
  obtain ⟨hp, hw⟩ := h
  simp only [rootCommand, hp, hw, hprog]
  exact guarded_pass hp hw rfl rfl rfl

/-- A command of entry 0x1901 that its mode refuses leaves the lifecycle, the slots, Rootstock and the sessions. -/
theorem rootCommand_mode_keeps {t : State} (h : May s req (rootWriters s false))
    (ht : t = rootCommand req false own act s) :
    t.reg 0x1900 0x01 = s.reg 0x1900 0x01 ∧ t.reg 0x1900 0x02 = s.reg 0x1900 0x02 ∧ t.reg 0x1901 0x0A = 0x0401 ∧
      t.sessions = s.sessions ∧ t.root = s.root ∧ Answered req 0x1901 0x07 0x0401 t := by
  rw [ht, rootCommand_mode h]
  refine ⟨?_, ?_, ?_, by simp, by simp, answer_answered ..⟩
  · rw [reg_answer, reg_refuseMode_security _ _ _ _ (by decide) (by decide), reg_put_other _ _ _ _ (by decide)]
  · rw [reg_answer, reg_refuseMode_security _ _ _ _ (by decide) (by decide), reg_put_other _ _ _ _ (by decide)]
  · rw [reg_answer, reg_refuseMode_security _ _ _ _ (by decide) (by decide), reg_put_same]

/-- In its modes a command of entry 0x1901 leaves the code of its own conditions in CMD_RESULT, where its effect
leaves that register. -/
theorem reg_rootCommand_result (h : May s req (rootWriters s false)) (hprog : s.programming = false)
    (hact : ∀ u, (act u).reg 0x1901 0x0A = u.reg 0x1901 0x0A) :
    (rootCommand req true own act s).reg 0x1901 0x0A = own := by
  by_cases ho : own = 0
  · rw [ho, rootCommand_pass h hprog, reg_answer, hact, reg_put_same]
    rfl
  · rw [rootCommand_own h hprog ho, reg_answer, reg_put_same]

end rootCommand

/-! ## OWNER_LOCK, REVOKE and the slot hashes -/

namespace State

/-- A change of the debug scope writes DEBUG_STATE and queues its event (R653). -/
theorem debugTo_keepsRegs (s : State) (token : Option Nat) (cause : Nat) :
    KeepsRegs ((0x1900, 0x09) :: eventRegs) s (s.debugTo token cause) := by
  have hroot : KeepsRegs ((0x1900, 0x09) :: eventRegs) s (s.modRoot fun r => { r with token := token }) :=
    (KeepsRegs.refl _ s).of_regs rfl
  unfold debugTo
  exact (hroot.put 0x1900 0x09 _ (by simp)).trans ((event_keepsRegs _ _ _).mono fun _ hp => .tail _ hp)

/-- A slot that takes a state writes the slots' fuses and queues its event (R656). -/
theorem setKeySlot_keepsRegs (s : State) (k state session : Nat) :
    KeepsRegs ((0x1900, 0x02) :: eventRegs) s (s.setKeySlot k state session) :=
  .trans (.put (.refl _ s) _ _ _ (by simp)) ((event_keepsRegs _ _ _).mono fun _ hp => .tail _ hp)

end State

/-- OWNER_LOCK is a command of entry 0x1901 legal in DORMANT, WATCH and HALT that no ACTIVE slot refuses with 0x0C0F;
its effect is the lifecycle LOCKED (R640). -/
theorem execOwnerLock_eq (req : Requester) (s : State) :
    ∃ act : State → State,
      (∀ u, (act u).reg 0x1900 0x01 = 2 ∧ (act u).reg 0x1901 0x0A = u.reg 0x1901 0x0A) ∧
      execOwnerLock req s =
        .next (rootCommand req (dwh s.ctl.mode) (if s.activeSlots.isEmpty then 0x0C0F else 0) act s) := by
  refine ⟨_, fun u => ?_, rfl⟩
  have hdebug := debugTo_keepsRegs (u.put 0x1900 0x01 2) u.root.token 3
  split
  · next hlocked => exact ⟨hlocked, rfl⟩
  · constructor
    · rw [hdebug.reg (by decide), reg_put_same]
    · rw [hdebug.reg (by decide), reg_put_other _ _ _ _ (by decide)]

/-- REVOKE is a command of entry 0x1901 legal in DORMANT, WATCH and HALT whose own code is 0x0C0F; its effect leaves
CMD_RESULT (R639, R640). -/
theorem execKeyRevoke_eq (req : Requester) (s : State) :
    ∃ (own : Nat) (act : State → State), (own = 0 ∨ own = 0x0C0F) ∧
      (∀ u, (act u).reg 0x1901 0x0A = u.reg 0x1901 0x0A) ∧
      execKeyRevoke req s = .next (rootCommand req (dwh s.ctl.mode) own act s) := by
  refine ⟨_, _, ?_, fun u => ?_, rfl⟩
  · split
    · exact .inl rfl
    · exact .inr rfl
  · -- the slot's fuses, then the marks of the images it signed, then the end of the sessions that root in it
    have hslot := (setKeySlot_keepsRegs u (s.regN 0x1901 0x08) 2 (sessionNumber req)).mono
      (m := (0x1800, 0x28) :: (0x1900, 0x02) :: eventRegs) fun _ hp => .tail _ hp
    refine KeepsRegs.reg (l := (0x1800, 0x28) :: (0x1900, 0x02) :: eventRegs) ?_ (by decide)
    refine .of_frame ?_ (Frame.foldl [.sessions] _ (fun v n => ?_) _ _) (by decide)
    · refine .of_frame ?_ (modGraft_frame _ _) (by decide)
      split <;> split
      · exact (hslot.put 0x1800 0x28 0 (by simp)).of_frame (modGraft_frame _ _) (by decide)
      · exact hslot
      · contradiction
      · exact hslot
    · split
      · split
        · exact endSession_frame _ _
        · exact .refl _ _
      · exact .refl _ _

/-- The row of SLOT_HASH0 to SLOT_HASH3 of entry 0x1901. -/
def slotHashRow : Row := ⟨0x1901, 0x1901, 0x01, 0x04, "SLOT_HASH0", .domain, .rw, 0, .bytes 32 32⟩

theorem find_slotHash (k : Fin 4) : Dict.find 0x1901 (1 + k.val) = some slotHashRow := by
  match k with
  | 0 | 1 | 2 | 3 => rfl

/-- A write of 32 bytes to a slot hash by one who may is judged by its mode and its own conditions (R637). -/
theorem guardedWrite_slotHash {req : Requester} {modeOk : Bool} {own : Nat} {act : State → State} {s : State}
    (h : May s req (rootWriters s true)) (k : Fin 4) {hash : Bytes} (hlen : hash.length = 32) :
    guardedWrite req 0x1901 (1 + k.val) (rootWriters s true) modeOk own (.bytes hash) act s =
      guarded req 0x1901 (1 + k.val) (rootWriters s true) true modeOk own act s := by
  obtain ⟨hp, hw⟩ := h
  obtain ⟨n, rfl⟩ := session_of_rootWriters hw
  have htype : typeOk slotHashRow (.bytes hash) = true := by simp [typeOk, slotHashRow, DType.holds, hlen]
  exact guardedWrite_row rfl (find_slotHash k) (.inl rfl) rfl htype rfl hp hw

/-! ## The three commands in their modes (R640) -/

section modes
variable {req : Requester} {s : State}

theorem ownerLock_illegal (h : May s req (rootWriters s false)) (hd : dwh s.ctl.mode = false) :
    Completes (.ownerLock req) s fun t => t.reg 0x1900 0x01 = s.reg 0x1900 0x01 ∧ t.reg 0x1901 0x0A = 0x0401 ∧
      t.root = s.root ∧ Answered req 0x1901 0x07 0x0401 t := by
  obtain ⟨act, -, hexec⟩ := execOwnerLock_eq req s
  rw [hd] at hexec
  obtain ⟨hlife, -, hresult, -, hroot, hanswer⟩ := rootCommand_mode_keeps h rfl
  exact ⟨_, hexec, hlife, hresult, hroot, hanswer⟩

theorem keyRevoke_illegal (h : May s req (rootWriters s false)) (hd : dwh s.ctl.mode = false) :
    Completes (.keyRevoke req) s fun t => t.reg 0x1900 0x02 = s.reg 0x1900 0x02 ∧ t.reg 0x1901 0x0A = 0x0401 ∧
      t.sessions = s.sessions ∧ t.root = s.root ∧ Answered req 0x1901 0x07 0x0401 t := by
  obtain ⟨own, act, -, -, hexec⟩ := execKeyRevoke_eq req s
  rw [hd] at hexec
  obtain ⟨-, hslots, hresult, hsessions, hroot, hanswer⟩ := rootCommand_mode_keeps h rfl
  exact ⟨_, hexec, hslots, hresult, hsessions, hroot, hanswer⟩

theorem slotProgram_illegal (h : May s req (rootWriters s true)) (hd : dwh s.ctl.mode = false) (k : Fin 4)
    {hash : Bytes} (hlen : hash.length = 32) :
    Completes (.slotProgram req k hash) s fun t => t.root = s.root ∧ Answered req 0x1901 (1 + k.val) 0x0401 t := by
  refine ⟨_, congrArg Host.Outcome.next (guardedWrite_slotHash h k hlen), ?_⟩
  rw [hd, guarded_mode h]
  exact ⟨by simp, answer_answered ..⟩

theorem ownerLock_without_active (h : May s req (rootWriters s false)) (hd : dwh s.ctl.mode = true)
    (hprog : s.programming = false) (hnone : s.activeSlots = []) :
    Completes (.ownerLock req) s fun t => t.reg 0x1900 0x01 = s.reg 0x1900 0x01 ∧ t.reg 0x1901 0x0A = 0x0C0F ∧
      t.root = s.root ∧ Answered req 0x1901 0x07 0x0C0F t := by
  obtain ⟨act, -, hexec⟩ := execOwnerLock_eq req s
  rw [hd] at hexec
  refine ⟨_, hexec, ?_⟩
  rw [hnone, rootCommand_own h hprog (by decide)]
  refine ⟨?_, ?_, by simp, answer_answered ..⟩
  · rw [reg_answer, reg_put_other _ _ _ _ (by decide)]
  · rw [reg_answer]
    exact reg_put_same ..

theorem ownerLock_locks (h : May s req (rootWriters s false)) (hd : dwh s.ctl.mode = true)
    (hprog : s.programming = false) (hsome : s.activeSlots ≠ []) :
    Completes (.ownerLock req) s fun t => t.reg 0x1900 0x01 = 2 ∧ t.reg 0x1901 0x0A = 0 ∧
      Answered req 0x1901 0x07 0 t := by
  obtain ⟨act, hact, hexec⟩ := execOwnerLock_eq req s
  rw [hd] at hexec
  refine ⟨_, hexec, ?_⟩
  rw [if_neg (by simpa using hsome), rootCommand_pass h hprog]
  obtain ⟨hlife, hresult⟩ := hact (s.put 0x1901 0x0A 0)
  exact ⟨by rw [reg_answer, hlife], by rw [reg_answer, hresult, reg_put_same], answer_answered ..⟩

theorem keyRevoke_legal (h : May s req (rootWriters s false)) (hd : dwh s.ctl.mode = true)
    (hprog : s.programming = false) :
    Completes (.keyRevoke req) s fun t => t.reg 0x1901 0x0A ≠ 0x0401 := by
  obtain ⟨own, act, hown, hact, hexec⟩ := execKeyRevoke_eq req s
  rw [hd] at hexec
  have hresult := reg_rootCommand_result (own := own) h hprog hact
  refine ⟨_, hexec, fun hmode => ?_⟩
  rw [hresult] at hmode
  obtain rfl | rfl := hown
  · exact absurd hmode (by decide)
  · exact absurd hmode (by decide)

theorem slotProgram_legal (h : May s req (rootWriters s true)) (hd : dwh s.ctl.mode = true)
    (hprog : s.programming = false) (k : Fin 4) {hash : Bytes} (hlen : hash.length = 32) :
    Completes (.slotProgram req k hash) s fun t => ¬ Answered req 0x1901 (1 + k.val) 0x0401 t := by
  refine ⟨_, congrArg Host.Outcome.next (guardedWrite_slotHash h k hlen), ?_⟩
  obtain ⟨n, rfl⟩ := session_of_rootWriters h.2
  obtain ⟨u, hu⟩ := guarded_answers (i := 0x1901) h
  rw [hd, hprog, hu, answered_session_iff, if_neg (by decide)]
  split <;> decide

end modes

/-- Settles O10: the mode is judged ahead of a command's own conditions, so outside DORMANT, WATCH and HALT only the
marks of the refusal change, and in them the answer is 0 or the command's own 0x0C0F. -/
theorem slotsAndFusesInTheirModes : Obligations.SlotsAndFusesInTheirModes := by
  intro req s hp hprog hw
  have hmay : May s req (rootWriters s false) := ⟨hp, hw⟩
  have hhash : May s req (rootWriters s true) := ⟨hp, mayWrite_slotHash hw⟩
  refine ⟨fun hmode => ?_, fun hmode => ?_⟩
  · have hd : dwh s.ctl.mode = false := by obtain h | h | h := hmode <;> simp [dwh, h]
    exact ⟨ownerLock_illegal hmay hd, keyRevoke_illegal hmay hd, fun k _ => slotProgram_illegal hhash hd k⟩
  · have hd : dwh s.ctl.mode = true := decide_eq_true hmode
    exact ⟨ownerLock_without_active hmay hd hprog, ownerLock_locks hmay hd hprog, keyRevoke_legal hmay hd hprog,
      fun k _ => slotProgram_legal hhash hd hprog k⟩

end Sys2Proof.Machine
